-- ==== Sys2Proof/Word.lean ====
section
/-! DEFINITION. The plainest words of the part: bytes as they stand in descriptors, frames and the
image, 32-bit registers of the window (R182), and the top of the 32-bit quantities of 1.3. -/

namespace Sys2Proof

/-- One byte of a descriptor, a frame or the configuration image (chapter 12). -/
abbrev Byte := BitVec 8

/-- One 32-bit register of the register window (R182). -/
abbrev Word := BitVec 32

/-- 4,294,967,295, where usage figures, backlogs, ages and the minute count saturate (1.3). -/
abbrev max32 : Nat := 4294967295

/-- The sum of two figures, saturating at 4,294,967,295. -/
def satAdd (a b : Nat) : Nat := min max32 (a + b)

/-- The difference of two figures taken without sign (R19, R66). -/
def absDiff (a b : Nat) : Nat := (a - b) + (b - a)

end Sys2Proof
end

