-- ==== Sys2Proof/Syntax.lean ====
section
/-! DEFINITION. The commands: one constructor of Instr for each row of spec/opcode_table.json, with the
operands the row's rule gives it, and the request kinds of R179. -/

namespace Sys2Proof

/-- The two rings of the register window (R160). -/
inductive Ring where
  | request
  | event
deriving DecidableEq, Repr

/-- The request kinds of R179 with their operands, in the order and width in which the owning rule and R177
place them in the descriptor. Coded operands (class, yes/no) are kept as the byte that came. -/
inductive Request where
  | principalAdd (id cls soft hard period initial : Nat)
  | principalLimits (id soft hard period : Nat)
  | principalRemove (id : Nat)
  | principalQuery (id : Nat)
  | credit (id amount : Nat)
  | charge (id amount : Nat)
  | peerEvict (station : Nat)
  | peerQuery (station : Nat)
  | noticeQuery
  | volumeDeclare (volume enable : Nat)
  | snapCreate (volume generation : Nat)
  | snapRetire (volume generation : Nat)
  | catalogueQuery (volume start : Nat)
  | restoreStart (tag volume generation principal : Nat)
  | restoreEnd (slot tag : Nat)
  | restoreCancel (slot tag : Nat)
  | permitDone (permit moved : Nat)
  | nightOpen (volume generation backlog dawn : Nat)
  | nightResume (volume dawn : Nat)
  | nightDone (volume : Nat)
  | nightAbandon (volume : Nat)
  | nightQuery (volume : Nat)
  | clockSet (minute : Nat)
  | clockQuery
  | configQuery
deriving DecidableEq, Repr

/-- What the configuration memory gave the loader (R172): no acknowledgement of one of the bytes that address it,
counted from 0 in the order they are sent, or the bytes of the image. -/
inductive LoadRead where
  | noAck (place : Nat)
  | image (bytes : List Byte)
deriving DecidableEq, Repr

/-- The accesses to host memory that a link error can meet (R167). -/
inductive HostAccess where
  | requestFetch
  | requestWriteback
  | heldWriteback
  | eventFetch
  | eventPost
deriving DecidableEq, Repr

/-- What an auto-poll fetch found (R163, R166): the request descriptor, or the ownership bytes of the event
descriptor at the position and of the one after it. -/
inductive Polled where
  | request (bytes : List Byte)
  | event (own next : Byte)
deriving DecidableEq, Repr

/-- The commands, one for each row of spec/opcode_table.json. -/
inductive Instr where
  | hardwareReset (station : Nat) (wideAddress : Bool)
  | configLoadBusHeld
  | configLoadEnd (read : LoadRead)
  | offholdRise
  | offholdFall
  | stationTick
  | reload
  | deadlineExpiryRun
  | holdTimeout (place : Nat)
  | peerLapse (station : Nat)
  | isolation
  | learningTimeReached
  | presenceDue
  | refreshSweepStep
  | evictionSweepStep
  | permitTimeout (permit : Nat)
  | holdoffEnd
  | backoffEnd
  | interframeGapComplete
  | collision
  | jamEnd
  | transmitCompletion
  | transmitterTakeFrame
  | burstReceived (bytes : List Byte)
  | frameDelivery
  | usageEntryUpdate
  | arbiterChoice
  | blockedChargeReexecution
  | requestDescriptorFetch (bytes : List Byte)
  | requestWritebackDone (held : Bool)
  | eventDescriptorFetch (own next : Byte)
  | eventPostDone
  | linkError (access : HostAccess)
  | autoPoll (found : Polled)
  | requestStart (control : Word)
  | requestStop (control : Word)
  | eventStart (control : Word)
  | eventStop (control : Word)
  | pollDemand (control : Word)
  | portReset (control : Word)
  | ringBaseWrite (ring : Ring) (high : Bool) (value : Word)
  | ringSizeWrite (ring : Ring) (value : Word)
  | flagsClear (value : Word)
  | maskWrite (value : Word)
  | autoPollIntervalWrite (value : Word)
  | otherRegisterWrite (offset width : Nat) (value : Word)
  | principalAdd (id cls soft hard period initial : Nat)
  | principalLimits (id soft hard period : Nat)
  | principalRemove (id : Nat)
  | principalQuery (id : Nat)
  | credit (id amount : Nat)
  | charge (id amount : Nat)
  | peerEvict (station : Nat)
  | peerQuery (station : Nat)
  | noticeQuery
  | volumeDeclare (volume enable : Nat)
  | snapCreate (volume generation : Nat)
  | snapRetire (volume generation : Nat)
  | catalogueQuery (volume start : Nat)
  | restoreStart (tag volume generation principal : Nat)
  | restoreEnd (slot tag : Nat)
  | restoreCancel (slot tag : Nat)
  | permitDone (permit moved : Nat)
  | nightOpen (volume generation backlog dawn : Nat)
  | nightResume (volume dawn : Nat)
  | nightDone (volume : Nat)
  | nightAbandon (volume : Nat)
  | nightQuery (volume : Nat)
  | clockSet (minute : Nat)
  | clockQuery
  | configQuery
  | lineBecomesBusy
deriving DecidableEq, Repr

end Sys2Proof
end

