-- ==== Sys2Proof/Decode.lean ====
section
/-! DEFINITION. The words of the commands. spec/opcode_table.json gives no row any bits: the part fetches no
instruction words, and its commands reach it as register writes, descriptors, frames and pin events. -/

namespace Sys2Proof

/-- The command that a word spells by the table's bits. No row of the table has bits, so none does. -/
def decodeTableWord (_nbits _w : Nat) : Option Instr := none

end Sys2Proof
end

