-- ==== Sys2Proof/Config.lean ====
section
/-! DEFINITION. The effective configuration record (R173), whose field defaults are the defaults of the
manual, and the values that the manual leaves open, each a constant without a body. -/

namespace Sys2Proof

/-- The effective configuration record of R173, with the default of every field. -/
structure Config where
  stationCount : Nat := 16
  presenceInterval : Nat := 1000
  lapseCount : Nat := 3
  isolationTime : Nat := 5000
  learningTime : Nat := 1100
  refreshRate : Nat := 64
  reportStep : Nat := 4096
  minimumShare : Nat := 256
  holdTimeout : Nat := 50
  readSlots : Nat := 8
  chunk : Nat := 256
  restoreWeight : Nat := 3
  restoreAllowance : Nat := 50
  linkCapacity : Nat := 2560
  minimumRate : Nat := 64
  permitTimeout : Nat := 60
  extendedFormat : Bool := true
  holdHonoured : Bool := true
  skewTolerance : Nat := 5
deriving DecidableEq, Repr, Inhabited

/-- The lapse time: the lapse count times the presence interval (R63). -/
def Config.lapseTime (c : Config) : Nat := c.lapseCount * c.presenceInterval

/-- DESIGN CHOICE (log 7): the backoff generator's output for a seed station and a draw number. The manual
gives the range of a draw (R49), not its value; the draw is this value reduced into that range. -/
opaque Config.backoffDraw : Nat → Nat → Nat

/-- DESIGN CHOICE (log 8): where a ring's position stands after a size is written that the old position
does not fit, from the old position and the new size. R160 gives its range only. -/
opaque Config.resizedPosition : Nat → Nat → Nat

/-- DESIGN CHOICE (log 9): the byte that CONFIG QUERY returns for the EEAW address width. R175 names the
value and R179 gives it no code. -/
opaque Config.addressWidthCode : Bool → Byte

/-- DESIGN CHOICE (log 34): how many of its steps the loader had taken when the memory began to hold SCL, from the
milliseconds since hardware reset at which the load failed so. R172 lets SCL be held at any point of the load. -/
opaque Config.stepsBeforeHold : Nat → Nat

end Sys2Proof
end

