-- ==== Sys2Proof/Machine/State.lean ====
section
/-! DEFINITION. The state of the part as plain data, block by block (00 1.2), and its value after hardware
reset. Every field is listed, with its rule, in INVENTORY.md under State. -/

namespace Sys2Proof.Machine

/-- No command of the part faults: the spec names no fault that stops it (its port's FAULT is a state). -/
inductive Fault where
deriving DecidableEq, Repr

/-- Why a command has no meaning. -/
inductive Refusal where
  /-- Raised by an arm of exec whose row has no meaning yet; safe. No arm uses it. -/
  | notModelled (mnemonic : String)
deriving DecidableEq, Repr

/-! ### Clock and deadlines (chapter 9) -/

/-- The station clock (R152), and the second advances whose reload is still to be taken (log 17). -/
structure Clock where
  millis : Nat := 0
  seconds : Nat := 0
  minute : Nat := 0
  reloadsDue : Nat := 0
deriving DecidableEq, Repr

/-- What a deadline stands for (R154): a principal's grace or a volume's dawn. -/
inductive DeadlineObject where
  | grace (principal : Nat)
  | dawn (volume : Nat)
deriving DecidableEq, Repr

/-- An entry of the deadline list (R154). -/
structure Deadline where
  object : DeadlineObject
  due : Nat
deriving DecidableEq, Repr

/-! ### Quota unit (chapters 1 and 2) -/

inductive PrincipalClass where
  | limited
  | exempt
deriving DecidableEq, Repr

/-- A principal's grace (R2). -/
inductive Grace where
  | absent
  | running (deadline : Nat)
  | expired
deriving DecidableEq, Repr

/-- The derived quota state (R7). -/
inductive QuotaState where
  | under
  | soft
  | expired
  | hard
deriving DecidableEq, Repr

/-- The cause an operation carries (R10). -/
inductive QuotaCause where
  | charge
  | credit
  | restore
  | peer
  | grace
  | limits
  | evict
deriving DecidableEq, Repr

/-- A principal record in its slot (R1, R2). The queued and in-frame markers are views (log 10). -/
structure Principal where
  slot : Nat
  id : Nat
  cls : PrincipalClass
  soft : Nat
  hard : Nat
  period : Nat
  lc : Nat
  la : Nat := 0
  remote : Nat := 0
  grace : Grace := .absent
  restoreJobs : Nat := 0
deriving DecidableEq, Repr

/-- An entry of the contribution map (R4). -/
structure Contribution where
  principal : Nat
  station : Nat
  value : Nat
deriving DecidableEq, Repr

/-- Whose charge a held entry is (R28): the descriptor at a host address, or a restore job. -/
inductive HeldOrigin where
  | charge (address : Nat)
  | restore (job : Nat)
deriving DecidableEq, Repr

/-- An entry of the held list (R28). -/
structure HeldEntry where
  origin : HeldOrigin
  principal : Nat
  amount : Nat
  age : Nat := 0
deriving DecidableEq, Repr

/-- What the quota unit owns (1.2): the principal table, the contribution map and the held list. -/
structure Quota where
  principals : List Principal := []
  contributions : List Contribution := []
  held : List HeldEntry := []
deriving DecidableEq, Repr

/-! ### Notice unit (chapter 5) -/

inductive UsageFormat where
  | base
  | extended
deriving DecidableEq, Repr

/-- An entry of a USAGE frame (R180). -/
structure UsageEntry where
  principal : Nat
  value : Nat
deriving DecidableEq, Repr

/-- An entry of the frame record (R84): what the frame carries, and the section it was taken from. -/
structure NoticeEntry where
  principal : Nat
  value : Nat
  urgent : Bool
deriving DecidableEq, Repr

/-- The frame record (R84). -/
structure FrameRecord where
  format : UsageFormat
  entries : List NoticeEntry
deriving DecidableEq, Repr

/-- What the notice unit owns: the two sections of its queue (R81), the frame record (R84) and the refresh
sweep (R93). -/
structure Notice where
  urgent : List Nat := []
  normal : List Nat := []
  frame : Option FrameRecord := none
  refreshPointer : Nat := 0
  sweepCredit : Nat := 0
deriving DecidableEq, Repr

/-! ### Station bus controller (chapter 3) -/

/-- A duplication claim (R58, R141). -/
structure Claim where
  backlog : Nat
  seconds : Nat
  paused : Bool
deriving DecidableEq, Repr

/-- A frame on the bus (R180). -/
inductive Frame where
  | usage (sender : Nat) (format : UsageFormat) (entries : List UsageEntry)
  | presence (sender : Nat) (extended : Bool) (minute : Nat) (claim : Option Claim)
deriving DecidableEq, Repr

/-- The station number a frame bears (R180). -/
def Frame.sender : Frame → Nat
  | .usage sender _ _ => sender
  | .presence sender _ _ _ => sender

/-- The transmitter states of chapter 3. -/
inductive TxState where
  | off
  | idle
  | deferring
  | sending
  | jamming
  | backoff
  | holdoff
  | silenced
deriving DecidableEq, Repr

/-- The transmitter (R44 to R52). The bytes of the frame last begun are an output of the model's own (log 16), and the
attempt count is given by the rules for a held frame only (log 48). -/
structure Transmitter where
  state : TxState := .off
  frame : Option Frame := none
  attempt : Nat := 0
  gapRunning : Bool := false
  backoffSlots : Nat := 0
  holdoffTicks : Nat := 0
  driven : List Byte := []
deriving DecidableEq, Repr

/-- The backoff generator (R49): the station number that seeded it and the draws made since (log 7). -/
structure Generator where
  seed : Nat := 0
  draws : Nat := 0
deriving DecidableEq, Repr

/-- The line as the station hears it, and the burst in progress on it (R43, R44, R53): whether another station is
heard on it, whether the burst is the own echo (log 25), and whether it is ignored. The line is quiet when no other
station is heard and the transmitter does not drive it. -/
structure Line where
  busy : Bool := false
  echo : Bool := false
  ignored : Bool := false
deriving DecidableEq, Repr

/-- A frame of the receive FIFO with the ticks since its arrival (R55, R60). -/
structure ReceivedFrame where
  frame : Frame
  age : Nat := 0
deriving DecidableEq, Repr

/-- What the station bus controller owns, with the delivery of its FIFO's head (R56). -/
structure Bus where
  tx : Transmitter := {}
  generator : Generator := {}
  listening : Bool := false
  line : Line := {}
  fifo : List ReceivedFrame := []
  delivery : Option (List UsageEntry) := none
deriving DecidableEq, Repr

/-! ### Peer table (chapter 4) -/

inductive PeerState where
  | absent
  | live
  | lapsed
  | evicting
deriving DecidableEq, Repr

/-- A capability set that is present (R58): BASE, or BASE and EXTENDED. -/
inductive Capability where
  | base
  | extended
deriving DecidableEq, Repr

/-- A peer record (R58). -/
structure Peer where
  state : PeerState := .absent
  capability : Option Capability := none
  age : Option Nat := none
  claim : Option Claim := none
  skew : Bool := false
deriving DecidableEq, Repr

inductive StationState where
  | configuring
  | learning
  | joined
  | isolated
  | clash
deriving DecidableEq, Repr

/-- The eviction record (R74), with the sweep steps that past ticks owe (R75, log 17). -/
structure Eviction where
  station : Nat
  pointer : Nat := 0
  removed : Nat := 0
  owed : Nat := 0
deriving DecidableEq, Repr

/-- What the peer table owns: records, station state, common format, and the counts of R67, R71 and R72. After hardware
reset the rules say of the presence count only that it is stopped, and the model takes 0 (DESIGN CHOICE, log 52). -/
structure Peers where
  table : Vector Peer 16 := Vector.replicate 16 {}
  station : StationState := .configuring
  format : UsageFormat := .base
  learningCount : Nat := 0
  silenceAge : Nat := 0
  presenceCount : Nat := 0
  presenceDue : Bool := false
  eviction : Option Eviction := none
deriving DecidableEq, Repr

/-! ### Snapshot catalogue and nights (chapters 6 and 8) -/

inductive OffsiteStatus where
  | localOnly
  | sending
  | offsite
deriving DecidableEq, Repr

/-- A snapshot record (R98). The base role is a view of the volume's base field (log 11). -/
structure Snapshot where
  generation : Nat
  created : Nat
  retirePending : Bool := false
  holds : Nat := 0
  status : OffsiteStatus := .localOnly
deriving DecidableEq, Repr

/-- The night states other than IDLE (R131). -/
inductive NightState where
  | sending
  | paused
  | suspended
  | finishing
  | abandoning
deriving DecidableEq, Repr

/-- A night record that is not IDLE (R131). -/
structure Night where
  state : NightState
  generation : Nat
  remaining : Nat
  dawn : Nat
  permits : Nat := 0
deriving DecidableEq, Repr

/-- A volume record (R96); no night is the state IDLE. -/
structure Volume where
  declared : Bool := false
  offsite : Bool := false
  snapshots : List Snapshot := []
  base : Option Nat := none
  night : Option Night := none
deriving DecidableEq, Repr

/-- Why a night changed state (R132). -/
inductive NightCause where
  | hold
  | release
  | dawn
  | ended
deriving DecidableEq, Repr

/-- The duplication engine's bucket, rate and last reload (R146, R150). -/
structure Duplication where
  tokens : Nat := 0
  rate : Nat := 0
  lastW : Nat := 0
  lastSelf : Nat := 0
deriving DecidableEq, Repr

/-! ### Restore engine and arbiter (chapter 7) -/

inductive JobState where
  | running
  | syncWait
  | quotaWait
  | finishing
  | cancelling
deriving DecidableEq, Repr

/-- A restore job record (R111). -/
structure Job where
  tag : Nat
  volume : Nat
  generation : Nat
  principal : Nat
  state : JobState := .running
  permits : Nat := 0
  deferred : Bool := false
  charged : Nat := 0
  moved : Nat := 0
  expired : Nat := 0
deriving DecidableEq, Repr

/-- Kind and owner of an outstanding permit (R123). -/
inductive PermitOwner where
  | job (slot principal : Nat)
  | night (volume generation : Nat)
deriving DecidableEq, Repr

/-- An outstanding permit (R123). -/
structure Permit where
  id : Nat
  owner : PermitOwner
  chunk : Nat
  age : Nat := 0
deriving DecidableEq, Repr

/-- Kind and owner of an expired permit (R128); a RESTORE entry's owner becomes none when its job ends. -/
inductive ExpiredOwner where
  | job (slot principal : Nat)
  | formerJob (principal : Nat)
  | night (volume generation : Nat)
deriving DecidableEq, Repr

/-- An entry of the expired-id list (R128). -/
structure ExpiredPermit where
  id : Nat
  owner : ExpiredOwner
  chunk : Nat
deriving DecidableEq, Repr

/-- What the read-slot arbiter owns (R119 to R130). -/
structure Arbiter where
  permits : List Permit := []
  expired : List ExpiredPermit := []
  precedence : Nat := 0
  restorePointer : Nat := 7
  volumePointer : Nat := 15
  nextId : Nat := 0
deriving DecidableEq, Repr

/-! ### Configuration loader (chapter 11) -/

inductive LoadSource where
  | image
  | defaults
deriving DecidableEq, Repr

inductive LoadReason where
  | none
  | noAck
  | busHeld
  | badHeader
  | badCheck
deriving DecidableEq, Repr

/-- The straps as sampled during hardware reset (R171). -/
structure Straps where
  station : Nat := 0
  wideAddress : Bool := false
deriving DecidableEq, Repr

/-- What the configuration loader does on SCL and SDA as master (R172). -/
inductive SerialStep where
  /-- The start that opens the transfer. -/
  | start
  /-- The repeated start of the read phase. -/
  | repeatedStart
  /-- The device address, for writing. -/
  | deviceForWriting (address : Nat)
  /-- A byte of the memory address. -/
  | memoryAddress (value : Byte)
  /-- The device address, for reading. -/
  | deviceForReading (address : Nat)
  /-- A byte read and acknowledged. -/
  | readAcknowledged
  /-- The last byte read, not acknowledged. -/
  | readLast
  /-- SCL and SDA released at a failure. -/
  | release
deriving DecidableEq, Repr

/-- The effective configuration record and how the load ended (R172 to R175), with what the loader did on its two
lines in that load, an output that no rule names as state (log 16). -/
structure Loader where
  config : Config := {}
  source : LoadSource := .defaults
  reason : LoadReason := .none
  clamped : Nat := 0
  driven : List SerialStep := []
deriving DecidableEq, Repr

/-- The input pins whose level the part reads after reset (1.6). -/
structure Pins where
  offhold : Bool := false
deriving DecidableEq, Repr

/-! ### Host request port (chapter 10) -/

/-- The result codes of R179, in code order. -/
inductive ResultCode where
  | done | granted | grantedSoft | overQuota | shareLimit | busySync | clamped | unknownPrincipal | exists_
  | tableFull | inUse | unannounced | notDeclared | notFound | catalogueFull | outOfOrder | isBase | sending
  | pending | retiring | busyJobs | busy | noPermit | late | peerLive | offsiteOff | notNewer | tooLate
  | badRequest
deriving DecidableEq, Repr

/-- A value of a result or an event record with its width in bytes (R177). -/
structure Field where
  width : Nat
  value : Nat
deriving DecidableEq, Repr

/-- An answer to a request: result code, held marker and result values (R177). -/
structure Answer where
  code : ResultCode
  held : Bool := false
  values : List Field := []
deriving DecidableEq, Repr

/-- The answer of a held CHARGE on its way to the descriptor at an address (R160, R161). -/
structure HeldAnswer where
  address : Nat
  answer : Answer
deriving DecidableEq, Repr

/-- One write to host memory. -/
structure HostWrite where
  address : Nat
  bytes : List Byte
deriving DecidableEq, Repr

/-- What a PERMIT ISSUED or PERMIT EXPIRED record says of the owner (R123, R127). -/
inductive PermitSubject where
  | restore (slot tag volume generation : Nat)
  | duplicate (volume generation : Nat)
deriving DecidableEq, Repr

/-- The event records of R179 with what each carries. -/
inductive EventRecord where
  | quotaState (principal : Nat) (old new : QuotaState) (usage : Nat) (cause : QuotaCause)
  | restoreState (slot tag principal : Nat) (old new : JobState) (charged moved : Nat)
  | restoreDone (slot tag volume generation principal charged moved expired : Nat) (cancelled : Bool)
  | permitIssued (permit chunk : Nat) (subject : PermitSubject)
  | permitExpired (permit chunk : Nat) (subject : PermitSubject)
  | snapRetired (volume generation created : Nat) (status : OffsiteStatus)
  | nightState (volume generation : Nat) (old new : Option NightState) (remaining : Nat) (cause : NightCause)
  | peerState (station : Nat) (old new : PeerState)
  | stationState (old new : StationState)
  | evictDone (station removed : Nat)
  | busExcessCollision (usage : Option (UsageFormat × Nat))
  | clockSkew (station peerMinute ownMinute : Nat)
  | configLoaded (source : LoadSource) (reason : LoadReason) (clamped station : Nat)
deriving DecidableEq, Repr

/-- The six event summary flags (R168). -/
inductive Flag where
  | requestDone
  | eventPosted
  | requestSuspended
  | eventStalled
  | portFault
  | eventOverflow
deriving DecidableEq, Repr

inductive RequestState where
  | stopped
  | running
  | suspended
  | blocked
  | fault
deriving DecidableEq, Repr

inductive EventState where
  | stopped
  | running
  | stalled
  | fault
deriving DecidableEq, Repr

/-- A ring as the window describes it, and its process's position (R160). -/
structure RingRegs where
  base : BitVec 64 := 0
  size : Nat := 0
  position : Nat := 0
deriving DecidableEq, Repr

/-- The marks of a process (R162, R163): poll-pending, recorded start and stop, and the auto-poll wait. R170 gives the
recorded stop and the wait no value after hardware reset, and the model takes clear, 0 and 0 (DESIGN CHOICE, log
50). -/
structure ProcessMarks where
  poll : Bool := false
  startRecorded : Bool := false
  stopRecorded : Bool := false
  waitInterval : Nat := 0
  waitTicks : Nat := 0
deriving DecidableEq, Repr

/-- What the request process is doing with the descriptor it fetched at an address (R161, R163). -/
inductive RequestPhase where
  | idle
  | executing (address : Nat) (request : Request)
  | returning (address : Nat) (answer : Answer)
deriving DecidableEq, Repr

/-- What the host request port owns (chapter 10). -/
structure Port where
  requestState : RequestState := .stopped
  eventState : EventState := .stopped
  requestRing : RingRegs := {}
  eventRing : RingRegs := {}
  request : ProcessMarks := {}
  event : ProcessMarks := {}
  phase : RequestPhase := .idle
  heldAnswers : List HeldAnswer := []
  departed : Bool := false
  posting : Option (List HostWrite) := none
  autoPoll : Nat := 0
  events : List EventRecord := []
  flags : BitVec 6 := 0
  mask : BitVec 6 := 0x3F
  messages : Nat := 0
  written : List HostWrite := []
deriving DecidableEq, Repr

/-! ### The whole part -/

/-- The state of the part, and the queue of commands waiting. -/
structure State where
  straps : Straps := {}
  pins : Pins := {}
  loader : Loader := {}
  clock : Clock := {}
  deadlines : List Deadline := []
  quota : Quota := {}
  notice : Notice := {}
  bus : Bus := {}
  peers : Peers := {}
  volumes : Vector Volume 16 := Vector.replicate 16 {}
  jobs : Vector (Option Job) 8 := Vector.replicate 8 none
  arbiter : Arbiter := {}
  dup : Duplication := {}
  port : Port := {}
  pending : List Instr := []
deriving DecidableEq, Repr

/-- The part right after hardware reset: every block at its reset state, the station CONFIGURING (R44, R110,
R130, R151, R152, R170). Strap and pin levels are DESIGN CHOICE (log 4, log 5). -/
def State.reset : State := {}

/-- The effective configuration (R173). -/
abbrev State.config (s : State) : Config := s.loader.config

end Sys2Proof.Machine
end

