-- ==== Sys2Proof/Machine/Flags.lean ====
section
/-! DEFINITION. The event summary flags, their mask and the interrupt message (R168). -/

namespace Sys2Proof.Machine

/-- The place of a flag in the flags and mask registers (R182). -/
def Flag.index : Flag → Nat
  | .requestDone => 0
  | .eventPosted => 1
  | .requestSuspended => 2
  | .eventStalled => 3
  | .portFault => 4
  | .eventOverflow => 5

/-- Whether a flag is set (R168). -/
def Port.flagSet (p : Port) (f : Flag) : Bool := p.flags.getLsbD f.index

/-- Whether a flag is masked (R182: 1 masks). -/
def Port.flagMasked (p : Port) (f : Flag) : Bool := p.mask.getLsbD f.index

/-- A cause sets its flag; one interrupt message is sent when an unmasked flag goes from clear to set (R168). -/
def Port.setFlag (p : Port) (f : Flag) : Port :=
  { p with
    flags := p.flags ||| BitVec.twoPow 6 f.index
    messages := if p.flagSet f || p.flagMasked f then p.messages else p.messages + 1 }

/-- Writing 1 to a flag clears it, writing 0 leaves it; bits above bit 5 are ignored (R168, R182). -/
def Port.clearFlags (p : Port) (value : Word) : Port :=
  { p with flags := p.flags &&& ~~~(value.setWidth 6) }

/-- A write to the mask register; it sends nothing, and bits above bit 5 are ignored (R168, R182). -/
def Port.writeMask (p : Port) (value : Word) : Port :=
  { p with mask := value.setWidth 6 }

/-- Set a flag of the part's port (R168). -/
def State.setFlag (s : State) (f : Flag) : State := { s with port := s.port.setFlag f }

end Sys2Proof.Machine
end

