-- ==== Sys2Proof/Machine/Ops.lean ====
section
/-! DEFINITION. The named operations that the blocks share: raising a record, reading and writing the
tables, the deadline list, the notice queue, re-derivation, and the departure signal. -/

namespace Sys2Proof.Machine

/-! ### Event records (R165) -/

/-- An arriving record joins the tail of the internal event queue; at 128 records it is dropped and EVENT
OVERFLOW is set (R165). -/
def Port.raise (p : Port) (e : EventRecord) : Port :=
  if p.events.length < 128 then { p with events := p.events ++ [e] } else p.setFlag .eventOverflow

/-- A block raises an event record (1.5). -/
def State.raise (s : State) (e : EventRecord) : State := { s with port := s.port.raise e }

/-! ### Tables of fixed size -/

/-- The record of a peer (R58). -/
def Peers.peer (t : Peers) (k : Nat) : Peer := if h : k < 16 then t.table[k] else {}

/-- Write the record of a peer (R58). -/
def Peers.setPeer (t : Peers) (k : Nat) (p : Peer) : Peers :=
  { t with table := t.table.setIfInBounds k p }

/-- The record of a peer (R58). -/
def State.peer (s : State) (k : Nat) : Peer := s.peers.peer k

/-- Write the record of a peer (R58). -/
def State.setPeer (s : State) (k : Nat) (p : Peer) : State := { s with peers := s.peers.setPeer k p }

/-- A volume record (R96). -/
def State.volume (s : State) (v : Nat) : Volume := if h : v < 16 then s.volumes[v] else {}

/-- Write a volume record (R96). -/
def State.setVolume (s : State) (v : Nat) (x : Volume) : State :=
  { s with volumes := s.volumes.setIfInBounds v x }

/-- The job in a slot of the restore table, if the slot is occupied (R111). -/
def State.job (s : State) (k : Nat) : Option Job := if h : k < 8 then s.jobs[k] else none

/-- Write a slot of the restore table (R111). -/
def State.setJob (s : State) (k : Nat) (j : Option Job) : State :=
  { s with jobs := s.jobs.setIfInBounds k j }

/-! ### Deadline list (R154 to R156) -/

/-- A new entry stands after every entry whose due minute is at most its own (R155). -/
def insertDeadline (d : Deadline) : List Deadline → List Deadline
  | [] => [d]
  | e :: rest => if e.due ≤ d.due then e :: insertDeadline d rest else d :: e :: rest

/-- An owner ends what an entry stands for, and the entry leaves the list (R156). -/
def removeDeadline (o : DeadlineObject) (l : List Deadline) : List Deadline :=
  l.filter fun d => d.object ≠ o

/-! ### Principal table and contribution map (R1 to R6) -/

/-- The record with a principal id (R1, Lookup). -/
def Quota.find (q : Quota) (id : Nat) : Option Principal := q.principals.find? fun p => p.id == id

/-- The record in a slot (R1, Slot order). -/
def Quota.atSlot (q : Quota) (slot : Nat) : Option Principal := q.principals.find? fun p => p.slot == slot

/-- Replace the record with a principal id. -/
def Quota.update (q : Quota) (id : Nat) (f : Principal → Principal) : Quota :=
  { q with principals := q.principals.map fun p => if p.id = id then f p else p }

/-- The record with a principal id (R1). -/
def State.principal (s : State) (id : Nat) : Option Principal := s.quota.find id

/-- The lowest-numbered slot that no record of the table, listed in slot order, holds, from `n` on (R1). -/
def lowestFreeSlot : List Principal → Nat → Nat
  | [], n => n
  | p :: rest, n => if p.slot = n then lowestFreeSlot rest (n + 1) else n

/-- Put a record into the table, which is listed in slot order (R1). -/
def insertPrincipal (p : Principal) : List Principal → List Principal
  | [] => [p]
  | q :: rest => if q.slot < p.slot then q :: insertPrincipal p rest else p :: q :: rest

/-- The value of the entry for a principal and a station, 0 if there is none (R5). -/
def Quota.contribution (q : Quota) (id station : Nat) : Nat :=
  ((q.contributions.find? fun c => c.principal == id && c.station == station).map (·.value)).getD 0

/-- Whether there is an entry for a principal and a station (R6). -/
def Quota.contributes (q : Quota) (id station : Nat) : Bool :=
  q.contributions.any fun c => c.principal == id && c.station == station

/-- Put an entry into the map, which is listed in rising order of principal and station. -/
def insertContribution (c : Contribution) : List Contribution → List Contribution
  | [] => [c]
  | e :: rest =>
    if e.principal < c.principal ∨ (e.principal = c.principal ∧ e.station < c.station) then
      e :: insertContribution c rest
    else c :: e :: rest

/-- Set the entry for a principal and a station to a value; a value of 0 deletes it (R5 step 2). -/
def setContribution (id station value : Nat) (l : List Contribution) : List Contribution :=
  let others := l.filter fun c => !(c.principal == id && c.station == station)
  if value = 0 then others else insertContribution ⟨id, station, value⟩ others

/-- Unannounced spend D = max(0, Lc - La) (R3). -/
def Principal.unannounced (p : Principal) : Nat := p.lc - p.la

/-- Campus usage U = Lc + R (R3). -/
def Principal.campus (p : Principal) : Nat := p.lc + p.remote

/-- The quota state (R7). -/
def Principal.quotaState (p : Principal) : QuotaState :=
  match p.cls with
  | .exempt => .under
  | .limited =>
    if p.hard ≤ p.campus then .hard
    else match p.grace with
      | .running _ => .soft
      | .expired => .expired
      | .absent => .under

/-- The grace that grace maintenance leaves, with the station clock at a minute (R8). -/
def Principal.graceAfter (p : Principal) (minute : Nat) : Grace :=
  match p.cls with
  | .exempt => p.grace
  | .limited =>
    if 0 < p.soft ∧ p.soft ≤ p.campus then
      match p.grace with
      | .absent => if 0 < p.period then .running (satAdd minute p.period) else .expired
      | .running deadline => .running deadline
      | .expired => .expired
    else .absent

/-- What grace maintenance does to the deadline list (R8). -/
def graceDeadlines (id : Nat) (before after : Grace) (l : List Deadline) : List Deadline :=
  match before, after with
  | .absent, .running deadline => insertDeadline ⟨.grace id, deadline⟩ l
  | .running _, .absent => removeDeadline (.grace id) l
  | _, _ => l

/-- One operation on a principal's record with re-derivation at its end (R10): the operation, grace
maintenance (R8), the new state (R7), and QUOTA STATE when a LIMITED principal's state changed. -/
def State.rederive (s : State) (id : Nat) (cause : QuotaCause) (op : Principal → Principal) : State :=
  match s.principal id with
  | none => s
  | some old =>
    let p := op old
    let new := { p with grace := p.graceAfter s.clock.minute }
    { s with
      quota := s.quota.update id fun _ => new
      deadlines := graceDeadlines id p.grace new.grace s.deadlines
      port :=
        if old.cls = .limited ∧ old.quotaState ≠ new.quotaState then
          s.port.raise (.quotaState id old.quotaState new.quotaState new.campus cause)
        else s.port }

/-! ### Notice queue (R81 to R83) -/

/-- Whether a principal stands in the notice queue. -/
def Notice.queued (n : Notice) (id : Nat) : Bool := n.urgent.contains id || n.normal.contains id

/-- A principal is queued NORMAL (R82). -/
def Notice.queueNormal (n : Notice) (id : Nat) : Notice :=
  if n.queued id then n else { n with normal := n.normal ++ [id] }

/-- A principal is queued URGENT (R82). -/
def Notice.queueUrgent (n : Notice) (id : Nat) : Notice :=
  if n.urgent.contains id then n
  else { n with normal := n.normal.filter (· ≠ id), urgent := n.urgent ++ [id] }

/-- A principal's place is taken away with its record (R83). -/
def Notice.leave (n : Notice) (id : Nat) : Notice :=
  { n with normal := n.normal.filter (· ≠ id), urgent := n.urgent.filter (· ≠ id) }

def State.queueNormal (s : State) (id : Nat) : State := { s with notice := s.notice.queueNormal id }
def State.queueUrgent (s : State) (id : Nat) : State := { s with notice := s.notice.queueUrgent id }

/-- The queued marker of a record (R12). -/
inductive QueuedMarker where
  | none
  | normal
  | urgent
deriving DecidableEq, Repr

/-- The queued marker: the section the principal stands in (R12). -/
def State.queuedMarker (s : State) (id : Nat) : QueuedMarker :=
  if s.notice.urgent.contains id then .urgent
  else if s.notice.normal.contains id then .normal else .none

/-- The in-frame marker: the principal is carried by the frame being sent (R12, R84). -/
def State.inFrame (s : State) (id : Nat) : Bool :=
  match s.notice.frame with
  | none => false
  | some f => f.entries.any fun e => e.principal == id

/-! ### Wake-up and departure (R11, R30, R118) -/

/-- A woken job in QUOTA-WAIT returns to RUNNING, with RESTORE STATE (R112, R118). -/
def State.wakeJob (s : State) (id k : Nat) : State :=
  match s.job k with
  | none => s
  | some j =>
    if j.principal = id ∧ j.state = .quotaWait then
      (s.setJob k (some { j with state := .running })).raise
        (.restoreState k j.tag j.principal .quotaWait .running j.charged j.moved)
    else s

/-- The quota unit's wake-up for a principal (R11); the restore engine looks at every slot (R118). Where several
jobs wake, their RESTORE STATE records are raised in rising slot order, an order that no rule gives (DESIGN
CHOICE, log 41). -/
def State.wake (s : State) (id : Nat) : State :=
  match s.principal id with
  | none => s
  | some p => if 0 < p.restoreJobs then (List.range 8).foldl (fun s k => s.wakeJob id k) s else s

/-- The departure signal of the held list (R30): every job's deferred marker is cleared (R118), and a
BLOCKED request process may execute its CHARGE again. -/
def State.departure (s : State) : State :=
  { s with
    jobs := s.jobs.map fun j => j.map fun j => { j with deferred := false }
    port := { s.port with departed := s.port.departed || s.port.requestState = .blocked } }

/-- Whether a held entry is frozen by a FAULT of the request process (R38). -/
def State.frozen (s : State) (e : HeldEntry) : Bool :=
  match e.origin with
  | .charge _ => s.port.requestState = .fault
  | .restore _ => false

/-! ### Station state and hold line -/

/-- Each change of the station state raises one STATION STATE (R69). -/
def State.enterStation (s : State) (new : StationState) : State :=
  { s with peers := { s.peers with station := new } }.raise (.stationState s.peers.station new)

/-- The station runs its schedules: LEARNING, JOINED or ISOLATED (R67, R72, R93). -/
def StationState.running : StationState → Bool
  | .learning | .joined | .isolated => true
  | .configuring | .clash => false

/-- The hold line is in force when the configuration honours it and the line is asserted (R132); it comes
into force at the end of the configuration load at the earliest (R174). -/
def State.holdInForce (s : State) : Bool :=
  s.config.holdHonoured && s.pins.offhold && s.peers.station ≠ .configuring

end Sys2Proof.Machine
end

