-- ==== Sys2Proof/Machine/Operands.lean ====
section
/-! DEFINITION. Descriptors: byte order and packing (R176, R177), the codes of R179, the operands of every
request kind, and the bytes of answers and event records (R177, R178). -/

namespace Sys2Proof.Machine

/-! ### Bytes (R176) -/

/-- A value's bytes, least significant first, in a width. -/
def littleEndian : Nat → Nat → List Byte
  | 0, _ => []
  | width + 1, v => BitVec.ofNat 8 v :: littleEndian width (v / 256)

/-- The value of bytes that stand least significant first. -/
def fromLittleEndian : List Byte → Nat
  | [] => 0
  | b :: rest => b.toNat + 256 * fromLittleEndian rest

/-- A value's bytes, most significant first, in a width. -/
def bigEndian (width v : Nat) : List Byte := (littleEndian width v).reverse

/-- The value of bytes that stand most significant first. -/
def fromBigEndian (l : List Byte) : Nat := fromLittleEndian l.reverse

/-- The bytes of a list from an offset, in a width; a byte that is not there reads 00h. -/
def bytesAt (l : List Byte) (offset width : Nat) : List Byte :=
  (List.range width).map fun k => l.getD (offset + k) 0

/-- The first `n` bytes of a list, filled up with 00h. -/
def padTo (n : Nat) (l : List Byte) : List Byte := (l ++ List.replicate n 0).take n

/-! ### Packing (R177) -/

/-- The next offset, from one on, that is a multiple of the lesser of a value's width and 4. -/
def alignedOffset (offset width : Nat) : Nat :=
  let step := min width 4
  offset + (step - offset % step) % step

/-- Values at the next free offset of their alignment, each least significant byte first; the bytes between
read 00h. -/
def packFields (offset : Nat) : List Field → List Byte
  | [] => []
  | f :: rest =>
    let at_ := alignedOffset offset f.width
    List.replicate (at_ - offset) 0 ++ littleEndian f.width f.value ++ packFields (at_ + f.width) rest

/-- The operands of given widths from an offset on, packed in the same way. -/
def unpackFields (bytes : List Byte) (offset : Nat) : List Nat → List Nat
  | [] => []
  | width :: rest =>
    let at_ := alignedOffset offset width
    fromLittleEndian (bytesAt bytes at_ width) :: unpackFields bytes (at_ + width) rest

/-- A value whose range goes up to 255. -/
def u8 (v : Nat) : Field := ⟨1, v⟩
/-- A value whose range goes up to 65,535. -/
def u16 (v : Nat) : Field := ⟨2, v⟩
/-- A value whose range goes up to 4,294,967,295. -/
def u32 (v : Nat) : Field := ⟨4, v⟩
/-- One of the exact wide quantities. -/
def u64 (v : Nat) : Field := ⟨8, v⟩
/-- A yes/no value (R179). -/
def flag8 (b : Bool) : Field := ⟨1, if b then 1 else 0⟩

/-- An optional value: its presence byte, then the value, which reads 0 when absent. -/
def optional (o : Option α) (width : Nat) (value : α → Nat) : List Field :=
  [flag8 o.isSome, ⟨width, (o.map value).getD 0⟩]

/-- An optional group: one presence byte, then its values, which read 0 when absent. -/
def optionalGroup (o : Option α) (values : α → List Field) (shape : List Nat) : List Field :=
  flag8 o.isSome :: match o with
    | some x => values x
    | none => shape.map fun width => ⟨width, 0⟩

/-! ### Codes (R179, R180) -/

def ResultCode.code : ResultCode → Nat
  | .done => 0x00 | .granted => 0x01 | .grantedSoft => 0x02 | .overQuota => 0x03 | .shareLimit => 0x04
  | .busySync => 0x05 | .clamped => 0x06 | .unknownPrincipal => 0x07 | .exists_ => 0x08 | .tableFull => 0x09
  | .inUse => 0x0A | .unannounced => 0x0B | .notDeclared => 0x0C | .notFound => 0x0D | .catalogueFull => 0x0E
  | .outOfOrder => 0x0F | .isBase => 0x10 | .sending => 0x11 | .pending => 0x12 | .retiring => 0x13
  | .busyJobs => 0x14 | .busy => 0x15 | .noPermit => 0x16 | .late => 0x17 | .peerLive => 0x18
  | .offsiteOff => 0x19 | .notNewer => 0x1A | .tooLate => 0x1B | .badRequest => 0x1C

def PrincipalClass.code : PrincipalClass → Nat
  | .limited => 0 | .exempt => 1

def QuotaState.code : QuotaState → Nat
  | .under => 0 | .soft => 1 | .expired => 2 | .hard => 3

def QuotaCause.code : QuotaCause → Nat
  | .charge => 0 | .credit => 1 | .restore => 2 | .peer => 3 | .grace => 4 | .limits => 5 | .evict => 6

def Grace.code : Grace → Nat
  | .absent => 0 | .running _ => 1 | .expired => 2

def QueuedMarker.code : QueuedMarker → Nat
  | .none => 0 | .normal => 1 | .urgent => 2

def PeerState.code : PeerState → Nat
  | .absent => 0 | .live => 1 | .lapsed => 2 | .evicting => 3

def StationState.code : StationState → Nat
  | .configuring => 0 | .learning => 1 | .joined => 2 | .isolated => 3 | .clash => 4

def UsageFormat.code : UsageFormat → Nat
  | .base => 0 | .extended => 1

def JobState.code : JobState → Nat
  | .running => 0 | .syncWait => 1 | .quotaWait => 2 | .finishing => 3 | .cancelling => 4

def NightState.code : NightState → Nat
  | .sending => 1 | .paused => 2 | .suspended => 3 | .finishing => 4 | .abandoning => 5

/-- The code of a night state, IDLE being no night. -/
def nightCode (o : Option NightState) : Nat := (o.map NightState.code).getD 0

def NightCause.code : NightCause → Nat
  | .hold => 0 | .release => 1 | .dawn => 2 | .ended => 3

def OffsiteStatus.code : OffsiteStatus → Nat
  | .localOnly => 0 | .sending => 1 | .offsite => 2

def RequestState.code : RequestState → Nat
  | .stopped => 0 | .running => 1 | .suspended => 2 | .blocked => 3 | .fault => 4

def EventState.code : EventState → Nat
  | .stopped => 0 | .running => 1 | .stalled => 2 | .fault => 3

def LoadSource.code : LoadSource → Nat
  | .image => 0 | .defaults => 1

def LoadReason.code : LoadReason → Nat
  | .none => 0 | .noAck => 1 | .busHeld => 2 | .badHeader => 3 | .badCheck => 4

/-- The code of a capability set in a frame header (R180), 00h when absent (R177). -/
def capabilityCode : Option Capability → Nat
  | none => 0x00
  | some .base => 0x01
  | some .extended => 0x03

/-! ### Requests (R177, R179) -/

/-- The request of a kind with operands at the offsets of R177; none for a kind not in the table. -/
def decodeRequest (bytes : List Byte) : Option Request :=
  let operands := unpackFields bytes 4
  match (bytes.getD 1 0).toNat with
  | 0x01 => match operands [4, 1, 4, 4, 2, 4] with
    | [id, cls, soft, hard, period, initial] => some (.principalAdd id cls soft hard period initial)
    | _ => none
  | 0x02 => match operands [4, 4, 4, 2] with
    | [id, soft, hard, period] => some (.principalLimits id soft hard period)
    | _ => none
  | 0x03 => match operands [4] with
    | [id] => some (.principalRemove id)
    | _ => none
  | 0x04 => match operands [4] with
    | [id] => some (.principalQuery id)
    | _ => none
  | 0x05 => match operands [4, 4] with
    | [id, amount] => some (.credit id amount)
    | _ => none
  | 0x06 => match operands [4, 4] with
    | [id, amount] => some (.charge id amount)
    | _ => none
  | 0x07 => match operands [1] with
    | [station] => some (.peerEvict station)
    | _ => none
  | 0x08 => match operands [1] with
    | [station] => some (.peerQuery station)
    | _ => none
  | 0x09 => some .noticeQuery
  | 0x0A => match operands [1, 1] with
    | [volume, enable] => some (.volumeDeclare volume enable)
    | _ => none
  | 0x0B => match operands [1, 4] with
    | [volume, generation] => some (.snapCreate volume generation)
    | _ => none
  | 0x0C => match operands [1, 4] with
    | [volume, generation] => some (.snapRetire volume generation)
    | _ => none
  | 0x0D => match operands [1, 4] with
    | [volume, start] => some (.catalogueQuery volume start)
    | _ => none
  | 0x0E => match operands [4, 1, 4, 4] with
    | [tag, volume, generation, principal] => some (.restoreStart tag volume generation principal)
    | _ => none
  | 0x0F => match operands [1, 4] with
    | [slot, tag] => some (.restoreEnd slot tag)
    | _ => none
  | 0x10 => match operands [1, 4] with
    | [slot, tag] => some (.restoreCancel slot tag)
    | _ => none
  | 0x11 => match operands [1, 4] with
    | [permit, moved] => some (.permitDone permit moved)
    | _ => none
  | 0x12 => match operands [1, 4, 4, 4] with
    | [volume, generation, backlog, dawn] => some (.nightOpen volume generation backlog dawn)
    | _ => none
  | 0x13 => match operands [1, 4] with
    | [volume, dawn] => some (.nightResume volume dawn)
    | _ => none
  | 0x14 => match operands [1] with
    | [volume] => some (.nightDone volume)
    | _ => none
  | 0x15 => match operands [1] with
    | [volume] => some (.nightAbandon volume)
    | _ => none
  | 0x16 => match operands [1] with
    | [volume] => some (.nightQuery volume)
    | _ => none
  | 0x17 => match operands [4] with
    | [minute] => some (.clockSet minute)
    | _ => none
  | 0x18 => some .clockQuery
  | 0x19 => some .configQuery
  | _ => none

/-! ### Answers (R161, R177) -/

/-- Bytes 2 to 63 of a returned request descriptor: code, held marker, result values, the rest 00h. -/
def Answer.bytes (a : Answer) : List Byte :=
  BitVec.ofNat 8 a.code.code :: (if a.held then 1 else 0) :: padTo 60 (packFields 4 a.values)

/-- The writes that return a request: the result first, then the ownership byte at 00h, HOST (R161). -/
def Answer.writes (a : Answer) (address : Nat) : List HostWrite :=
  [⟨address + 2, a.bytes⟩, ⟨address, [0]⟩]

/-! ### Event descriptors (R178) -/

/-- The values of a PERMIT ISSUED record's subject (R123). -/
def PermitSubject.issuedFields : PermitSubject → List Field
  | .restore slot tag volume generation => [u8 slot, u32 tag, u8 volume, u32 generation]
  | .duplicate volume generation => [u8 volume, u32 generation]

/-- The values of a PERMIT EXPIRED record's subject: the owner with its tag or generation (R127). DEDUCED
(log 19). -/
def PermitSubject.expiredFields : PermitSubject → List Field
  | .restore slot tag _ _ => [u8 slot, u32 tag]
  | .duplicate volume generation => [u8 volume, u32 generation]

def PermitSubject.kindCode : PermitSubject → Nat
  | .restore .. => 0
  | .duplicate .. => 1

/-- The event kind of R179. -/
def EventRecord.kindCode : EventRecord → Nat
  | .quotaState .. => 0x01
  | .restoreState .. => 0x02
  | .restoreDone .. => 0x03
  | .permitIssued .. => 0x04
  | .permitExpired .. => 0x05
  | .snapRetired .. => 0x06
  | .nightState .. => 0x07
  | .peerState .. => 0x08
  | .stationState .. => 0x09
  | .evictDone .. => 0x0A
  | .busExcessCollision .. => 0x0B
  | .clockSkew .. => 0x0C
  | .configLoaded .. => 0x0D

/-- The values of a record in the order its rule lists them, descriptor by descriptor: two descriptors for
RESTORE DONE, one for every other (R178). BUS EXCESS COLLISION packs the format, which only a USAGE frame has, without a
presence byte (DESIGN CHOICE, log 53). -/
def EventRecord.parts : EventRecord → List (List Field)
  | .quotaState principal old new usage cause =>
    [[u32 principal, u8 old.code, u8 new.code, u64 usage, u8 cause.code]]
  | .restoreState slot tag principal old new charged moved =>
    [[u8 slot, u32 tag, u32 principal, u8 old.code, u8 new.code, u64 charged, u64 moved]]
  | .restoreDone slot tag volume generation principal charged moved expired cancelled =>
    [[u8 slot, u32 tag, u8 volume, u32 generation, u32 principal],
     [u64 charged, u64 moved, u64 expired, flag8 cancelled]]
  | .permitIssued permit chunk subject =>
    [u8 permit :: u8 subject.kindCode :: u16 chunk :: subject.issuedFields]
  | .permitExpired permit chunk subject =>
    [u8 permit :: u8 subject.kindCode :: u16 chunk :: subject.expiredFields]
  | .snapRetired volume generation created status =>
    [[u8 volume, u32 generation, u32 created, u8 status.code]]
  | .nightState volume generation old new remaining cause =>
    [[u8 volume, u32 generation, u8 (nightCode old), u8 (nightCode new), u32 remaining, u8 cause.code]]
  | .peerState station old new => [[u8 station, u8 old.code, u8 new.code]]
  | .stationState old new => [[u8 old.code, u8 new.code]]
  | .evictDone station removed => [[u8 station, u32 removed]]
  | .busExcessCollision (some (format, count)) => [[u8 0x02, u8 format.code, u8 count]]
  | .busExcessCollision none => [[u8 0x01, u8 0]]
  | .clockSkew station peerMinute ownMinute => [[u8 station, u32 peerMinute, u32 ownMinute]]
  | .configLoaded source reason clamped station =>
    [[u8 source.code, u8 reason.code, u8 clamped, u8 station]]

/-- Bytes 1 to 31 of an event descriptor: kind, part, values (R178). -/
def eventBytes (kind part : Nat) (values : List Field) : List Byte :=
  BitVec.ofNat 8 kind :: BitVec.ofNat 8 part :: padTo 29 (packFields 3 values)

/-- The writes that post a record to the descriptor at one address, and for RESTORE DONE to the one at the
next: the second descriptor is written before the first, and each is then set HOST-owned (R161, R178). -/
def EventRecord.writes (e : EventRecord) (first second : Nat) : List HostWrite :=
  match e.parts with
  | [a] => [⟨first + 1, eventBytes e.kindCode 0 a⟩, ⟨first, [0]⟩]
  | [a, b] =>
    [⟨second + 1, eventBytes e.kindCode 2 b⟩, ⟨second, [0]⟩,
     ⟨first + 1, eventBytes e.kindCode 1 a⟩, ⟨first, [0]⟩]
  | _ => []

/-- Whether a record takes two descriptors (R178). -/
def EventRecord.double : EventRecord → Bool
  | .restoreDone .. => true
  | _ => false

end Sys2Proof.Machine
end

