-- ==== Sys2Proof/Machine/Requests.lean ====
section
/-! DEFINITION. How a request row meets the request process: it is taken when the process is RUNNING and has
fetched that request, and it is answered into the descriptor (R161, R163). -/

namespace Sys2Proof.Machine

/-- What executing a request gives: the state it leaves, the result code and the result values (1.5). -/
structure Reply where
  state : State
  code : ResultCode
  values : List Field := []

/-- The request process is RUNNING with this request fetched and not yet executed (R163). -/
def State.takes (s : State) (r : Request) : Bool :=
  match s.port.phase with
  | .executing _ fetched => s.port.requestState = .running && fetched = r
  | _ => false

/-- An answer begins its writeback to the descriptor that was fetched (R161, R163). -/
def State.respond (s : State) (code : ResultCode) (values : List Field) : State :=
  match s.port.phase with
  | .executing address _ =>
    { s with port := { s.port with phase := .returning address ⟨code, false, values⟩ } }
  | _ => s

/-- A reply as the state in which its answer is being written back. -/
def Reply.answered (r : Reply) : State := r.state.respond r.code r.values

/-- A refused request: its result code, with every value 0 (R177) and no change. -/
def State.refuse (s : State) (code : ResultCode) : Reply := ⟨s, code, []⟩

/-- A request row: executed whole when the request process takes it, and otherwise no step of the part
(log 2). -/
def State.serve (s : State) (r : Request) (execute : State → Reply) :
    Host.Outcome State Fault Refusal :=
  .next (if s.takes r then (execute s).answered else s)

end Sys2Proof.Machine
end

