-- ==== Sys2Proof/Machine/Catalogue.lean ====
section
/-! DEFINITION. The snapshot catalogue (chapter 6): volumes, snapshot lists, holds, retirement. -/

namespace Sys2Proof.Machine

/-- The record of a generation in a volume's list (R99). -/
def Volume.snapshot (x : Volume) (generation : Nat) : Option Snapshot :=
  x.snapshots.find? fun r => r.generation == generation

/-- The newest generation: that of the record at the newest end, absent when the list is empty (R99). -/
def Volume.newest (x : Volume) : Option Nat := x.snapshots.getLast?.map (·.generation)

/-- The base role of a record: the volume's base field names its generation (R98, R99). -/
def Volume.hasBaseRole (x : Volume) (generation : Nat) : Bool := x.base = some generation

/-- Change the record of a generation in its place. -/
def Volume.update (x : Volume) (generation : Nat) (f : Snapshot → Snapshot) : Volume :=
  { x with snapshots := x.snapshots.map fun r => if r.generation = generation then f r else r }

/-- A record leaves the list, and the records on either side close up (R107). -/
def Volume.remove (x : Volume) (generation : Nat) : Volume :=
  { x with snapshots := x.snapshots.filter fun r => r.generation ≠ generation }

/-- One more hold on a snapshot (R101). -/
def Volume.hold (x : Volume) (generation : Nat) : Volume :=
  x.update generation fun r => { r with holds := r.holds + 1 }

/-- The record that a release of a generation removes: RETIRE-PENDING with this as its last hold (R106). -/
def Volume.retiredByRelease (x : Volume) (generation : Nat) : Option Snapshot :=
  match x.snapshot generation with
  | none => none
  | some r => if r.retirePending ∧ r.holds ≤ 1 then some r else none

/-- A hold is released (R102): a RETIRE-PENDING snapshot whose last hold it was leaves the list (R106). -/
def Volume.release (x : Volume) (generation : Nat) : Volume :=
  match x.retiredByRelease generation with
  | some _ => x.remove generation
  | none => x.update generation fun r => { r with holds := r.holds - 1 }

/-- VOLUME DECLARE (R97). -/
def State.declareVolume (s : State) (volume enable : Nat) : Reply :=
  if 15 < volume ∨ 1 < enable then s.refuse .badRequest
  else if (s.volume volume).declared then s.refuse .exists_
  else ⟨s.setVolume volume { s.volume volume with declared := true, offsite := enable = 1 }, .done, []⟩

/-- SNAP CREATE (R100). -/
def State.createSnapshot (s : State) (volume generation : Nat) : Reply :=
  if 15 < volume then s.refuse .badRequest
  else
    let x := s.volume volume
    if !x.declared then s.refuse .notDeclared
    else if x.newest.any fun newest => generation ≤ newest then s.refuse .outOfOrder
    else if 64 ≤ x.snapshots.length then s.refuse .catalogueFull
    else
      ⟨s.setVolume volume { x with
          snapshots := x.snapshots ++ [{ generation := generation, created := s.clock.minute }] },
        .done, [u8 (x.snapshots.length + 1)]⟩

/-- SNAP RETIRE (R105). -/
def State.retireSnapshot (s : State) (volume generation : Nat) : Reply :=
  if 15 < volume then s.refuse .badRequest
  else
    let x := s.volume volume
    if !x.declared then s.refuse .notDeclared
    else match x.snapshot generation with
      | none => s.refuse .notFound
      | some r =>
        if x.hasBaseRole generation then s.refuse .isBase
        else if r.status = .sending then s.refuse .sending
        else if r.retirePending then s.refuse .pending
        else if 0 < r.holds then
          ⟨s.setVolume volume (x.update generation fun r => { r with retirePending := true }), .pending, []⟩
        else ⟨s.setVolume volume (x.remove generation), .done, []⟩

/-- A snapshot record's fields in the order of R98. -/
def Volume.snapshotFields (x : Volume) (r : Snapshot) : List Field :=
  [u32 r.generation, u32 r.created, flag8 r.retirePending, u8 r.holds, u8 r.status.code,
   flag8 (x.hasBaseRole r.generation)]

/-- The values CATALOGUE QUERY returns, in the order of R109. -/
def Volume.catalogueFields (x : Volume) (start : Nat) : List Field :=
  let from_ := x.snapshots.filter fun r => start ≤ r.generation
  let shown := from_.take 2
  let next := (from_.drop 2).head?
  [flag8 x.offsite, u8 x.snapshots.length, u8 (x.snapshots.countP (·.retirePending))] ++
  optional x.base 4 id ++
  optional x.newest 4 id ++
  [u8 (nightCode (x.night.map (·.state)))] ++
  optional x.night 4 (·.generation) ++
  [u8 shown.length] ++ shown.flatMap x.snapshotFields ++
  optional next 4 (·.generation)

/-- CATALOGUE QUERY (R109). -/
def State.queryCatalogue (s : State) (volume start : Nat) : Reply :=
  if 15 < volume then s.refuse .badRequest
  else if !(s.volume volume).declared then s.refuse .notDeclared
  else ⟨s, .done, (s.volume volume).catalogueFields start⟩

/-- VOLUME_DECLARE (R97). -/
def execVolumeDeclare (volume enable : Nat) (s : State) : Host.Outcome State Fault Refusal :=
  s.serve (.volumeDeclare volume enable) fun s => s.declareVolume volume enable

/-- SNAP_CREATE (R100). -/
def execSnapCreate (volume generation : Nat) (s : State) : Host.Outcome State Fault Refusal :=
  s.serve (.snapCreate volume generation) fun s => s.createSnapshot volume generation

/-- SNAP_RETIRE (R105). -/
def execSnapRetire (volume generation : Nat) (s : State) : Host.Outcome State Fault Refusal :=
  s.serve (.snapRetire volume generation) fun s => s.retireSnapshot volume generation

/-- CATALOGUE_QUERY (R109). -/
def execCatalogueQuery (volume start : Nat) (s : State) : Host.Outcome State Fault Refusal :=
  s.serve (.catalogueQuery volume start) fun s => s.queryCatalogue volume start

end Sys2Proof.Machine
end

