-- ==== Sys2Proof/Machine/Duplication.lean ====
section
/-! DEFINITION. Offsite duplication (chapter 8): nights, claims, the rate share, the token bucket and the
offsite hold line; with them the expiry of deadlines (R157), which suspends nights. -/

namespace Sys2Proof.Machine

/-! ### Claims (R141 to R143) -/

/-- A night that counts in the station's claim (R141). -/
def Night.claiming (n : Night) : Bool :=
  match n.state with
  | .sending | .paused | .finishing => true
  | .suspended | .abandoning => false

/-- Seconds from now to a dawn, a result below 0 taken as 0 (R141). -/
def Clock.secondsTo (c : Clock) (dawn : Nat) : Nat := dawn * 60 - (c.minute * 60 + c.seconds)

/-- The nights of the claiming volumes, in volume order (R141). -/
def State.claimingNights (s : State) : List Night :=
  (s.volumes.toList.filterMap (·.night)).filter (·.claiming)

/-- The station's own claim, computed when it is asked for (R141). -/
def State.ownClaim (s : State) : Option Claim :=
  match s.claimingNights with
  | [] => none
  | nights => some
    { backlog := min max32 (nights.map (·.remaining)).sum
      seconds := (nights.map fun n => s.clock.secondsTo n.dawn).foldl min 65535
      paused := s.holdInForce }

/-- The weight ceil(B / max(1, T)) (R143). -/
def Claim.weight (c : Claim) : Nat := (c.backlog + max 1 c.seconds - 1) / max 1 c.seconds

/-- A peer's claim, if it counts towards the rate share: LIVE, present, not paused (R142). -/
def Peer.countingClaim (p : Peer) : Option Claim :=
  match p.claim with
  | none => none
  | some c => if p.state = .live ∧ c.paused = false then some c else none

/-- w_self: the weight of the own claim, 0 when it is absent (R143). -/
def State.selfWeight (s : State) : Nat := (s.ownClaim.map (·.weight)).getD 0

/-- W: the sum of the own weight and of the peers' weights that count (R143). -/
def State.weightSum (s : State) : Nat :=
  s.selfWeight + ((s.peers.table.toList.filterMap (·.countingClaim)).map (·.weight)).sum

/-- Whether a volume's night is SENDING (R144). -/
def Volume.nightSending (x : Volume) : Bool :=
  match x.night with
  | some n => n.state = .sending
  | none => false

/-- The rate for the coming second (R144). -/
def State.computedRate (s : State) : Nat :=
  if s.holdInForce then 0
  else if !s.volumes.toList.any (·.nightSending) then 0
  else
    let c := s.config.linkCapacity
    let p := if s.weightSum = 0 then 0 else c * s.selfWeight / s.weightSum
    max p (min s.config.minimumRate c)

/-! ### The read-slot sides (R120, R149) -/

/-- A volume that the duplication side may choose: SENDING with remaining backlog above 0 (R122). -/
def Volume.duplicable (x : Volume) : Bool :=
  match x.night with
  | some n => n.state = .sending && 0 < n.remaining
  | none => false

/-- The duplication engine reports itself ready (R149). -/
def State.duplicationReady (s : State) : Bool :=
  s.config.chunk ≤ s.dup.tokens && s.volumes.toList.any (·.duplicable)

/-- A job that waits for a read slot (R120). -/
def Job.waiting (j : Job) : Bool := j.state = .running && j.permits < 4 && !j.deferred

/-- The restore side waits (R120). -/
def State.restoreWaiting (s : State) : Bool := s.jobs.toList.any fun j => j.any (·.waiting)

/-- The precedence count becomes 0 at the moment either side stops waiting (R120). -/
def State.settlePrecedence (s : State) : State :=
  if s.restoreWaiting && s.duplicationReady then s
  else { s with arbiter := { s.arbiter with precedence := 0 } }

/-! ### Nights (R131 to R139) -/

/-- A volume's night takes another state that no request caused, with NIGHT STATE (R132). -/
def State.moveNight (s : State) (v : Nat) (n : Night) (new : NightState) (cause : NightCause) : State :=
  (s.setVolume v { s.volume v with night := some { n with state := new } }).raise
    (.nightState v n.generation (some n.state) (some new) n.remaining cause)

/-- A night in one state takes another, with NIGHT STATE; a volume without such a night is left alone. -/
def State.shiftNight (s : State) (v : Nat) (old new : NightState) (cause : NightCause) : State :=
  match (s.volume v).night with
  | none => s
  | some n => if n.state = old then s.moveNight v n new cause else s

/-- Every night in one state takes another, with NIGHT STATE for each (R145, R147). The records are raised in
volume order: so R147 gives it for HOLD, and for RELEASE, where no rule gives an order, it is the model's choice
(DESIGN CHOICE, log 41). -/
def State.shiftNights (s : State) (old new : NightState) (cause : NightCause) : State :=
  (List.range 16).foldl (fun s v => s.shiftNight v old new cause) s

/-- A DAWN entry has come due: a SENDING or PAUSED night becomes SUSPENDED (R135). -/
def State.suspendNight (s : State) (v : Nat) : State :=
  match (s.volume v).night with
  | none => s
  | some n =>
    match n.state with
    | .sending | .paused => s.moveNight v n .suspended .dawn
    | .suspended | .finishing | .abandoning => s

/-- What the catalogue does at the end of a night (R104). -/
def Volume.endNight (x : Volume) (n : Night) : Volume :=
  let finished := n.state = .finishing
  let changed := x.update n.generation fun r =>
    { r with status := if finished then .offsite else .localOnly, holds := r.holds - 1 }
  { changed with base := if finished then some n.generation else x.base, night := none }

/-- A FINISHING or ABANDONING night with no permit outstanding ends (R139). -/
def State.endNightIfDone (s : State) (v : Nat) : State :=
  match (s.volume v).night with
  | none => s
  | some n =>
    match n.state with
    | .finishing | .abandoning =>
      if n.permits = 0 then
        (s.setVolume v ((s.volume v).endNight n)).raise
          (.nightState v n.generation (some n.state) none n.remaining .ended)
      else s
    | .sending | .paused | .suspended => s

/-- A DUPLICATE permit of a volume has left the table, with a moved count if it was returned (R126, R149). -/
def State.nightPermitGone (s : State) (v moved : Nat) : State :=
  match (s.volume v).night with
  | none => s
  | some n =>
    (s.setVolume v { s.volume v with
      night := some { n with remaining := n.remaining - moved, permits := n.permits - 1 } }).endNightIfDone v

/-- The state a night takes at NIGHT OPEN and NIGHT RESUME (R134, R136). -/
def State.openedState (s : State) : NightState := if s.holdInForce then .paused else .sending

/-- NIGHT OPEN (R133, R134), with the catalogue's answers of R103. -/
def State.openNight (s : State) (volume generation backlog dawn : Nat) : Reply :=
  if 15 < volume then s.refuse .badRequest
  else
    let x := s.volume volume
    if !x.declared then s.refuse .notDeclared
    else if !x.offsite then s.refuse .offsiteOff
    else if x.night.isSome then s.refuse .busy
    else match x.snapshot generation with
      | none => s.refuse .notFound
      | some r =>
        if r.status ≠ .localOnly ∨ x.base.any (generation ≤ ·) then s.refuse .notNewer
        else if r.retirePending then s.refuse .retiring
        else if dawn ≤ s.clock.minute then s.refuse .tooLate
        else
          let held := x.update generation fun r => { r with status := .sending, holds := r.holds + 1 }
          let night : Night :=
            { state := s.openedState, generation := generation, remaining := backlog, dawn := dawn }
          ⟨{ s.setVolume volume { held with night := some night } with
              deadlines := insertDeadline ⟨.dawn volume, dawn⟩ s.deadlines }, .done, []⟩

/-- NIGHT RESUME (R136). -/
def State.resumeNight (s : State) (volume dawn : Nat) : Reply :=
  if 15 < volume then s.refuse .badRequest
  else
    let x := s.volume volume
    if !x.declared then s.refuse .notDeclared
    else match x.night with
      | none => s.refuse .busy
      | some n =>
        if n.state ≠ .suspended then s.refuse .busy
        else if dawn ≤ s.clock.minute then s.refuse .tooLate
        else
          ⟨{ s.setVolume volume { x with night := some { n with state := s.openedState, dawn := dawn } } with
              deadlines := insertDeadline ⟨.dawn volume, dawn⟩ s.deadlines }, .done, []⟩

/-- The steps NIGHT DONE and NIGHT ABANDON share: the DAWN entry leaves the list, the night takes its last
state, and it ends at once when no permit is outstanding (R137, R138). -/
def State.closeNight (s : State) (volume : Nat) (n : Night) (last : NightState) : State :=
  ({ s.setVolume volume { s.volume volume with night := some { n with state := last } } with
      deadlines :=
        match n.state with
        | .sending | .paused => removeDeadline (.dawn volume) s.deadlines
        | .suspended | .finishing | .abandoning => s.deadlines }).endNightIfDone volume

/-- NIGHT DONE (R137). -/
def State.finishNight (s : State) (volume : Nat) : Reply :=
  if 15 < volume then s.refuse .badRequest
  else if !(s.volume volume).declared then s.refuse .notDeclared
  else match (s.volume volume).night with
    | none => s.refuse .notFound
    | some n =>
      match n.state with
      | .finishing | .abandoning => s.refuse .busy
      | .sending | .paused | .suspended =>
        ⟨(s.closeNight volume n .finishing).settlePrecedence, .done, []⟩

/-- NIGHT ABANDON (R138). -/
def State.abandonNight (s : State) (volume : Nat) : Reply :=
  if 15 < volume then s.refuse .badRequest
  else if !(s.volume volume).declared then s.refuse .notDeclared
  else match (s.volume volume).night with
    | none => s.refuse .notFound
    | some n =>
      match n.state with
      | .abandoning => s.refuse .busy
      | .sending | .paused | .suspended | .finishing =>
        ⟨(s.closeNight volume n .abandoning).settlePrecedence, .done, []⟩

/-! ### Expiry of deadlines (R157, R9, R135) -/

/-- The owner of an expired entry acts (R157): a grace becomes EXPIRED and its principal is re-derived with
cause GRACE (R9), or the volume's night is suspended (R135). -/
def State.expire (s : State) (d : Deadline) : State :=
  match d.object with
  | .grace id => s.rederive id .grace fun p => { p with grace := .expired }
  | .dawn volume => s.suspendNight volume

/-- The expiry run (R157): from the head, while the head is due. Every operation that an expiry makes leaves
the list as it is, so the due entries leave first and their owners are told in list order. -/
def State.expiryRun (s : State) : State :=
  let due := s.deadlines.takeWhile fun d => d.due ≤ s.clock.minute
  let left : State := { s with deadlines := s.deadlines.dropWhile fun d => d.due ≤ s.clock.minute }
  due.foldl State.expire left

/-- The expiry test with the run it finds (R157), after which the duplication side may have stopped waiting
(R120). -/
def State.takeRun (s : State) : State := s.expiryRun.settlePrecedence

/-- Whether an operation that began in one state has inserted a deadline entry (R155). -/
def State.hasInserted (s before : State) : Bool := s.deadlines.any fun d => !before.deadlines.contains d

/-- The end of an operation, with the state in which it began: the expiry test is made if the operation inserted
an entry (R157), so that a GRACE entry that joined already due expires at once (R155). The operations that can
insert are those of R155. -/
def State.insertionTest (s before : State) : State := if s.hasInserted before then s.takeRun else s

/-- A request row whose operation can insert a deadline entry (R155, R157). -/
def State.serveInserting (s : State) (r : Request) (execute : State → Reply) :
    Host.Outcome State Fault Refusal :=
  .next (if s.takes r then (execute s).answered.insertionTest s else s)

/-! ### Rows -/

/-- One reload (R145). -/
def State.reloaded (s : State) : State :=
  let released := if s.holdInForce then s else s.shiftNights .paused .sending .release
  let rate := released.computedRate
  { released with
    clock := { released.clock with reloadsDue := released.clock.reloadsDue - 1 }
    dup :=
      { tokens :=
          if released.holdInForce then 0
          else min (released.dup.tokens + rate) (rate + released.config.chunk)
        rate := rate
        lastW := released.weightSum
        lastSelf := released.selfWeight } }

/-- RELOAD (R145): taken once for each second advance. -/
def execReload (s : State) : Host.Outcome State Fault Refusal :=
  .next (if s.clock.reloadsDue = 0 then s else s.reloaded.settlePrecedence)

/-- OFFHOLD_RISE (R147): where the line comes into force the bucket empties and the SENDING nights pause. -/
def execOffholdRise (s : State) : Host.Outcome State Fault Refusal :=
  let risen := { s with pins := { s.pins with offhold := true } }
  .next (if s.pins.offhold then s
    else if risen.holdInForce then
      ({ risen with dup := { risen.dup with tokens := 0 } }.shiftNights .sending .paused .hold).settlePrecedence
    else risen)

/-- OFFHOLD_FALL (R148): the line leaves force; nights and tokens stay until the next reload. -/
def execOffholdFall (s : State) : Host.Outcome State Fault Refusal :=
  .next { s with pins := { s.pins with offhold := false } }

/-- NIGHT_OPEN (R133, R134), an operation that inserts a deadline entry (R155). -/
def execNightOpen (volume generation backlog dawn : Nat) (s : State) : Host.Outcome State Fault Refusal :=
  s.serveInserting (.nightOpen volume generation backlog dawn) fun s => s.openNight volume generation backlog dawn

/-- NIGHT_RESUME (R136), an operation that inserts a deadline entry (R155). -/
def execNightResume (volume dawn : Nat) (s : State) : Host.Outcome State Fault Refusal :=
  s.serveInserting (.nightResume volume dawn) fun s => s.resumeNight volume dawn

/-- NIGHT_DONE (R137). -/
def execNightDone (volume : Nat) (s : State) : Host.Outcome State Fault Refusal :=
  s.serve (.nightDone volume) fun s => s.finishNight volume

/-- NIGHT_ABANDON (R138). -/
def execNightAbandon (volume : Nat) (s : State) : Host.Outcome State Fault Refusal :=
  s.serve (.nightAbandon volume) fun s => s.abandonNight volume

/-- A claim's values: B, T and the paused marker. -/
def Claim.fields (c : Claim) : List Field := [u32 c.backlog, u16 c.seconds, flag8 c.paused]

/-- The values NIGHT QUERY returns, in the order of R150. -/
def State.nightFields (s : State) (x : Volume) : List Field :=
  [u8 (nightCode (x.night.map (·.state)))] ++
  optionalGroup x.night (fun n => [u32 n.generation, u32 n.remaining, u32 n.dawn, u8 n.permits]) [4, 4, 4, 1] ++
  [u32 s.dup.tokens, u16 s.dup.rate, u64 s.dup.lastW, u64 s.dup.lastSelf] ++
  optionalGroup s.ownClaim Claim.fields [4, 2, 1] ++
  [flag8 s.pins.offhold, flag8 s.config.holdHonoured]

/-- NIGHT QUERY (R150). -/
def State.queryNight (s : State) (volume : Nat) : Reply :=
  if 15 < volume then s.refuse .badRequest
  else if !(s.volume volume).declared then s.refuse .notDeclared
  else ⟨s, .done, s.nightFields (s.volume volume)⟩

/-- NIGHT_QUERY (R150). -/
def execNightQuery (volume : Nat) (s : State) : Host.Outcome State Fault Refusal :=
  s.serve (.nightQuery volume) fun s => s.queryNight volume

end Sys2Proof.Machine
end

