-- ==== Sys2Proof/Machine/Principals.lean ====
section
/-! DEFINITION. The quota unit's principals (chapter 1): the contribution update, the holder counts, the
credit operation, and the principal requests with CREDIT. -/

namespace Sys2Proof.Machine

/-- c_any: the peers in any state that have an entry for a principal (R6). -/
def State.anyHolders (s : State) (id : Nat) : Nat :=
  (List.range 16).countP fun k => k ≠ s.straps.station && s.quota.contributes id k

/-- c_live: the LIVE peers that have an entry for a principal (R6). -/
def State.liveHolders (s : State) (id : Nat) : Nat :=
  (List.range 16).countP fun k =>
    k ≠ s.straps.station && s.quota.contributes id k && (s.peer k).state = .live

/-- The contribution update (R5): R and the entry take the value, the principal is re-derived, and its
QUOTA-WAIT jobs are woken when U fell. An unknown principal or the own station is ignored. -/
def State.contribute (s : State) (id station value : Nat) (cause : QuotaCause) : State :=
  match s.principal id with
  | none => s
  | some p =>
    if station = s.straps.station then s
    else
      let old := s.quota.contribution id station
      let remote := p.remote - old + value
      let mapped :=
        { s with quota := { s.quota with
            contributions := setContribution id station value s.quota.contributions } }
      let derived := mapped.rederive id cause fun p => { p with remote := remote }
      if p.lc + remote < p.campus then derived.wake id else derived

/-- The credit operation (R19). -/
def State.credit (s : State) (id amount : Nat) (cause : QuotaCause) : State :=
  match s.principal id with
  | none => s
  | some p =>
    let derived := s.rederive id cause fun p => { p with lc := p.lc - amount }
    let q := (derived.principal id).getD p
    let queued :=
      if p.quotaState ≠ q.quotaState ∨ s.config.reportStep ≤ absDiff q.lc q.la then derived.queueNormal id
      else derived
    if q.lc < p.lc then queued.wake id else queued

/-- A principal id in range (R2). -/
def validId (id : Nat) : Bool := 1 ≤ id && id ≤ max32

/-- A hard limit in range (R2). -/
def validHard (hard : Nat) : Bool := 1 ≤ hard && hard ≤ max32

/-- The class that an operand codes (R179). -/
def decodeClass : Nat → Option PrincipalClass
  | 0 => some .limited
  | 1 => some .exempt
  | _ => none

/-- The result of a request that stores S: CLAMPED when S was above H, DONE otherwise (R13, R15). -/
def limitsCode (soft hard : Nat) : ResultCode := if hard < soft then .clamped else .done

/-- PRINCIPAL ADD (R13, R14). -/
def State.addPrincipal (s : State) (id cls soft hard period initial : Nat) : Reply :=
  if !validId id then s.refuse .badRequest
  else match decodeClass cls with
    | none => s.refuse .badRequest
    | some cls =>
      if !validHard hard then s.refuse .badRequest
      else if (s.principal id).isSome then s.refuse .exists_
      else
        let slot := lowestFreeSlot s.quota.principals 0
        if 65535 < slot then s.refuse .tableFull
        else
          let fresh : Principal :=
            { slot := slot, id := id, cls := cls, soft := min soft hard, hard := hard, period := period,
              lc := initial }
          let p := { fresh with grace := fresh.graceAfter s.clock.minute }
          let added :=
            { s with
              quota := { s.quota with principals := insertPrincipal p s.quota.principals }
              deadlines := graceDeadlines id .absent p.grace s.deadlines }
          ⟨if 0 < initial then added.queueNormal id else added, limitsCode soft hard,
            [u16 slot, u8 p.quotaState.code]⟩

/-- PRINCIPAL LIMITS (R15). -/
def State.setLimits (s : State) (id soft hard period : Nat) : Reply :=
  if !validId id || !validHard hard then s.refuse .badRequest
  else match s.principal id with
    | none => s.refuse .unknownPrincipal
    | some _ =>
      let derived := s.rederive id .limits fun p =>
        { p with soft := min soft hard, hard := hard, period := period }
      ⟨derived.wake id, limitsCode soft hard, []⟩

/-- Whether a principal is in use, so that it is not removed (R16 check 3). -/
def State.inUse (s : State) (p : Principal) : Bool :=
  0 < p.lc || 0 < p.restoreJobs || s.quota.held.any fun e => e.principal == p.id

/-- A principal removed whole (R17). -/
def State.dropPrincipal (s : State) (id : Nat) : State :=
  { s with
    quota := { s.quota with
      principals := s.quota.principals.filter fun p => p.id ≠ id
      contributions := s.quota.contributions.filter fun c => c.principal ≠ id }
    deadlines := removeDeadline (.grace id) s.deadlines
    notice := s.notice.leave id }

/-- PRINCIPAL REMOVE (R16, R17). -/
def State.removePrincipal (s : State) (id : Nat) : Reply :=
  if !validId id then s.refuse .badRequest
  else match s.principal id with
    | none => s.refuse .unknownPrincipal
    | some p =>
      if s.inUse p then s.refuse .inUse
      else if 0 < p.la || s.inFrame id then ⟨s.queueUrgent id, .unannounced, []⟩
      else ⟨s.dropPrincipal id, .done, []⟩

/-- A principal's grace as a result carries it: its code, and the deadline minute, 0 unless RUNNING (R177). -/
def Grace.fields (g : Grace) : List Field :=
  [u8 g.code, u32 (match g with
    | .running deadline => deadline
    | .absent | .expired => 0)]

/-- The values PRINCIPAL QUERY returns, in the order of R18. -/
def State.principalFields (s : State) (p : Principal) : List Field :=
  [u16 p.slot, u8 p.cls.code, u32 p.soft, u32 p.hard, u16 p.period, u32 p.lc, u32 p.la, u64 p.remote] ++
  p.grace.fields ++
  [u8 (s.queuedMarker p.id).code, flag8 (s.inFrame p.id), u8 p.restoreJobs,
   u32 p.unannounced, u64 p.campus, u8 p.quotaState.code,
   u8 (s.liveHolders p.id), u8 (s.anyHolders p.id),
   u8 (s.quota.held.countP fun e => e.principal == p.id)]

/-- PRINCIPAL QUERY (R18). -/
def State.queryPrincipal (s : State) (id : Nat) : Reply :=
  if !validId id then s.refuse .badRequest
  else match s.principal id with
    | none => s.refuse .unknownPrincipal
    | some p => ⟨s, .done, s.principalFields p⟩

/-- CREDIT (R20). -/
def State.creditRequest (s : State) (id amount : Nat) : Reply :=
  if !validId id || amount = 0 || max32 < amount then s.refuse .badRequest
  else match s.principal id with
    | none => s.refuse .unknownPrincipal
    | some p => ⟨s.credit id amount .credit, if p.lc < amount then .clamped else .done, []⟩

/-- PRINCIPAL_ADD (R13, R14), an operation that can insert a deadline entry (R155). -/
def execPrincipalAdd (id cls soft hard period initial : Nat) (s : State) :
    Host.Outcome State Fault Refusal :=
  s.serveInserting (.principalAdd id cls soft hard period initial) fun s =>
    s.addPrincipal id cls soft hard period initial

/-- PRINCIPAL_LIMITS (R15), an operation that can insert a deadline entry (R155). -/
def execPrincipalLimits (id soft hard period : Nat) (s : State) : Host.Outcome State Fault Refusal :=
  s.serveInserting (.principalLimits id soft hard period) fun s => s.setLimits id soft hard period

/-- PRINCIPAL_REMOVE (R16, R17). -/
def execPrincipalRemove (id : Nat) (s : State) : Host.Outcome State Fault Refusal :=
  s.serve (.principalRemove id) fun s => s.removePrincipal id

/-- PRINCIPAL_QUERY (R18). -/
def execPrincipalQuery (id : Nat) (s : State) : Host.Outcome State Fault Refusal :=
  s.serve (.principalQuery id) fun s => s.queryPrincipal id

/-- CREDIT (R20). -/
def execCredit (id amount : Nat) (s : State) : Host.Outcome State Fault Refusal :=
  s.serve (.credit id amount) fun s => s.creditRequest id amount

end Sys2Proof.Machine
end

