-- ==== Sys2Proof/Machine/Permits.lean ====
section
/-! DEFINITION. Read slots and permits (R119, R123), and the end of a restore job (R117). -/

namespace Sys2Proof.Machine

/-- The read slots set aside for held RESTORE entries (R40, R119). -/
def Quota.setAside (q : Quota) : Nat :=
  q.held.countP fun e => match e.origin with
    | .restore _ => true
    | .charge _ => false

/-- The read slots in use: by an outstanding permit, or set aside (R119). -/
def State.slotsInUse (s : State) : Nat := s.arbiter.permits.length + s.quota.setAside

/-- Whether no outstanding permit and no entry of the expired-id list holds an id (R123). -/
def Arbiter.idFree (a : Arbiter) (id : Nat) : Bool :=
  !(a.permits.any fun p => p.id == id) && !(a.expired.any fun e => e.id == id)

/-- The first free id from the next-id count upward, wrapping from 255 to 0 (R123). One is always found; the
next-id count itself stands in for none. -/
def Arbiter.chooseId (a : Arbiter) : Nat :=
  (((List.range 256).map fun k => (a.nextId + k) % 256).find? a.idFree).getD a.nextId

/-- What a PERMIT ISSUED or PERMIT EXPIRED record says of an owner: a job's slot, tag, volume and generation,
or a night's volume and generation (R123, R127). -/
def State.subject (s : State) : PermitOwner → PermitSubject
  | .night volume generation => .duplicate volume generation
  | .job slot _ =>
    match s.job slot with
    | none => .restore slot 0 0 0
    | some j => .restore slot j.tag j.volume j.generation

/-- A permit is issued (R123). -/
def State.issuePermit (s : State) (owner : PermitOwner) : State :=
  let id := s.arbiter.chooseId
  let issued : State :=
    { s with arbiter := { s.arbiter with
        permits := s.arbiter.permits ++ [{ id := id, owner := owner, chunk := s.config.chunk }]
        nextId := (id + 1) % 256 } }
  issued.raise (.permitIssued id s.config.chunk (s.subject owner))

/-- An entry of the expired-id list owned by a job that ends loses its owner (R117, R128). -/
def ExpiredPermit.disowned (slot : Nat) (e : ExpiredPermit) : ExpiredPermit :=
  match e.owner with
  | .job k principal => if k = slot then { e with owner := .formerJob principal } else e
  | .formerJob _ | .night _ _ => e

/-- The SNAP RETIRED record of a snapshot that a release removed (R106). -/
def State.raiseRetired (s : State) (volume : Nat) (r : Option Snapshot) : State :=
  match r with
  | none => s
  | some r => s.raise (.snapRetired volume r.generation r.created r.status)

/-- A job ends (R117). -/
def State.endJob (s : State) (slot : Nat) (j : Job) : State :=
  let x := s.volume j.volume
  let freed : State :=
    { (s.setVolume j.volume (x.release j.generation)).setJob slot none with
      quota := s.quota.update j.principal fun p => { p with restoreJobs := p.restoreJobs - 1 }
      arbiter := { s.arbiter with expired := s.arbiter.expired.map (·.disowned slot) } }
  (freed.raise (.restoreDone slot j.tag j.volume j.generation j.principal j.charged j.moved j.expired
    (j.state = .cancelling))).raiseRetired j.volume (x.retiredByRelease j.generation)

/-- A FINISHING or CANCELLING job with no permit outstanding ends (R115, R117). -/
def State.endJobIfDone (s : State) (slot : Nat) : State :=
  match s.job slot with
  | none => s
  | some j =>
    match j.state with
    | .finishing | .cancelling => if j.permits = 0 then s.endJob slot j else s
    | .running | .syncWait | .quotaWait => s

end Sys2Proof.Machine
end

