-- ==== Sys2Proof/Machine/Charging.lean ====
section
/-! DEFINITION. Charging (chapter 2): the hard limit test, the share test, grants, the held list, sync, the
hold timeout and the restore chunk charges. -/

namespace Sys2Proof.Machine

/-! ### The tests (R22 to R25, R39) -/

/-- What an evaluation decides (R22, R25). -/
inductive Verdict where
  | unknown
  | overQuota
  | shareLimit
  | granted
  | held
deriving DecidableEq, Repr

/-- The share divisor (R23). No charge is evaluated in CONFIGURING (R21); it is put with LEARNING (log 22). -/
def State.divisor (s : State) (id : Nat) : Nat :=
  match s.peers.station with
  | .joined => s.liveHolders id + 1
  | .learning | .configuring => s.config.stationCount
  | .isolated | .clash => s.anyHolders id + 1

/-- The announced headroom under a limit (R24, R39). -/
def Principal.headroom (p : Principal) (limit : Nat) : Nat := limit - min limit (p.la + p.remote)

/-- The share of a headroom (R24). -/
def State.share (s : State) (p : Principal) (limit : Nat) : Nat :=
  let h0 := p.headroom limit
  max (h0 / s.divisor p.id) (min h0 s.config.minimumShare)

/-- The share test of an amount (R25 steps 6 to 9). -/
def State.shareTest (s : State) (p : Principal) (limit amount : Nat) : Verdict :=
  if s.divisor p.id = 1 then .granted
  else if p.unannounced + amount ≤ s.share p limit then .granted
  else match s.peers.station with
    | .isolated | .clash => .shareLimit
    | .joined | .learning | .configuring => .held

/-- Steps 1 to 4 for a CHARGE (R22); `none` goes on to the share test. -/
def State.firstSteps (s : State) (id amount : Nat) : Option Verdict :=
  match s.principal id with
  | none => some .unknown
  | some p =>
    match p.cls with
    | .exempt => some .granted
    | .limited =>
      match p.quotaState with
      | .hard | .expired => some .overQuota
      | .under | .soft => if p.hard < p.campus + amount then some .overQuota else none

/-- The evaluation of a CHARGE in full (R22 to R25). -/
def State.evaluate (s : State) (id amount : Nat) : Verdict :=
  match s.firstSteps id amount, s.principal id with
  | some v, _ => v
  | none, some p => s.shareTest p p.hard amount
  | none, none => .unknown

/-- The evaluation of the first held CHARGE at sync: steps 1 to 4 only (R33). -/
def State.evaluateFirst (s : State) (id amount : Nat) : Verdict := (s.firstSteps id amount).getD .granted

/-- The restore limit H' (R39). -/
def State.restoreLimit (s : State) (p : Principal) : Nat :=
  min max32 (p.hard + p.hard * s.config.restoreAllowance / 1000)

/-- Steps 2 to 4 for a restore chunk (R39); `none` goes on to the share test. A job's principal is always in
the table; a missing one is answered as refused (log 36). -/
def State.firstChunkSteps (s : State) (id chunk : Nat) : Option Verdict :=
  match s.principal id with
  | none => some .overQuota
  | some p =>
    match p.cls with
    | .exempt => some .granted
    | .limited => if s.restoreLimit p < p.campus + chunk then some .overQuota else none

/-- The evaluation of a restore chunk in full (R39). -/
def State.evaluateChunk (s : State) (id chunk : Nat) : Verdict :=
  match s.firstChunkSteps id chunk, s.principal id with
  | some v, _ => v
  | none, some p => s.shareTest p (s.restoreLimit p) chunk
  | none, none => .overQuota

/-- The evaluation of a RESTORE entry that is first at sync (R33, R42). -/
def State.evaluateFirstChunk (s : State) (id chunk : Nat) : Verdict :=
  (s.firstChunkSteps id chunk).getD .granted

/-! ### Grants (R26, R27, R40) -/

/-- What a grant adds to Lc: saturating for an EXEMPT principal, exact for a LIMITED one (R26). -/
def Principal.charged (p : Principal) (amount : Nat) : Principal :=
  match p.cls with
  | .exempt => { p with lc := satAdd p.lc amount }
  | .limited => { p with lc := p.lc + amount }

/-- The grant effects: Lc rises, the principal is re-derived (R26), and it is queued NORMAL when D reaches the
report step or its state changed (R27). -/
def State.grant (s : State) (id amount : Nat) (cause : QuotaCause) : State :=
  match s.principal id with
  | none => s
  | some p =>
    let derived := s.rederive id cause fun p => p.charged amount
    let q := (derived.principal id).getD p
    if s.config.reportStep ≤ q.unannounced ∨ p.quotaState ≠ q.quotaState then derived.queueNormal id
    else derived

/-- The result of a grant, from the quota state after it (R26). -/
def State.grantCode (s : State) (id : Nat) : ResultCode :=
  match s.principal id with
  | some p => if p.quotaState = .soft then .grantedSoft else .granted
  | none => .granted

/-- A restore chunk is granted: the grant effects, the job RUNNING with its charged total and permits raised,
and the permit issued (R40, R42, R121). -/
def State.grantChunk (s : State) (slot : Nat) (j : Job) (chunk : Nat) : State :=
  ((s.grant j.principal chunk .restore).setJob slot
    (some { j with state := .running, charged := j.charged + chunk, permits := j.permits + 1 })).issuePermit
      (.job slot j.principal)

/-- A restore chunk is refused: the job enters QUOTA-WAIT with RESTORE STATE (R40, R112). -/
def State.refuseChunk (s : State) (slot : Nat) (j : Job) : State :=
  (s.setJob slot (some { j with state := .quotaWait })).raise
    (.restoreState slot j.tag j.principal j.state .quotaWait j.charged j.moved)

/-! ### The held list (R28 to R34) -/

/-- An entry joins the tail of the held list, and its principal is queued URGENT (R29, R40). -/
def State.joinHeld (s : State) (e : HeldEntry) : State :=
  let joined : State := { s with quota := { s.quota with held := s.quota.held ++ [e] } }
  joined.queueUrgent e.principal

/-- The answer of a held CHARGE begins its writeback to the address its descriptor came from (R33, R160). -/
def State.answerHeld (s : State) (address : Nat) (code : ResultCode) : State :=
  { s with port := { s.port with heldAnswers := s.port.heldAnswers ++ [⟨address, ⟨code, true, []⟩⟩] } }

/-- One held entry at sync, first for its principal or later: whether it stays, and the state (R33, R42). A grant
is an operation of R10 of its own, and ends with the expiry test when it inserted an entry (R157; DEDUCED,
log 21). -/
def State.resolveEntry (s : State) (first : Bool) (e : HeldEntry) : Bool × State :=
  match e.origin with
  | .charge address =>
    match if first then s.evaluateFirst e.principal e.amount else s.evaluate e.principal e.amount with
    | .unknown => (false, s.answerHeld address .unknownPrincipal)
    | .overQuota => (false, s.answerHeld address .overQuota)
    | .shareLimit => (false, s.answerHeld address .shareLimit)
    | .granted =>
      let granted := s.grant e.principal e.amount .charge
      (false, (granted.answerHeld address (granted.grantCode e.principal)).insertionTest s)
    | .held => (true, s.queueUrgent e.principal)
  | .restore slot =>
    match s.job slot with
    | none => (false, s)
    | some j =>
      match if first then s.evaluateFirstChunk j.principal e.amount
        else s.evaluateChunk j.principal e.amount with
      | .granted => (false, (s.grantChunk slot j e.amount).insertionTest s)
      | .held => (true, s.queueUrgent e.principal)
      | .unknown | .overQuota | .shareLimit => (false, s.refuseChunk slot j)

/-- The held entries of one carried principal, resolved in list order; frozen entries are passed over and not
counted as first (R33). Each entry that leaves signals a departure (R30). -/
def resolveHeld (id : Nat) : Bool → List HeldEntry → State → List HeldEntry × State
  | _, [], s => ([], s)
  | first, e :: rest, s =>
    if e.principal = id ∧ s.frozen e = false then
      let r := s.resolveEntry first e
      if r.1 then
        let x := resolveHeld id false rest r.2
        (e :: x.1, x.2)
      else resolveHeld id false rest r.2.departure
    else
      let x := resolveHeld id first rest s
      (e :: x.1, x.2)

/-- The held entries of one carried principal are resolved (R31 step 3, R33). -/
def State.resolvePrincipal (s : State) (id : Nat) : State :=
  let x := resolveHeld id true s.quota.held s
  { x.2 with quota := { x.2.quota with held := x.1 } }

/-- La takes the value a completed frame carried (R31 step 1). -/
def State.announce (s : State) (e : NoticeEntry) : State :=
  { s with quota := s.quota.update e.principal fun p => { p with la := e.value } }

/-- Sync: the completion of the own USAGE frame (R31, R88). -/
def State.sync (s : State) : State :=
  match s.notice.frame with
  | none => s
  | some f =>
    let announced := f.entries.foldl State.announce s
    let resolved := f.entries.foldl (fun s e => s.resolvePrincipal e.principal) announced
    { resolved with notice := { resolved.notice with frame := none } }

/-- A held entry expires (R34, R42): a CHARGE is answered BUSY-SYNC, a RESTORE entry's job returns to RUNNING;
the entry leaves the list, which is a departure (R30). -/
def State.expireHeld (s : State) (place : Nat) (e : HeldEntry) : State :=
  let left : State := { s with quota := { s.quota with held := s.quota.held.eraseIdx place } }
  (match e.origin with
    | .charge address => left.answerHeld address .busySync
    | .restore slot =>
      match left.job slot with
      | none => left
      | some j => left.setJob slot (some { j with state := .running })).departure

/-- HOLD_TIMEOUT (R34): the entry at a place of the held list whose hold age has reached the timeout. Frozen
entries do not expire (R38). -/
def execHoldTimeout (place : Nat) (s : State) : Host.Outcome State Fault Refusal :=
  .next (match s.quota.held[place]? with
    | none => s
    | some e =>
      if s.frozen e = false ∧ s.config.holdTimeout ≤ e.age then s.expireHeld place e else s)

/-! ### The CHARGE request (R21, R29, R30, R164) -/

/-- The process is done with a descriptor: the position advances, returning to 0 after size - 1 (R160). -/
def RingRegs.advance (r : RingRegs) : RingRegs :=
  { r with position := if r.size ≤ r.position + 1 then 0 else r.position + 1 }

/-- The request process goes on to the next descriptor, or stops where a stop is recorded (R162, R163). -/
def State.nextDescriptor (s : State) : State :=
  { s with port := { s.port with
      phase := .idle
      requestRing := s.port.requestRing.advance
      requestState := if s.port.request.stopRecorded then .stopped else .running
      request := { s.port.request with stopRecorded := false } } }

/-- A CHARGE that must be held joins the held list and leaves its descriptor PART-owned (R29), or, with 32
entries held, puts the request process in BLOCKED (R30, R164). -/
def State.holdCharge (s : State) (address id amount : Nat) : State :=
  if s.quota.held.length < 32 then
    (s.joinHeld { origin := .charge address, principal := id, amount := amount }).nextDescriptor
  else { s with port := { s.port with requestState := .blocked, departed := false } }

/-- The process is RUNNING again with its waiting CHARGE, as an answer leaves it (R164). -/
def State.unblocked (s : State) : State :=
  { s with port := { s.port with requestState := .running, departed := false } }

/-- A CHARGE taken by the request process (R21 to R30), at first or again from BLOCKED. A grant's result is that
of the state right after it (R26); then the expiry test is made when the grant inserted an entry (R157). -/
def State.executeCharge (s : State) (address id amount : Nat) : State :=
  if !validId id || amount = 0 || 1048575 < amount then (s.refuse .badRequest).answered
  else match s.evaluate id amount with
    | .unknown => (s.refuse .unknownPrincipal).answered
    | .overQuota => (s.refuse .overQuota).answered
    | .shareLimit => (s.refuse .shareLimit).answered
    | .granted =>
      let granted := s.grant id amount .charge
      (granted.respond (granted.grantCode id) []).insertionTest s
    | .held => s.holdCharge address id amount

/-- CHARGE (R21, R22). -/
def execCharge (id amount : Nat) (s : State) : Host.Outcome State Fault Refusal :=
  .next (match s.port.phase with
    | .executing address _ =>
      if s.takes (.charge id amount) then s.executeCharge address id amount else s
    | .idle | .returning _ _ => s)

/-- BLOCKED_CHARGE_REEXECUTION (R164): after a departure signal, the waiting CHARGE from its first step. -/
def execBlockedChargeReexecution (s : State) : Host.Outcome State Fault Refusal :=
  .next (match s.port.requestState, s.port.departed, s.port.phase with
    | .blocked, true, .executing address (.charge id amount) =>
      s.unblocked.executeCharge address id amount
    | _, _, _ => s)

end Sys2Proof.Machine
end

