-- ==== Sys2Proof/Machine/Notices.lean ====
section
/-! DEFINITION. Usage notices (chapter 5): building the USAGE frame, its return after an abandonment or a
withdrawal, received entries, the refresh sweep and NOTICE QUERY. -/

namespace Sys2Proof.Machine

/-- The entries a frame of a format may carry (R86). -/
def UsageFormat.limit : UsageFormat → Nat
  | .base => 8
  | .extended => 30

/-- The queue with the section of each principal, head first (R81). -/
def Notice.queue (n : Notice) : List (Nat × Bool) :=
  n.urgent.map (·, true) ++ n.normal.map (·, false)

/-- The notice unit offers a USAGE frame (R85). -/
def Notice.offers (n : Notice) : Bool := n.frame.isNone && !(n.urgent.isEmpty && n.normal.isEmpty)

/-- The frame record that a build writes (R86 steps 1 to 3). -/
def State.builtRecord (s : State) : FrameRecord :=
  { format := s.peers.format
    entries := (s.notice.queue.take s.peers.format.limit).map fun x =>
      { principal := x.1, value := ((s.principal x.1).map (·.lc)).getD 0, urgent := x.2 } }

/-- The notice unit after a build: the principals taken have left the queue, and the frame record is present
(R86 steps 4 and 5). -/
def State.builtNotice (s : State) : Notice :=
  let limit := s.peers.format.limit
  { s.notice with
    urgent := s.notice.urgent.drop limit
    normal := s.notice.normal.drop (limit - s.notice.urgent.length)
    frame := some s.builtRecord }

/-- The USAGE frame that a record stands for, with this station as sender (R86, R180). -/
def FrameRecord.frame (f : FrameRecord) (sender : Nat) : Frame :=
  .usage sender f.format (f.entries.map fun e => ⟨e.principal, e.value⟩)

/-- Carried principals that are not in the queue go back to the heads of the sections they came from, in the
order of their entries; those queued again keep their places (R89 steps 2 and 3). -/
def Notice.putBack (n : Notice) (entries : List NoticeEntry) : Notice :=
  let away := entries.filter fun e => !n.queued e.principal
  { n with
    urgent := (away.filter (·.urgent)).map (·.principal) ++ n.urgent
    normal := (away.filter fun e => !e.urgent).map (·.principal) ++ n.normal }

/-- Whether a principal has held entries that are not frozen (R89 step 4). -/
def State.heldUnfrozen (s : State) (id : Nat) : Bool :=
  s.quota.held.any fun e => e.principal == id && !s.frozen e

/-- A returned principal that stands in NORMAL with held entries joins the tail of URGENT (R89 step 4). -/
def State.promoteHeld (s : State) (e : NoticeEntry) : State :=
  if s.notice.normal.contains e.principal && s.heldUnfrozen e.principal then s.queueUrgent e.principal else s

/-- The own USAGE frame is returned, abandoned or withdrawn: steps 1 to 5 of R89 (R89, R90). Step 4 takes the
carried principals in the frame's entry order, where the rule gives no order (DESIGN CHOICE, log 41). -/
def State.returnFrame (s : State) : State :=
  match s.notice.frame with
  | none => s
  | some f =>
    let back : State := { s with notice := { s.notice.putBack f.entries with frame := none } }
    f.entries.foldl State.promoteHeld back

/-- The delivered frame leaves the FIFO, and the delivery has ended (R56). -/
def State.endDelivery (s : State) : State :=
  { s with bus := { s.bus with fifo := s.bus.fifo.drop 1, delivery := none } }

/-- USAGE_ENTRY_UPDATE (R92): one contribution update for the next entry of the frame under delivery; after
the last the delivery ends, as it does when the sender has become EVICTING (R56). The update can insert a
deadline entry (R155). -/
def execUsageEntryUpdate (s : State) : Host.Outcome State Fault Refusal :=
  .next (match s.bus.fifo, s.bus.delivery with
    | f :: _, some (e :: rest) =>
      let sender := f.frame.sender
      if (s.peer sender).state = .evicting then s.endDelivery
      else
        let updated := s.contribute e.principal sender e.value .peer
        State.insertionTest
          (if rest.isEmpty then updated.endDelivery
          else { updated with bus := { updated.bus with delivery := some rest } }) s
    | _ :: _, some [] => s.endDelivery
    | [], _ => s
    | _, none => s)

/-- The principal that a sweep step queues, if any (R94). -/
def State.sweepQueue (s : State) : State :=
  match s.quota.atSlot s.notice.refreshPointer with
  | none => s
  | some p => if 0 < p.lc ∨ 0 < p.la then s.queueNormal p.id else s

/-- The refresh pointer and the credit after a step (R93, R94). -/
def Notice.swept (n : Notice) : Notice :=
  { n with
    refreshPointer := if 65535 ≤ n.refreshPointer then 0 else n.refreshPointer + 1
    sweepCredit := n.sweepCredit - 1000 }

/-- REFRESH_SWEEP_STEP (R94): one step for each whole 1,000 of credit, while the sweep runs (R93). -/
def execRefreshSweepStep (s : State) : Host.Outcome State Fault Refusal :=
  .next (if s.peers.station.running ∧ 1000 ≤ s.notice.sweepCredit then
      { s.sweepQueue with notice := s.sweepQueue.notice.swept }
    else s)

/-- The values NOTICE QUERY returns, in the order of R95, the frame record as one group with one presence byte
(DEDUCED, log 44). -/
def Notice.fields (n : Notice) : List Field :=
  [u32 n.urgent.length, u32 n.normal.length] ++
  optional n.urgent.head? 4 id ++ optional n.normal.head? 4 id ++
  optionalGroup n.frame
    (fun f => [u8 f.format.code, u8 f.entries.length, u8 (f.entries.countP (·.urgent))]) [1, 1, 1] ++
  [u16 n.refreshPointer]

/-- NOTICE QUERY (R95). -/
def State.queryNotice (s : State) : Reply := ⟨s, .done, s.notice.fields⟩

/-- NOTICE_QUERY (R95). -/
def execNoticeQuery (s : State) : Host.Outcome State Fault Refusal := s.serve .noticeQuery State.queryNotice

end Sys2Proof.Machine
end

