-- ==== Sys2Proof/Machine/PeerTable.lean ====
section
/-! DEFINITION. The peer table (chapter 4): peer states, lapse, common format, clock skew, presence, station
states and eviction. -/

namespace Sys2Proof.Machine

/-! ### Common format and peer states (R59, R64, R65) -/

/-- The common format (R65). -/
def State.commonFormat (s : State) : UsageFormat :=
  if s.config.extendedFormat &&
      s.peers.table.toList.all fun p => p.state ≠ .live || p.capability = some .extended then .extended
  else .base

/-- The peer table recomputes the common format (R65). -/
def State.recomputeFormat (s : State) : State :=
  { s with peers := { s.peers with format := s.commonFormat } }

/-- A change of a peer record's state, with PEER STATE, what else the record takes, and the common format
(R59). -/
def State.changePeer (s : State) (k : Nat) (new : Peer) : State :=
  ((s.setPeer k new).raise (.peerState k (s.peer k).state new.state)).recomputeFormat

/-- A LIVE peer lapses: its claim becomes absent (R64). -/
def State.lapse (s : State) (k : Nat) : State :=
  s.changePeer k { s.peer k with state := .lapsed, claim := none }

/-- PEER_LAPSE (R64): the last-heard age of a LIVE peer has reached the lapse time. -/
def execPeerLapse (station : Nat) (s : State) : Host.Outcome State Fault Refusal :=
  .next (match (s.peer station).state, (s.peer station).age with
    | .live, some age => if s.config.lapseTime ≤ age then s.lapse station else s
    | _, _ => s)

/-! ### Station states (R69 to R73) -/

/-- Entry into JOINED; the silence age becomes 0 (R71). -/
def State.join (s : State) : State :=
  let joined := s.enterStation .joined
  { joined with peers := { joined.peers with silenceAge := 0 } }

/-- Entry into LEARNING: the learning count starts from 0, and with a learning time of 0 the station passes
through at once (R70, R71, R72). -/
def State.learn (s : State) : State :=
  let learning := s.enterStation .learning
  let counted : State := { learning with peers := { learning.peers with learningCount := 0 } }
  if s.config.learningTime = 0 then counted.join else counted

/-- LEARNING_TIME_REACHED (R71). -/
def execLearningTimeReached (s : State) : Host.Outcome State Fault Refusal :=
  .next (if s.peers.station = .learning ∧ s.config.learningTime * 1000 ≤ s.peers.learningCount then s.join
    else s)

/-- ISOLATION (R72). -/
def execIsolation (s : State) : Host.Outcome State Fault Refusal :=
  .next (if s.peers.station = .joined ∧ 1 < s.config.stationCount ∧
      s.config.isolationTime ≤ s.peers.silenceAge then s.enterStation .isolated
    else s)

/-- PRESENCE_DUE (R67). -/
def execPresenceDue (s : State) : Host.Outcome State Fault Refusal :=
  .next (if s.peers.station.running ∧ s.config.presenceInterval ≤ s.peers.presenceCount then
      { s with peers := { s.peers with presenceCount := 0, presenceDue := true } }
    else s)

/-- The arrival of a frame from a station is noted (R60): ages return to 0, and ISOLATED ends (R72). -/
def State.noteArrival (s : State) (k : Nat) : State :=
  let p := s.peer k
  let aged := match p.state with
    | .live | .lapsed => s.setPeer k { p with age := some 0 }
    | .absent | .evicting => s
  let heard : State := { aged with peers := { aged.peers with silenceAge := 0 } }
  if s.peers.station = .isolated then heard.learn else heard

/-! ### Delivery (R61, R62, R66) -/

/-- The clock skew test of a delivered PRESENCE (R66). -/
def State.testSkew (s : State) (k minute : Nat) : State :=
  let p := s.peer k
  if s.config.skewTolerance = 0 then s
  else if s.config.skewTolerance < absDiff minute s.clock.minute then
    if p.skew then s
    else (s.raise (.clockSkew k minute s.clock.minute)).setPeer k { p with skew := true }
  else s.setPeer k { p with skew := false }

/-- The capability set a PRESENCE carries (R62, R180). -/
def carriedCapability (extended : Bool) : Capability := if extended then .extended else .base

/-- A PRESENCE is applied (R62): capability set, claim, clock skew. -/
def State.applyPresence (s : State) (k : Nat) (extended : Bool) (minute : Nat) (claim : Option Claim) : State :=
  let p := s.peer k
  let new := carriedCapability extended
  let set := s.setPeer k { p with capability := some new, claim := claim }
  let formatted := if p.capability.getD .base = new then set else set.recomputeFormat
  formatted.testSkew k minute

/-- A frame is applied: a PRESENCE at once, with the end of its delivery; a USAGE frame passes to the notice
unit (R56, R61). -/
def State.applyFrame (s : State) : Frame → State
  | .presence sender extended minute claim => (s.applyPresence sender extended minute claim).endDelivery
  | .usage _ _ entries => { s with bus := { s.bus with delivery := some entries } }

/-- The ticks since the arrival of the latest frame from a station in the FIFO (R61). -/
def Bus.latestAge (b : Bus) (k : Nat) : Nat :=
  (((b.fifo.filter fun f => f.frame.sender == k).getLast?).map (·.age)).getD 0

/-- The peer becomes LIVE at the delivery of a frame from it (R61). -/
def State.makeLive (s : State) (k age : Nat) : State :=
  s.changePeer k { s.peer k with state := .live, age := some age }

/-- The delivery of the frame at the FIFO head to the peer table (R61). -/
def State.deliver (s : State) (f : Frame) : State :=
  let k := f.sender
  let revive (age : Nat) : State :=
    let applied := (s.makeLive k age).applyFrame f
    if s.config.lapseTime ≤ age then applied.lapse k else applied
  match (s.peer k).state with
  | .evicting => s.endDelivery
  | .live => s.applyFrame f
  | .absent => revive (s.bus.latestAge k)
  | .lapsed => revive ((s.peer k).age.getD 0)

/-- FRAME_DELIVERY (R61): the frame at the FIFO head, when no delivery is in progress (R56). -/
def execFrameDelivery (s : State) : Host.Outcome State Fault Refusal :=
  .next (match s.bus.fifo, s.bus.delivery with
    | f :: _, none => s.deliver f.frame
    | _, some _ => s
    | [], none => s)

/-! ### Eviction (R74 to R79) -/

/-- The delivery of a frame from a station ends when its record becomes EVICTING (R56). -/
def State.stopDelivery (s : State) (k : Nat) : State :=
  match s.bus.fifo, s.bus.delivery with
  | f :: _, some _ => if f.frame.sender = k then s.endDelivery else s
  | _, _ => s

/-- PEER EVICT (R76, R77). -/
def State.evictPeer (s : State) (k : Nat) : Reply :=
  if 15 < k then s.refuse .badRequest
  else if k = s.straps.station then s.refuse .notFound
  else match (s.peer k).state with
    | .absent => s.refuse .notFound
    | .live => s.refuse .peerLive
    | .lapsed | .evicting =>
      if s.peers.eviction.isSome then s.refuse .busy
      else
        let evicting := s.changePeer k { s.peer k with state := .evicting }
        let started : State :=
          { evicting with peers := { evicting.peers with eviction := some { station := k } } }
        ⟨started.stopDelivery k, .done, []⟩

/-- The sweep has ended (R79). -/
def State.endEviction (s : State) (e : Eviction) : State :=
  let freed := (s.changePeer e.station {}).raise (.evictDone e.station e.removed)
  { freed with peers := { freed.peers with eviction := none } }

/-- One sweep step on the slot under the pointer (R75): the eviction record and the state it leaves. -/
def State.sweepSlot (s : State) (e : Eviction) : Eviction × State :=
  match s.quota.atSlot e.pointer with
  | none => (e, s)
  | some p =>
    if s.quota.contributes p.id e.station then
      ({ e with removed := e.removed + 1 }, s.contribute p.id e.station 0 .evict)
    else (e, s)

/-- EVICTION_SWEEP_STEP (R75): a step that a tick has given, while an eviction is in flight; after the step at
slot 65,535 the sweep ends (R79). -/
def execEvictionSweepStep (s : State) : Host.Outcome State Fault Refusal :=
  .next (match s.peers.eviction with
    | none => s
    | some e =>
      if e.owed = 0 then s
      else
        let x := s.sweepSlot e
        if 65535 ≤ e.pointer then x.2.endEviction x.1
        else { x.2 with peers := { x.2.peers with
          eviction := some { x.1 with pointer := e.pointer + 1, owed := e.owed - 1 } } })

/-- PEER_EVICT (R76, R77). -/
def execPeerEvict (station : Nat) (s : State) : Host.Outcome State Fault Refusal :=
  s.serve (.peerEvict station) fun s => s.evictPeer station

/-! ### PEER QUERY (R80) -/

/-- The records in a state (R80). -/
def Peers.count (t : Peers) (state : PeerState) : Nat := t.table.toList.countP fun p => p.state = state

/-- The record values of R80: SELF for the own number, with the set this station advertises (R68). The rule
gives the own number no skew flag; its byte is written as 00h all the same, so that the values after it keep their
offsets (DESIGN CHOICE, log 42). -/
def State.peerRecordFields (s : State) (k : Nat) : List Field :=
  let self := k = s.straps.station
  let p : Peer :=
    if self then { capability := some (carriedCapability s.config.extendedFormat) } else s.peer k
  [u8 (if self then 4 else p.state.code), u8 (capabilityCode p.capability)] ++
  optional p.age 4 id ++ optionalGroup p.claim Claim.fields [4, 2, 1] ++ [flag8 p.skew]

/-- The station-wide values of R80. -/
def State.stationFields (s : State) : List Field :=
  let t := s.peers
  [u8 s.straps.station, u8 t.station.code, u8 t.format.code,
   u8 (t.count .live), u8 (t.count .lapsed), u8 (t.count .evicting)] ++
  optionalGroup t.eviction (fun e => [u8 e.station, u16 e.pointer, u32 e.removed]) [1, 2, 4] ++
  optional (if t.station = .learning then some t.learningCount else none) 4 id ++
  optional (if t.station.running then some t.silenceAge else none) 4 id

/-- PEER QUERY (R80). -/
def State.queryPeer (s : State) (k : Nat) : Reply :=
  if 15 < k then s.refuse .badRequest else ⟨s, .done, s.peerRecordFields k ++ s.stationFields⟩

/-- PEER_QUERY (R80). -/
def execPeerQuery (station : Nat) (s : State) : Host.Outcome State Fault Refusal :=
  s.serve (.peerQuery station) fun s => s.queryPeer station

end Sys2Proof.Machine
end

