-- ==== Sys2Proof/Machine/Clock.lean ====
section
/-! DEFINITION. The station clock and the deadline list (chapter 9): the 1 ms tick and what it counts in
every block (R153), the row of the expiry run (R157), CLOCK SET and CLOCK QUERY. -/

namespace Sys2Proof.Machine

/-! ### The tick (R152, R153) -/

/-- The clock after a tick (R152); at each second advance a reload becomes due (R145, R153). -/
def Clock.tick (c : Clock) : Clock :=
  if c.millis < 999 then { c with millis := c.millis + 1 }
  else if c.seconds < 59 then
    { c with millis := 0, seconds := c.seconds + 1, reloadsDue := c.reloadsDue + 1 }
  else
    { millis := 0, seconds := 0, minute := satAdd c.minute 1, reloadsDue := c.reloadsDue + 1 }

/-- A held entry's age after a tick; a frozen entry's age stands (R34, R38). -/
def State.agedHeld (s : State) (e : HeldEntry) : HeldEntry :=
  if s.frozen e then e else { e with age := e.age + 1 }

/-- A record's last-heard age after a tick (R63). -/
def Peer.ticked (p : Peer) : Peer :=
  match p.state with
  | .absent => p
  | .live | .lapsed | .evicting => { p with age := p.age.map fun a => satAdd a 1 }

/-- The peer table after a tick: last-heard ages from LEARNING onward (R63), the learning count (R71), the
silence age (R72), the presence count (R67), and the 16 sweep steps the tick gives an eviction (R75). -/
def Peers.ticked (t : Peers) : Peers :=
  { t with
    table := if t.station = .configuring then t.table else t.table.map Peer.ticked
    learningCount := if t.station = .learning then t.learningCount + 1 else t.learningCount
    silenceAge := if t.station.running then satAdd t.silenceAge 1 else t.silenceAge
    presenceCount := if t.station.running then t.presenceCount + 1 else t.presenceCount
    eviction := t.eviction.map fun e => { e with owed := e.owed + 16 } }

/-- The bus controller after a tick: the holdoff (R51), and the time frames have stood in the FIFO (R60). -/
def Bus.ticked (b : Bus) : Bus :=
  { b with
    tx := if b.tx.state = .holdoff then { b.tx with holdoffTicks := b.tx.holdoffTicks + 1 } else b.tx
    fifo := b.fifo.map fun f => { f with age := satAdd f.age 1 } }

/-- The sweep credit after a tick (R93). -/
def Notice.ticked (n : Notice) (running : Bool) (rate : Nat) : Notice :=
  { n with sweepCredit := if running then n.sweepCredit + rate else n.sweepCredit }

/-- Every outstanding permit's age after a tick (R123, R127). -/
def Arbiter.ticked (a : Arbiter) : Arbiter :=
  { a with permits := a.permits.map fun p => { p with age := p.age + 1 } }

/-- The ticks since a waiting process began to wait, or since its last auto-poll fetch (R163, R166). -/
def Port.ticked (p : Port) : Port :=
  { p with
    request := if p.requestState = .suspended then
      { p.request with waitTicks := p.request.waitTicks + 1 } else p.request
    event := if p.eventState = .stalled then
      { p.event with waitTicks := p.event.waitTicks + 1 } else p.event }

/-- One 1 ms station tick in every block (R152, R153). -/
def State.ticked (s : State) : State :=
  { s with
    clock := s.clock.tick
    quota := { s.quota with held := s.quota.held.map s.agedHeld }
    notice := s.notice.ticked s.peers.station.running s.config.refreshRate
    bus := s.bus.ticked
    peers := s.peers.ticked
    arbiter := s.arbiter.ticked
    port := s.port.ticked }

/-- STATION_TICK (R152). -/
def execStationTick (s : State) : Host.Outcome State Fault Refusal := .next s.ticked

/-! ### Expiry (R157) -/

/-- DEADLINE_EXPIRY_RUN (R157). -/
def execDeadlineExpiryRun (s : State) : Host.Outcome State Fault Refusal :=
  .next s.takeRun

/-! ### CLOCK SET and CLOCK QUERY (R158, R159) -/

/-- CLOCK SET (R158). A run that the last minute advance left due is taken first, at the old minute
(log 20). A reload still due stays due, and is then computed at the new minute (DESIGN CHOICE, log 49). -/
def State.setClock (s : State) (minute : Nat) : Reply :=
  let before := s.expiryRun
  let set : State :=
    { before with clock := { before.clock with minute := minute, seconds := 0, millis := 0 } }
  ⟨set.takeRun, .done, []⟩

/-- CLOCK_SET (R158). -/
def execClockSet (minute : Nat) (s : State) : Host.Outcome State Fault Refusal :=
  s.serve (.clockSet minute) fun s => s.setClock minute

/-- Whether an entry is a GRACE entry (R154). -/
def Deadline.isGrace (d : Deadline) : Bool :=
  match d.object with
  | .grace _ => true
  | .dawn _ => false

/-- The entry's kind, object and due minute (R154, R159, R179). The object takes the four bytes of a principal
id for both kinds (DESIGN CHOICE, log 43): the rules give no width of their own to the object of a DAWN entry. -/
def Deadline.fields (d : Deadline) : List Field :=
  match d.object with
  | .grace id => [u8 0, u32 id, u32 d.due]
  | .dawn volume => [u8 1, u32 volume, u32 d.due]

/-- The values CLOCK QUERY returns, in the order of R159, the head entry as one group with one presence byte
(DEDUCED, log 44). -/
def State.clockFields (s : State) : List Field :=
  [u32 s.clock.minute, u8 s.clock.seconds, u16 s.clock.millis,
   u32 (s.deadlines.countP (·.isGrace)), u8 (s.deadlines.countP fun d => !d.isGrace)] ++
  optionalGroup s.deadlines.head? Deadline.fields [1, 4, 4]

/-- CLOCK QUERY (R159). -/
def State.queryClock (s : State) : Reply := ⟨s, .done, s.clockFields⟩

/-- CLOCK_QUERY (R159). -/
def execClockQuery (s : State) : Host.Outcome State Fault Refusal := s.serve .clockQuery State.queryClock

end Sys2Proof.Machine
end

