-- ==== Sys2Proof/Machine/Formats.lean ====
section
/-! DEFINITION. Frames on the station bus (R180), the validity of a received burst (R54), and the
configuration image with its clamping (R172, R173, R181). -/

namespace Sys2Proof.Machine

/-! ### The check (R180) -/

/-- One place of the check's shift: exclusive-or with 1021h when the bit shifted out is 1. -/
def crcShift (r : BitVec 16) : BitVec 16 :=
  if r.getLsbD 15 then (r <<< 1) ^^^ 0x1021#16 else r <<< 1

/-- One byte into the check: into the high eight bits, then eight shifts. -/
def crcByte (r : BitVec 16) (b : Byte) : BitVec 16 :=
  let r := r ^^^ (b.setWidth 16 <<< 8)
  crcShift (crcShift (crcShift (crcShift (crcShift (crcShift (crcShift (crcShift r)))))))

/-- The check over bytes in order, from FFFFh (R180). -/
def crc16 (bytes : List Byte) : BitVec 16 := bytes.foldl crcByte 0xFFFF#16

/-- Bytes followed by their check, high byte first (R180). -/
def withCheck (bytes : List Byte) : List Byte := bytes ++ bigEndian 2 (crc16 bytes).toNat

/-! ### Frames (R180) -/

/-- The body of a USAGE frame (R180). -/
def usageBody (entries : List UsageEntry) : List Byte :=
  entries.flatMap fun e => bigEndian 4 e.principal ++ bigEndian 4 e.value

/-- The body of a PRESENCE frame in its two forms (R180). -/
def presenceBody (minute : Nat) : Option Claim → List Byte
  | none => bigEndian 4 minute ++ [0, 0, 0, 0]
  | some c => bigEndian 4 minute ++ bigEndian 4 c.backlog ++ bigEndian 2 c.seconds ++
      [if c.paused then 1 else 0, 0]

/-- The bytes of a frame as they go onto the line: header, body, check (R180). -/
def Frame.bytes : Frame → List Byte
  | .usage sender format entries =>
    withCheck ([0x02#8, BitVec.ofNat 8 sender, BitVec.ofNat 8 format.code, BitVec.ofNat 8 entries.length] ++
      bigEndian 2 (8 * entries.length) ++ usageBody entries)
  | .presence sender extended minute claim =>
    withCheck ([0x01#8, BitVec.ofNat 8 sender, if extended then 0x03#8 else 0x01#8,
        if claim.isSome then 0x01#8 else 0x00#8] ++
      bigEndian 2 (if claim.isSome then 12 else 8) ++ presenceBody minute claim)

/-- The value at an offset of a frame or an image, most significant byte first. -/
def valueAt (bytes : List Byte) (offset width : Nat) : Nat := fromBigEndian (bytesAt bytes offset width)

/-- The USAGE frame that bytes with a good length and check hold, if every field is allowed (R54, R180). -/
def parseUsage (bytes : List Byte) (sender : Nat) : Option Frame :=
  let count := valueAt bytes 3 1
  let format := match valueAt bytes 2 1 with
    | 0 => some UsageFormat.base
    | 1 => some UsageFormat.extended
    | _ => none
  match format with
  | none => none
  | some format =>
    let limit := match format with
      | .base => 8
      | .extended => 30
    if 1 ≤ count ∧ count ≤ limit ∧ valueAt bytes 4 2 = 8 * count ∧ bytes.length = 6 + 8 * count + 2 then
      some (.usage sender format ((List.range count).map fun k =>
        ⟨valueAt bytes (6 + 8 * k) 4, valueAt bytes (6 + 8 * k + 4) 4⟩))
    else none

/-- The PRESENCE frame that bytes with a good length and check hold, if every field is allowed (R54, R180). -/
def parsePresence (bytes : List Byte) (sender : Nat) : Option Frame :=
  let capability := valueAt bytes 2 1
  if capability ≠ 0x01 ∧ capability ≠ 0x03 then none
  else
    let extended := capability = 0x03
    let minute := valueAt bytes 6 4
    match valueAt bytes 3 1 with
    | 0 =>
      if valueAt bytes 4 2 = 8 ∧ bytes.length = 16 ∧ valueAt bytes 10 4 = 0 then
        some (.presence sender extended minute none)
      else none
    | 1 =>
      if valueAt bytes 4 2 = 12 ∧ bytes.length = 20 ∧ valueAt bytes 16 1 ≤ 1 ∧ valueAt bytes 17 1 = 0 then
        some (.presence sender extended minute
          (some ⟨valueAt bytes 10 4, valueAt bytes 14 2, valueAt bytes 16 1 = 1⟩))
      else none
    | _ => none

/-- The valid frame that a received burst is, or none (R54). -/
def parseFrame (bytes : List Byte) : Option Frame :=
  if bytes.length < 8 ∨ 248 < bytes.length then none
  else if valueAt bytes (bytes.length - 2) 2 ≠ (crc16 (bytes.take (bytes.length - 2))).toNat then none
  else
    let sender := valueAt bytes 1 1
    if 15 < sender then none
    else match valueAt bytes 0 1 with
      | 0x01 => parsePresence bytes sender
      | 0x02 => parseUsage bytes sender
      | _ => none

/-! ### Configuration image (R172, R173, R181) -/

/-- A field brought into its range, and whether that changed it (R173). -/
def clampField (low high v : Nat) : Nat × Nat :=
  if v < low then (low, 1) else if high < v then (high, 1) else (v, 0)

/-- A two-valued field, taken at its default when its value is neither encoding (R173). -/
def clampFlag (dflt : Bool) (v : Nat) : Bool × Nat :=
  match v with
  | 0 => (false, 0)
  | 1 => (true, 0)
  | _ => (dflt, 1)

/-- The isolation time after its range clamp and its raise to the lapse time; it adds at most one to the
clamped count, however many of the two apply (R173). -/
def clampIsolation (lapseTime v : Nat) : Nat × Nat :=
  let t := clampField 1000 60000 v
  if t.1 < lapseTime then (lapseTime, 1) else t

/-- The effective configuration of an image and its clamped count, at the offsets of R181 (R173). -/
def clampImage (image : List Byte) : Config × Nat :=
  let stationCount := clampField 1 16 (valueAt image 4 1)
  let presenceInterval := clampField 100 10000 (valueAt image 5 2)
  let lapseCount := clampField 2 8 (valueAt image 7 1)
  let isolationTime := clampIsolation (lapseCount.1 * presenceInterval.1) (valueAt image 8 2)
  let learningTime := clampField 0 65535 (valueAt image 10 2)
  let refreshRate := clampField 1 4096 (valueAt image 12 2)
  let reportStep := clampField 1 1048575 (valueAt image 14 4)
  let minimumShare := clampField 1 65535 (valueAt image 18 2)
  let readSlots := clampField 1 32 (valueAt image 20 1)
  let chunk := clampField 16 4096 (valueAt image 21 2)
  let restoreWeight := clampField 1 8 (valueAt image 23 1)
  let restoreAllowance := clampField 0 500 (valueAt image 24 2)
  let linkCapacity := clampField 1 65535 (valueAt image 26 2)
  let minimumRate := clampField 0 linkCapacity.1 (valueAt image 28 2)
  let permitTimeout := clampField 1 3600 (valueAt image 30 2)
  let extendedFormat := clampFlag true (valueAt image 32 1)
  let holdHonoured := clampFlag true (valueAt image 33 1)
  let skewTolerance := clampField 0 60 (valueAt image 34 1)
  let holdTimeout := clampField 2 1000 (valueAt image 35 2)
  ({ stationCount := stationCount.1, presenceInterval := presenceInterval.1, lapseCount := lapseCount.1
     isolationTime := isolationTime.1, learningTime := learningTime.1, refreshRate := refreshRate.1
     reportStep := reportStep.1, minimumShare := minimumShare.1, holdTimeout := holdTimeout.1
     readSlots := readSlots.1, chunk := chunk.1, restoreWeight := restoreWeight.1
     restoreAllowance := restoreAllowance.1, linkCapacity := linkCapacity.1, minimumRate := minimumRate.1
     permitTimeout := permitTimeout.1, extendedFormat := extendedFormat.1, holdHonoured := holdHonoured.1
     skewTolerance := skewTolerance.1 },
   stationCount.2 + presenceInterval.2 + lapseCount.2 + isolationTime.2 + learningTime.2 + refreshRate.2 +
     reportStep.2 + minimumShare.2 + readSlots.2 + chunk.2 + restoreWeight.2 + restoreAllowance.2 +
     linkCapacity.2 + minimumRate.2 + permitTimeout.2 + extendedFormat.2 + holdHonoured.2 + skewTolerance.2 +
     holdTimeout.2)

/-- Steps 1 and 2 of the load (R172): the device address 50h for writing and memory address 0, in 2 bytes with EEAW
high and in 1 with it low; then a repeated start, the device address for reading, and the 39 bytes of the image,
each acknowledged but the last. -/
def loadTransfer (wideAddress : Bool) : List SerialStep :=
  [.start, .deviceForWriting 0x50] ++
  (if wideAddress then [.memoryAddress 0, .memoryAddress 0] else [.memoryAddress 0]) ++
  [.repeatedStart, .deviceForReading 0x50] ++ List.replicate 38 .readAcknowledged ++ [.readLast]

/-- A byte that addresses the memory, and that the memory acknowledges or does not (R172). -/
def SerialStep.addresses : SerialStep → Bool
  | .deviceForWriting _ | .memoryAddress _ | .deviceForReading _ => true
  | .start | .repeatedStart | .readAcknowledged | .readLast | .release => false

/-- The transfer up to the addressing byte of a number, counted from 0. -/
def throughAddress : Nat → List SerialStep → List SerialStep
  | _, [] => []
  | n, x :: rest =>
    if x.addresses then
      match n with
      | 0 => [x]
      | n + 1 => x :: throughAddress n rest
    else x :: throughAddress n rest

/-- What the loader makes of what the memory gave: the header test, the check test, then clamping (R172). -/
def loadOutcome : LoadRead → Loader
  | .noAck _ => { reason := .noAck }
  | .image bytes =>
    if bytes.length ≠ 39 ∨ valueAt bytes 0 2 ≠ 0x5A16 ∨ valueAt bytes 2 2 ≠ 0x0027 then
      { reason := .badHeader }
    else if valueAt bytes 37 2 ≠ (crc16 (bytes.take 37)).toNat then { reason := .badCheck }
    else
      { config := (clampImage bytes).1, source := .image, reason := .none, clamped := (clampImage bytes).2 }

/-- What the loader did on its lines in a load that ended so: at a failure it stops and releases them (R172). A
place past the last addressing byte is taken as the last (log 34). -/
def loadDriven (wideAddress : Bool) (read : LoadRead) : List SerialStep :=
  match read with
  | .noAck place => throughAddress (min place (if wideAddress then 3 else 2)) (loadTransfer wideAddress) ++ [.release]
  | .image _ =>
    match (loadOutcome read).source with
    | .image => loadTransfer wideAddress
    | .defaults => loadTransfer wideAddress ++ [.release]

/-- What the loader did on its lines when SCL was held after a number of its steps (R172). -/
def loadHeld (wideAddress : Bool) (point : Nat) : List SerialStep :=
  (loadTransfer wideAddress).take point ++ [.release]

end Sys2Proof.Machine
end

