-- ==== Sys2Proof/Machine/Loader.lean ====
section
/-! DEFINITION. Configuration and start-up (chapter 11): hardware reset, the two ends of the configuration load
and CONFIG QUERY. -/

namespace Sys2Proof.Machine

/-- HARDWARE_RESET (R171, R170, R130, R151, R152): every block at its reset state, the straps as sampled, and
the backoff generator seeded from the station number (R49). The levels of the input pins and of the line stay
as they are, and a burst on the line is ignored to its end (R44, log 32). -/
def execHardwareReset (station : Nat) (wideAddress : Bool) (s : State) : Host.Outcome State Fault Refusal :=
  .next { State.reset with
    straps := { station := station, wideAddress := wideAddress }
    pins := s.pins
    bus := {
      generator := { seed := station }
      line := { busy := s.bus.line.busy, ignored := s.bus.line.busy } }
    pending := s.pending }

/-- A start recorded in CONFIGURING takes effect for a set ring (R162, R174 step 3). -/
def Port.recordedStarts (p : Port) : Port :=
  { p with
    requestState :=
      if p.requestState = .stopped ∧ p.request.startRecorded ∧ p.requestRing.size ≠ 0 then .running
      else p.requestState
    eventState :=
      if p.eventState = .stopped ∧ p.event.startRecorded ∧ p.eventRing.size ≠ 0 then .running
      else p.eventState
    request := { p.request with startRecorded := false }
    event := { p.event with startRecorded := false } }

/-- The bus controller switched on (R44, R174 step 2): a burst already on the line is ignored to its end. -/
def Bus.switchedOn (b : Bus) : Bus :=
  { b with
    tx := { b.tx with state := .idle }
    listening := true
    line := { b.line with ignored := b.line.busy } }

/-- The schedules that the first entry into LEARNING starts: presence, silence age, and refresh sweep (R67,
R70, R93). -/
def State.startSchedules (s : State) : State :=
  { s with
    peers := { s.peers with presenceCount := 0, presenceDue := true, silenceAge := 0 }
    notice := { s.notice with refreshPointer := 0, sweepCredit := 0 }
    bus := s.bus.switchedOn }

/-- The configuration load ends (R174): CONFIG LOADED, the entry into LEARNING with what it starts (R70), and
the recorded starts. -/
def State.endLoad (s : State) (l : Loader) : State :=
  let loaded := State.raise { s with loader := l }
    (.configLoaded l.source l.reason l.clamped s.straps.station)
  let learning := loaded.learn.recomputeFormat.startSchedules
  { learning with port := learning.port.recordedStarts }

/-- CONFIG_LOAD_END (R172, R174): the transfer with the width of address that EEAW gives, and what came of it. -/
def execConfigLoadEnd (read : LoadRead) (s : State) : Host.Outcome State Fault Refusal :=
  .next (if s.peers.station = .configuring then
      s.endLoad { loadOutcome read with driven := loadDriven s.straps.wideAddress read }
    else s)

/-- The milliseconds since hardware reset, in which no CLOCK SET has been taken while CONFIGURING (R21, R152). -/
def Clock.elapsed (c : Clock) : Nat := (c.minute * 60 + c.seconds) * 1000 + c.millis

/-- CONFIG_LOAD_BUS_HELD (R172, R174): the memory holds SCL low at some point of the load; the defaults, with reason
BUS-HELD. How far the loader had come is open (log 34). -/
def execConfigLoadBusHeld (s : State) : Host.Outcome State Fault Refusal :=
  .next (if s.peers.station = .configuring then
      s.endLoad
        { reason := .busHeld
          driven := loadHeld s.straps.wideAddress (Config.stepsBeforeHold s.clock.elapsed) }
    else s)

/-- The fields of the effective configuration record in the order of R173. -/
def Config.fields (c : Config) : List Field :=
  [u8 c.stationCount, u16 c.presenceInterval, u8 c.lapseCount, u32 c.isolationTime, u16 c.learningTime,
   u16 c.refreshRate, u32 c.reportStep, u16 c.minimumShare, u16 c.holdTimeout, u8 c.readSlots, u16 c.chunk,
   u8 c.restoreWeight, u16 c.restoreAllowance, u16 c.linkCapacity, u16 c.minimumRate, u16 c.permitTimeout,
   flag8 c.extendedFormat, flag8 c.holdHonoured, u8 c.skewTolerance]

/-- The values CONFIG QUERY returns, in the order of R175. The byte for the EEAW address width is open
(log 9). -/
def State.configFields (s : State) : List Field :=
  Config.fields s.config ++
  [u32 s.config.lapseTime, u8 s.loader.source.code, u8 s.loader.reason.code, u8 s.loader.clamped,
   u8 s.straps.station, ⟨1, (Config.addressWidthCode s.straps.wideAddress).toNat⟩]

/-- CONFIG QUERY (R175). -/
def State.queryConfig (s : State) : Reply := ⟨s, .done, s.configFields⟩

/-- CONFIG_QUERY (R175). -/
def execConfigQuery (s : State) : Host.Outcome State Fault Refusal := s.serve .configQuery State.queryConfig

end Sys2Proof.Machine
end

