-- ==== Sys2Proof/Machine/Port.lean ====
section
/-! DEFINITION. The host request port (chapter 10) with its register window (R182): fetches and writebacks of
both processes, link errors, the control register, rings, flags and PORT RESET. -/

namespace Sys2Proof.Machine

/-! ### Descriptors in host memory (R160, R161) -/

/-- The host address of the request descriptor at the position (R160: 64 bytes each). Past the top of the address
space it runs on as a number (DESIGN CHOICE, log 51). -/
def Port.requestAddress (p : Port) : Nat := p.requestRing.base.toNat + 64 * p.requestRing.position

/-- The host address of the event descriptor at a position (R160: 32 bytes each), as for the request ring (log
51). -/
def Port.eventAddress (p : Port) (position : Nat) : Nat := p.eventRing.base.toNat + 32 * position

/-- A descriptor still awaits the answer to a held charge, or its writeback; it counts as HOST-owned (R163). -/
def State.awaits (s : State) (address : Nat) : Bool :=
  s.quota.held.any (fun e => e.origin = .charge address) ||
    s.port.heldAnswers.any fun a => a.address == address

/-- The descriptor fetched at the position is the part's: its ownership byte reads 01h, and it awaits no
answer (R163, R177). -/
def State.partOwned (s : State) (bytes : List Byte) : Bool :=
  bytes.getD 0 0 = 0x01#8 && !s.awaits s.port.requestAddress

/-! ### Waiting processes (R163, R166) -/

/-- A process begins to wait with the auto-poll interval as it then stands (R163). -/
def ProcessMarks.waiting (m : ProcessMarks) (interval : Nat) : ProcessMarks :=
  { m with poll := false, waitInterval := interval, waitTicks := 0 }

/-- The auto-poll interval of a waiting process has passed (R163). -/
def ProcessMarks.pollDue (m : ProcessMarks) : Bool := 0 < m.waitInterval && m.waitInterval ≤ m.waitTicks

/-! ### The request process (R162, R163) -/

/-- A PART-owned descriptor is taken: a request to execute, or BAD-REQUEST for a kind not in the table (R163,
R179). -/
def State.takeDescriptor (s : State) (bytes : List Byte) : State :=
  let address := s.port.requestAddress
  { s with port := { s.port with
      requestState := .running
      request := { s.port.request with poll := false }
      phase := match decodeRequest bytes with
        | some r => .executing address r
        | none => .returning address ⟨.badRequest, false, []⟩ } }

/-- The request process enters SUSPENDED, with REQUEST SUSPENDED (R163, R168). -/
def State.suspendRequest (s : State) : State :=
  State.setFlag
    { s with port := { s.port with
        requestState := .suspended
        request := s.port.request.waiting s.port.autoPoll } } .requestSuspended

/-- A HOST-owned descriptor: with the poll-pending marker set the same position is fetched again, and
otherwise the process is SUSPENDED (R163). -/
def State.hostOwned (s : State) : State :=
  if s.port.request.poll then
    { s with port := { s.port with request := { s.port.request with poll := false } } }
  else s.suspendRequest

/-- REQUEST_DESCRIPTOR_FETCH (R163): the RUNNING process has read the descriptor at its position. -/
def execRequestDescriptorFetch (bytes : List Byte) (s : State) : Host.Outcome State Fault Refusal :=
  .next (match s.port.requestState, s.port.phase with
    | .running, .idle => if s.partOwned bytes then s.takeDescriptor bytes else s.hostOwned
    | _, _ => s)

/-- The writeback of an executed request has completed (R161, R163). -/
def State.returned (s : State) (address : Nat) (a : Answer) : State :=
  let done := s.nextDescriptor
  State.setFlag { done with port := { done.port with written := a.writes address } } .requestDone

/-- The writeback of a held CHARGE's answer has completed (R161). -/
def State.heldReturned (s : State) (a : HeldAnswer) (rest : List HeldAnswer) : State :=
  State.setFlag
    { s with port := { s.port with heldAnswers := rest, written := a.answer.writes a.address } } .requestDone

/-- REQUEST_WRITEBACK_DONE (R161): of the request being returned, or of the oldest held answer. -/
def execRequestWritebackDone (held : Bool) (s : State) : Host.Outcome State Fault Refusal :=
  .next (match held, s.port.requestState, s.port.phase, s.port.heldAnswers with
    | false, .running, .returning address a, _ => s.returned address a
    | true, _, _, a :: rest => s.heldReturned a rest
    | _, _, _, _ => s)

/-! ### The event process (R166, R178) -/

/-- The position after one (R160). -/
def RingRegs.following (r : RingRegs) : Nat := r.advance.position

/-- The head record can be posted: its descriptor is PART-owned, for RESTORE DONE both are (R178). -/
def EventRecord.postable (e : EventRecord) (own next : Byte) : Bool :=
  own = 0x01#8 && (!e.double || next = 0x01#8)

/-- The post of a record begins (R166). -/
def State.beginPost (s : State) (e : EventRecord) : State :=
  let ring := s.port.eventRing
  { s with port := { s.port with
      eventState := .running
      event := { s.port.event with poll := false }
      posting := some (e.writes (s.port.eventAddress ring.position) (s.port.eventAddress ring.following)) } }

/-- The event process enters STALLED, with EVENT STALLED (R166, R168). -/
def State.stall (s : State) : State :=
  State.setFlag
    { s with port := { s.port with
        eventState := .stalled
        event := s.port.event.waiting s.port.autoPoll } } .eventStalled

/-- A HOST-owned event descriptor: the event process uses its poll-pending marker as the request process
does (R166). -/
def State.eventHostOwned (s : State) : State :=
  if s.port.event.poll then
    { s with port := { s.port with event := { s.port.event with poll := false } } }
  else s.stall

/-- EVENT_DESCRIPTOR_FETCH (R166): the RUNNING process, with a record at the head, has read the ownership of
the descriptor at its position, and of the next one for RESTORE DONE (R178). -/
def execEventDescriptorFetch (own next : Byte) (s : State) : Host.Outcome State Fault Refusal :=
  .next (match s.port.eventState, s.port.posting, s.port.events with
    | .running, none, e :: _ => if e.postable own next then s.beginPost e else s.eventHostOwned
    | _, _, _ => s)

/-- The post of the head record has completed (R165, R166, R178). -/
def State.posted (s : State) (e : EventRecord) (rest : List EventRecord) (writes : List HostWrite) : State :=
  let ring := s.port.eventRing
  State.setFlag
    { s with port := { s.port with
        events := rest
        eventRing := if e.double then ring.advance.advance else ring.advance
        eventState := if s.port.event.stopRecorded then .stopped else .running
        event := { s.port.event with stopRecorded := false }
        posting := none
        written := writes } } .eventPosted

/-- EVENT_POST_DONE (R166). -/
def execEventPostDone (s : State) : Host.Outcome State Fault Refusal :=
  .next (match s.port.posting, s.port.events with
    | some writes, e :: rest => s.posted e rest writes
    | _, _ => s)

/-! ### Auto-poll (R163, R166) -/

/-- An auto-poll fetch of the request ring: a HOST-owned descriptor leaves the process SUSPENDED, and the next
interval begins (R163). REQUEST SUSPENDED is set again where it had been cleared (log 18). -/
def State.pollRequest (s : State) (bytes : List Byte) : State :=
  if s.partOwned bytes then s.takeDescriptor bytes
  else State.setFlag
    { s with port := { s.port with request := { s.port.request with waitTicks := 0 } } } .requestSuspended

/-- An auto-poll fetch of the event ring (R166). -/
def State.pollEvent (s : State) (own next : Byte) : State :=
  match s.port.events with
  | [] => s
  | e :: _ =>
    if e.postable own next then s.beginPost e
    else State.setFlag
      { s with port := { s.port with event := { s.port.event with waitTicks := 0 } } } .eventStalled

/-- AUTO_POLL (R163): a waiting process whose interval has passed has fetched its position again. -/
def execAutoPoll (found : Polled) (s : State) : Host.Outcome State Fault Refusal :=
  .next (match found with
    | .request bytes =>
      if s.port.requestState = .suspended ∧ s.port.request.pollDue then s.pollRequest bytes else s
    | .event own next =>
      if s.port.eventState = .stalled ∧ s.port.event.pollDue then s.pollEvent own next else s)

/-! ### Link errors (R167) -/

/-- An access to host memory that a process has in progress, and that a link error can meet (log 14). -/
def State.accessing (s : State) : HostAccess → Bool
  | .requestFetch =>
    (s.port.requestState = .running && s.port.phase = .idle) ||
      (s.port.requestState = .suspended && s.port.request.pollDue)
  | .requestWriteback =>
    match s.port.phase with
    | .returning _ _ => true
    | .idle | .executing _ _ => false
  | .heldWriteback => !s.port.heldAnswers.isEmpty
  | .eventFetch =>
    !s.port.events.isEmpty &&
      ((s.port.eventState = .running && s.port.posting = none) ||
        (s.port.eventState = .stalled && s.port.event.pollDue))
  | .eventPost => s.port.posting.isSome

/-- Both processes enter FAULT, with PORT FAULT, and no access to host memory is left in progress; a CHARGE
that waited in BLOCKED stays unanswered (R164, R167). -/
def State.linkFault (s : State) : State :=
  State.setFlag
    { s with port := { s.port with
        requestState := .fault
        eventState := .fault
        phase := if s.port.requestState = .blocked then s.port.phase else .idle
        heldAnswers := []
        posting := none
        departed := false } } .portFault

/-- LINK_ERROR (R167). -/
def execLinkError (access : HostAccess) (s : State) : Host.Outcome State Fault Refusal :=
  .next (if s.accessing access then s.linkFault else s)

/-! ### The control register (R162, R166, R182) -/

/-- Whether a control word gives a process its start or its stop: the bit is set, the other of the two is not,
and the word performs no PORT RESET (R182). -/
def controls (control : Word) (bit other : Nat) : Bool :=
  control.getLsbD bit && !control.getLsbD other && !control.getLsbD 7

/-- REQUEST_START (R162): recorded in CONFIGURING; from STOPPED with the ring set the process is RUNNING. -/
def execRequestStart (control : Word) (s : State) : Host.Outcome State Fault Refusal :=
  .next (if controls control 0 1 ∧ s.port.requestState = .stopped then
      if s.peers.station = .configuring then
        { s with port := { s.port with request := { s.port.request with startRecorded := true } } }
      else if s.port.requestRing.size = 0 then s
      else { s with port := { s.port with requestState := .running } }
    else s)

/-- What a stop does to the request process in each state (R162). -/
def State.stopRequest (s : State) : State :=
  match s.port.requestState with
  | .running =>
    if s.port.phase = .idle then { s with port := { s.port with requestState := .stopped } }
    else { s with port := { s.port with request := { s.port.request with stopRecorded := true } } }
  | .suspended => { s with port := { s.port with requestState := .stopped } }
  | .blocked => { s with port := { s.port with request := { s.port.request with stopRecorded := true } } }
  | .stopped | .fault => s

/-- REQUEST_STOP (R162). -/
def execRequestStop (control : Word) (s : State) : Host.Outcome State Fault Refusal :=
  .next (if controls control 1 0 then s.stopRequest else s)

/-- EVENT_START (R166): as R162 gives for the request process. -/
def execEventStart (control : Word) (s : State) : Host.Outcome State Fault Refusal :=
  .next (if controls control 2 3 ∧ s.port.eventState = .stopped then
      if s.peers.station = .configuring then
        { s with port := { s.port with event := { s.port.event with startRecorded := true } } }
      else if s.port.eventRing.size = 0 then s
      else { s with port := { s.port with eventState := .running } }
    else s)

/-- What a stop does to the event process: a post in progress is finished first (R166). -/
def State.stopEvent (s : State) : State :=
  match s.port.eventState with
  | .running =>
    if s.port.posting.isNone then { s with port := { s.port with eventState := .stopped } }
    else { s with port := { s.port with event := { s.port.event with stopRecorded := true } } }
  | .stalled => { s with port := { s.port with eventState := .stopped } }
  | .stopped | .fault => s

/-- EVENT_STOP (R166). -/
def execEventStop (control : Word) (s : State) : Host.Outcome State Fault Refusal :=
  .next (if controls control 3 2 then s.stopEvent else s)

/-- A poll demand at the request process (R163). -/
def Port.pollRequestProcess (p : Port) : Port :=
  match p.requestState with
  | .suspended => { p with requestState := .running }
  | .running => { p with request := { p.request with poll := true } }
  | .stopped | .blocked | .fault => p

/-- A poll demand at the event process (R166). -/
def Port.pollEventProcess (p : Port) : Port :=
  match p.eventState with
  | .stalled => { p with eventState := .running }
  | .running => { p with event := { p.event with poll := true } }
  | .stopped | .fault => p

/-- Whether a control word sets both the start and the stop bit of a process, and so leaves that process as it was
(R182). -/
def leavesProcess (control : Word) (start : Nat) : Bool := control.getLsbD start && control.getLsbD (start + 1)

/-- POLL_DEMAND (R163, R166): it serves both processes, except one whose start and stop bits are set with it (R182). -/
def execPollDemand (control : Word) (s : State) : Host.Outcome State Fault Refusal :=
  .next (if control.getLsbD 4 && !control.getLsbD 7 then
      let p := if leavesProcess control 0 then s.port else s.port.pollRequestProcess
      { s with port := if leavesProcess control 2 then p else p.pollEventProcess }
    else s)

/-! ### PORT RESET (R169, R170) -/

/-- The port after PORT RESET: bases, sizes, mask and auto-poll interval are kept (R169). A request that has been
fetched and not yet executed is dropped, unanswered (DESIGN CHOICE, log 46). -/
def Port.afterReset (p : Port) : Port :=
  { requestRing := { p.requestRing with position := 0 }
    eventRing := { p.eventRing with position := 0 }
    autoPoll := p.autoPoll
    mask := p.mask
    messages := p.messages
    written := p.written }

/-- Whether a held entry is a CHARGE entry (R28). -/
def HeldEntry.isCharge (e : HeldEntry) : Bool :=
  match e.origin with
  | .charge _ => true
  | .restore _ => false

/-- The held CHARGE entries are discarded unanswered, which is a departure when there were any (R38). -/
def State.discardCharges (s : State) : State :=
  if s.quota.held.any (·.isCharge) then
    State.departure
      { s with quota := { s.quota with held := s.quota.held.filter fun e => !e.isCharge } }
  else s

/-- PORT RESET (R169). -/
def State.portReset (s : State) : State :=
  let discarded := s.discardCharges
  { discarded with port := discarded.port.afterReset }

/-- PORT_RESET (R169): taken in every state. -/
def execPortReset (control : Word) (s : State) : Host.Outcome State Fault Refusal :=
  .next (if control.getLsbD 7 then s.portReset else s)

/-! ### The other registers (R160, R163, R168, R182) -/

/-- A ring base with one half written, rounded down to the descriptor size; the position moves to 0 (R160). -/
def RingRegs.writeBase (r : RingRegs) (high : Bool) (value : Word) (align : Nat) : RingRegs :=
  let base : BitVec 64 :=
    if high then value ++ r.base.extractLsb' 0 32 else r.base.extractLsb' 32 32 ++ value
  { r with base := BitVec.ofNat 64 (base.toNat / align * align), position := 0 }

/-- The size that a written value is stored as (R160); 0 is stored as 0 (log 28). -/
def storedSize (value : Nat) : Nat := if value = 0 then 0 else min 4096 (max 16 value)

/-- A ring size written: a position that the new size does not reach takes an open place below it (R160,
log 8). -/
def RingRegs.writeSize (r : RingRegs) (value : Word) : RingRegs :=
  let size := storedSize value.toNat
  { r with
    size := size
    position := if size ≠ 0 ∧ size ≤ r.position then Config.resizedPosition r.position size % size
      else r.position }

/-- RING_BASE_WRITE (R160): taken only while the ring's process is STOPPED. -/
def execRingBaseWrite (ring : Ring) (high : Bool) (value : Word) (s : State) :
    Host.Outcome State Fault Refusal :=
  .next (match ring with
    | .request =>
      if s.port.requestState = .stopped then
        { s with port := { s.port with requestRing := s.port.requestRing.writeBase high value 64 } }
      else s
    | .event =>
      if s.port.eventState = .stopped then
        { s with port := { s.port with eventRing := s.port.eventRing.writeBase high value 32 } }
      else s)

/-- RING_SIZE_WRITE (R160): taken only while the ring's process is STOPPED. -/
def execRingSizeWrite (ring : Ring) (value : Word) (s : State) : Host.Outcome State Fault Refusal :=
  .next (match ring with
    | .request =>
      if s.port.requestState = .stopped then
        { s with port := { s.port with requestRing := s.port.requestRing.writeSize value } }
      else s
    | .event =>
      if s.port.eventState = .stopped then
        { s with port := { s.port with eventRing := s.port.eventRing.writeSize value } }
      else s)

/-- FLAGS_CLEAR (R168). -/
def execFlagsClear (value : Word) (s : State) : Host.Outcome State Fault Refusal :=
  .next { s with port := s.port.clearFlags value }

/-- MASK_WRITE (R168). -/
def execMaskWrite (value : Word) (s : State) : Host.Outcome State Fault Refusal :=
  .next { s with port := s.port.writeMask value }

/-- AUTO_POLL_INTERVAL_WRITE (R163, R182): byte 0 of the register. -/
def execAutoPollIntervalWrite (value : Word) (s : State) : Host.Outcome State Fault Refusal :=
  .next { s with port := { s.port with autoPoll := value.toNat % 256 } }

/-- OTHER_REGISTER_WRITE (R182): a narrower write, and a write to a register that takes none, is ignored. So is a
32-bit write that is not aligned (DESIGN CHOICE, log 47). -/
def execOtherRegisterWrite (_offset _width : Nat) (_value : Word) (s : State) :
    Host.Outcome State Fault Refusal := .next s

/-! ### Reading the window (R182) -/

/-- The status register: process states, station state and recorded starts (R182). -/
def State.statusWord (s : State) : Word :=
  BitVec.ofNat 32 (s.port.requestState.code + 256 * s.port.eventState.code +
    65536 * s.peers.station.code + 16777216 * (if s.port.request.startRecorded then 1 else 0) +
    33554432 * (if s.port.event.startRecorded then 1 else 0))

/-- The contents of the register at a 32-bit aligned offset, as they read (R182). -/
def State.windowRegister (s : State) (offset : Nat) : Word :=
  match offset with
  | 0x00 => s.port.requestRing.base.extractLsb' 0 32
  | 0x04 => s.port.requestRing.base.extractLsb' 32 32
  | 0x08 => BitVec.ofNat 32 s.port.requestRing.size
  | 0x0C => s.port.eventRing.base.extractLsb' 0 32
  | 0x10 => s.port.eventRing.base.extractLsb' 32 32
  | 0x14 => BitVec.ofNat 32 s.port.eventRing.size
  | 0x1C => s.statusWord
  | 0x20 => BitVec.ofNat 32 (s.port.requestRing.position + 65536 * s.port.eventRing.position)
  | 0x24 => s.port.flags.setWidth 32
  | 0x28 => s.port.mask.setWidth 32
  | 0x2C => BitVec.ofNat 32 s.port.autoPoll
  | _ => 0

/-- The byte of the window at an offset: registers hold their values least significant byte first (R176, R182). -/
def State.windowByte (s : State) (k : Nat) : Byte :=
  (s.windowRegister (k / 4 * 4)).extractLsb' (8 * (k % 4)) 8

/-- What a read of 1 to 4 bytes at an offset gives: the addressed bytes, lowest offset first, which for a 32-bit
aligned read are those of one register (R182). A 32-bit read that is not aligned gives the addressed bytes too (DESIGN
CHOICE, log 47). -/
def State.windowRead (s : State) (offset width : Nat) : List Byte :=
  (List.range width).map fun i => s.windowByte (offset + i)

end Sys2Proof.Machine
end

