-- ==== Sys2Proof/Machine/Restore.lean ====
section
/-! DEFINITION. Restore jobs, the read-slot arbiter's choices, and the return and timeout of permits
(chapter 7). -/

namespace Sys2Proof.Machine

/-! ### Starting and ending a job (R113 to R116) -/

/-- The lowest-numbered free slot of the restore table (R114). -/
def State.freeJobSlot (s : State) : Option Nat := (List.range 8).find? fun k => (s.job k).isNone

/-- RESTORE START (R113, R114), with the catalogue's answers of R102. -/
def State.startRestore (s : State) (tag volume generation principal : Nat) : Reply :=
  if !validId principal || 15 < volume then s.refuse .badRequest
  else match s.freeJobSlot with
    | none => s.refuse .busyJobs
    | some slot =>
      if (s.principal principal).isNone then s.refuse .unknownPrincipal
      else
        let x := s.volume volume
        match if x.declared then x.snapshot generation else none with
        | none => s.refuse .notFound
        | some r =>
          if r.retirePending then s.refuse .retiring
          else
            let started :=
              { (s.setVolume volume (x.hold generation)).setJob slot (some
                  { tag := tag, volume := volume, generation := generation, principal := principal }) with
                quota := s.quota.update principal fun p => { p with restoreJobs := p.restoreJobs + 1 } }
            ⟨started, .done, [u8 slot]⟩

/-- From SYNC-WAIT the job's RESTORE entry leaves the held list and its slot is freed, which is a departure
(R115 step 1, R30). -/
def State.dropHeldChunk (s : State) (slot : Nat) : State :=
  let left : State :=
    { s with quota := { s.quota with held := s.quota.held.filter fun e => e.origin ≠ .restore slot } }
  left.departure

/-- The steps of an accepted RESTORE END or RESTORE CANCEL (R115, R116). -/
def State.closeJob (s : State) (slot : Nat) (j : Job) (last : JobState) : State :=
  let before :=
    match j.state with
    | .syncWait => s.dropHeldChunk slot
    | .quotaWait => s.raise (.restoreState slot j.tag j.principal .quotaWait last j.charged j.moved)
    | .running | .finishing | .cancelling => s
  (before.setJob slot (some { j with state := last, deferred := false })).endJobIfDone slot

/-- RESTORE END (R115). -/
def State.finishRestore (s : State) (slot tag : Nat) : Reply :=
  if 7 < slot then s.refuse .badRequest
  else match s.job slot with
    | none => s.refuse .notFound
    | some j =>
      if j.tag ≠ tag then s.refuse .notFound
      else match j.state with
        | .finishing | .cancelling => s.refuse .busy
        | .running | .syncWait | .quotaWait =>
          ⟨(s.closeJob slot j .finishing).settlePrecedence, .done, []⟩

/-- RESTORE CANCEL (R116). -/
def State.cancelRestore (s : State) (slot tag : Nat) : Reply :=
  if 7 < slot then s.refuse .badRequest
  else match s.job slot with
    | none => s.refuse .notFound
    | some j =>
      if j.tag ≠ tag then s.refuse .notFound
      else match j.state with
        | .cancelling => s.refuse .busy
        | .running | .syncWait | .quotaWait | .finishing =>
          ⟨(s.closeJob slot j .cancelling).settlePrecedence, .done, []⟩

/-! ### Returning a permit (R124 to R126, R128) -/

/-- The part of a chunk that was charged and not moved is credited back (R125 step 1). -/
def State.creditBack (s : State) (principal chunk moved : Nat) : State :=
  if moved < chunk then s.credit principal (chunk - moved) .restore else s

/-- The job's totals after a return (R125 step 2). -/
def Job.returned (j : Job) (chunk moved : Nat) : Job :=
  { j with charged := j.charged - (chunk - moved), moved := j.moved + moved }

/-- Steps 1 and 2 of R125. -/
def State.settleChunk (s : State) (slot principal chunk moved : Nat) : State :=
  let credited := s.creditBack principal chunk moved
  match credited.job slot with
  | none => credited
  | some j => credited.setJob slot (some (j.returned chunk moved))

/-- A RESTORE permit has left the table: the job's outstanding permits fall by 1, and a FINISHING or
CANCELLING job with none left ends (R125 steps 3 and 4, R127 step 4). -/
def State.jobPermitGone (s : State) (slot : Nat) (f : Job → Job) : State :=
  match s.job slot with
  | none => s
  | some j => (s.setJob slot (some { f j with permits := j.permits - 1 })).endJobIfDone slot

/-- An outstanding permit is returned with a moved count of at most its chunk (R124, R125, R126). -/
def State.returnPermit (s : State) (p : Permit) (moved : Nat) : State :=
  let left : State :=
    { s with arbiter := { s.arbiter with permits := s.arbiter.permits.filter fun q => q.id ≠ p.id } }
  match p.owner with
  | .job slot principal => (left.settleChunk slot principal p.chunk moved).jobPermitGone slot id
  | .night volume _ => left.nightPermitGone volume moved

/-- A PERMIT DONE names an entry of the expired-id list, with a moved count of at most its chunk (R128). The LATE
answer raises no record of its own; the credit-back that it runs raises those of R10 and R118, as step 1 of R125
runs it (DEDUCED, log 45). -/
def State.lateAnswer (s : State) (e : ExpiredPermit) (moved : Nat) : State :=
  let left : State :=
    { s with arbiter := { s.arbiter with expired := s.arbiter.expired.filter fun q => q.id ≠ e.id } }
  match e.owner with
  | .job slot principal => left.settleChunk slot principal e.chunk moved
  | .formerJob principal => left.creditBack principal e.chunk moved
  | .night volume generation =>
    match (left.volume volume).night with
    | none => left
    | some n =>
      if n.generation = generation then
        left.setVolume volume { left.volume volume with
          night := some { n with remaining := n.remaining - moved } }
      else left

/-- PERMIT DONE (R124). -/
def State.permitDone (s : State) (permit moved : Nat) : Reply :=
  match s.arbiter.permits.find? fun p => p.id == permit with
  | some p =>
    ⟨(s.returnPermit p (min moved p.chunk)).settlePrecedence,
      if p.chunk < moved then .clamped else .done, []⟩
  | none =>
    match s.arbiter.expired.find? fun e => e.id == permit with
    | some e => ⟨(s.lateAnswer e (min moved e.chunk)).settlePrecedence, .late, []⟩
    | none => s.refuse .noPermit

/-! ### Permit timeout (R127, R128) -/

/-- The kind and owner under which an expired permit is listed (R127 step 2). -/
def PermitOwner.expired : PermitOwner → ExpiredOwner
  | .job slot principal => .job slot principal
  | .night volume generation => .night volume generation

/-- An entry joins the tail of the expired-id list; with 32 entries listed the head is dropped first (R128). -/
def Arbiter.listExpired (a : Arbiter) (e : ExpiredPermit) : Arbiter :=
  { a with expired := (if a.expired.length < 32 then a.expired else a.expired.drop 1) ++ [e] }

/-- A permit expires (R127). -/
def State.expirePermit (s : State) (p : Permit) : State :=
  let remaining : Arbiter := { s.arbiter with permits := s.arbiter.permits.filter fun q => q.id ≠ p.id }
  let left : State :=
    { s with arbiter := remaining.listExpired { id := p.id, owner := p.owner.expired, chunk := p.chunk } }
  let raised := left.raise (.permitExpired p.id p.chunk (s.subject p.owner))
  match p.owner with
  | .job slot _ => raised.jobPermitGone slot fun j => { j with expired := j.expired + 1 }
  | .night volume _ => raised.nightPermitGone volume 0

/-- PERMIT_TIMEOUT (R127): the outstanding permit whose age has reached the permit timeout. -/
def execPermitTimeout (permit : Nat) (s : State) : Host.Outcome State Fault Refusal :=
  .next (match s.arbiter.permits.find? fun p => p.id == permit with
    | none => s
    | some p => if s.config.permitTimeout * 1000 ≤ p.age then s.expirePermit p else s)

/-! ### The arbiter's choice (R120 to R122) -/

/-- The first of `n` places after a pointer, wrapping, that meets a condition (R121, R122). -/
def firstAfter (n pointer : Nat) (p : Nat → Bool) : Option Nat :=
  ((List.range n).map fun k => (pointer + 1 + k) % n).find? p

/-- A chunk that would be held with 32 entries in the held list is deferred (R41). -/
def State.deferChunk (s : State) (slot : Nat) (j : Job) : State :=
  s.setJob slot (some { j with deferred := true })

/-- A chunk is held: its RESTORE entry joins the list and the job enters SYNC-WAIT (R40). -/
def State.holdChunk (s : State) (slot : Nat) (j : Job) : State :=
  (s.joinHeld { origin := .restore slot, principal := j.principal, amount := s.config.chunk }).setJob slot
    (some { j with state := .syncWait })

/-- The chosen job's chunk is charged; whether it was granted or held, and the state (R120, R121). -/
def State.chargeChunk (s : State) (slot : Nat) (j : Job) : Bool × State :=
  match s.evaluateChunk j.principal s.config.chunk with
  | .granted => (true, s.grantChunk slot j s.config.chunk)
  | .held =>
    if s.quota.held.length < 32 then (true, s.holdChunk slot j) else (false, s.deferChunk slot j)
  | .unknown | .overQuota | .shareLimit => (false, s.refuseChunk slot j)

/-- A restore choice (R121). -/
def State.restoreChoice (s : State) : Bool × State :=
  match firstAfter 8 s.arbiter.restorePointer fun k => (s.job k).any (·.waiting) with
  | none => (false, s)
  | some slot =>
    match s.job slot with
    | none => (false, s)
    | some j => State.chargeChunk { s with arbiter := { s.arbiter with restorePointer := slot } } slot j

/-- A duplication choice (R122, R146, R149). -/
def State.duplicationChoice (s : State) : State :=
  match firstAfter 16 s.arbiter.volumePointer fun v => (s.volume v).duplicable with
  | none => s
  | some v =>
    match (s.volume v).night with
    | none => s
    | some n =>
      State.issuePermit
        { s.setVolume v { s.volume v with night := some { n with permits := n.permits + 1 } } with
          arbiter := { s.arbiter with volumePointer := v }
          dup := { s.dup with tokens := s.dup.tokens - s.config.chunk } } (.night v n.generation)

/-- Set the precedence count (R120). -/
def State.setPrecedence (s : State) (n : Nat) : State :=
  { s with arbiter := { s.arbiter with precedence := n } }

/-- One choice of the arbiter, by who waits and the precedence count (R120). -/
def State.arbitrate (s : State) : State :=
  if s.config.readSlots ≤ s.slotsInUse then s
  else match s.restoreWaiting, s.duplicationReady with
    | false, false => s
    | true, false => (s.setPrecedence 0).restoreChoice.2
    | false, true => (s.setPrecedence 0).duplicationChoice
    | true, true =>
      if s.arbiter.precedence < s.config.restoreWeight then
        let x := s.restoreChoice
        (if x.1 then x.2.setPrecedence (s.arbiter.precedence + 1) else x.2).settlePrecedence
      else (s.setPrecedence 0).duplicationChoice

/-- ARBITER_CHOICE (R120), whose grant of a chunk can insert a deadline entry (R155). -/
def execArbiterChoice (s : State) : Host.Outcome State Fault Refusal := .next (s.arbitrate.insertionTest s)

/-! ### Rows -/

/-- RESTORE_START (R113, R114). -/
def execRestoreStart (tag volume generation principal : Nat) (s : State) :
    Host.Outcome State Fault Refusal :=
  s.serve (.restoreStart tag volume generation principal) fun s =>
    s.startRestore tag volume generation principal

/-- RESTORE_END (R115). -/
def execRestoreEnd (slot tag : Nat) (s : State) : Host.Outcome State Fault Refusal :=
  s.serve (.restoreEnd slot tag) fun s => s.finishRestore slot tag

/-- RESTORE_CANCEL (R116). -/
def execRestoreCancel (slot tag : Nat) (s : State) : Host.Outcome State Fault Refusal :=
  s.serve (.restoreCancel slot tag) fun s => s.cancelRestore slot tag

/-- PERMIT_DONE (R124). -/
def execPermitDone (permit moved : Nat) (s : State) : Host.Outcome State Fault Refusal :=
  s.serve (.permitDone permit moved) fun s => s.permitDone permit moved

end Sys2Proof.Machine
end

