-- ==== Sys2Proof/Machine/StationBus.lean ====
section
/-! DEFINITION. The station bus controller (chapter 3): the transmitter, the backoff generator, the receiver,
the receive FIFO and own-number clash. -/

namespace Sys2Proof.Machine

/-- Change the transmitter. -/
def State.setTx (s : State) (tx : Transmitter) : State := { s with bus := { s.bus with tx := tx } }

/-- The transmitter drives the line (R53). -/
def TxState.driving : TxState → Bool
  | .sending | .jamming => true
  | .off | .idle | .deferring | .backoff | .holdoff | .silenced => false

/-- The transmitter enters DEFERRING; the interframe gap is counted from here when the line is quiet (R46). -/
def State.deferring (s : State) (tx : Transmitter) : State :=
  s.setTx { tx with state := .deferring, gapRunning := !s.bus.line.busy }

/-! ### Taking a frame (R45, R68, R86) -/

/-- The PRESENCE frame built at a take (R68). -/
def State.builtPresence (s : State) : Frame :=
  .presence s.straps.station s.config.extendedFormat s.clock.minute s.ownClaim

/-- TRANSMITTER_TAKE_FRAME (R45): in IDLE, a due PRESENCE before the notice unit's offer. -/
def execTransmitterTakeFrame (s : State) : Host.Outcome State Fault Refusal :=
  .next (match s.bus.tx.state with
    | .idle =>
      if s.peers.presenceDue then
        State.deferring { s with peers := { s.peers with presenceDue := false } }
          { s.bus.tx with frame := some s.builtPresence, attempt := 1 }
      else if s.notice.offers then
        State.deferring { s with notice := s.builtNotice }
          { s.bus.tx with frame := some (s.builtRecord.frame s.straps.station), attempt := 1 }
      else s
    | .off | .deferring | .sending | .jamming | .backoff | .holdoff | .silenced => s)

/-! ### Sending, collision and backoff (R46 to R51) -/

/-- INTERFRAME_GAP_COMPLETE (R46): the transmitter begins SENDING; the burst is the station's own (R53). -/
def execInterframeGapComplete (s : State) : Host.Outcome State Fault Refusal :=
  .next (match s.bus.tx.state, s.bus.tx.gapRunning with
    | .deferring, true =>
      { s with bus := { s.bus with
          tx := { s.bus.tx with
            state := .sending, gapRunning := false
            driven := (s.bus.tx.frame.map Frame.bytes).getD [] }
          line := { s.bus.line with echo := true } } }
    | _, _ => s)

/-- COLLISION (R48): the transmitter stops the frame and drives the jam. A disagreement is another station on the
line, so the line is busy from here until the burst's end is reported, also past the own jam (R43, R46, R53). At which
bit the frame was cut off is open and not kept (DESIGN CHOICE, log 16). -/
def execCollision (s : State) : Host.Outcome State Fault Refusal :=
  .next (match s.bus.tx.state with
    | .sending =>
      { s with bus := { s.bus with
          tx := { s.bus.tx with state := .jamming }
          line := { s.bus.line with busy := true } } }
    | .off | .idle | .deferring | .jamming | .backoff | .holdoff | .silenced => s)

/-- The backoff count drawn after failed attempt a: below 2^min(a, 10) (R49). The value is open (log 7). -/
def Generator.count (g : Generator) (attempt : Nat) : Nat :=
  Config.backoffDraw g.seed g.draws % 2 ^ min attempt 10

/-- The transmitter enters BACKOFF with a drawn count (R49). -/
def State.backOff (s : State) : State :=
  { s with bus := { s.bus with
      tx := { s.bus.tx with
        state := .backoff, backoffSlots := s.bus.generator.count s.bus.tx.attempt }
      generator := { s.bus.generator with draws := s.bus.generator.draws + 1 } } }

/-- What a BUS EXCESS COLLISION record says of a frame: a USAGE frame's format and entry count (R50). -/
def Frame.excess : Frame → Option (UsageFormat × Nat)
  | .usage _ format entries => some (format, entries.length)
  | .presence _ _ _ _ => none

/-- A frame given up by the transmitter: a USAGE frame is returned to the notice unit, a PRESENCE is discarded
(R50, R52). -/
def State.giveUp (s : State) : Option Frame → State
  | some (.usage _ _ _) => s.returnFrame
  | some (.presence _ _ _ _) => s
  | none => s

/-- The frame is abandoned after its 16th failed attempt (R50). The attempt count keeps its value while no frame is
held (DESIGN CHOICE, log 48). -/
def State.abandonFrame (s : State) (f : Frame) : State :=
  ((s.setTx { s.bus.tx with state := .holdoff, frame := none, holdoffTicks := 0 }).raise
    (.busExcessCollision f.excess)).giveUp (some f)

/-- JAM_END (R48): the attempt has failed; BACKOFF below attempt 16, abandonment at 16. -/
def execJamEnd (s : State) : Host.Outcome State Fault Refusal :=
  .next (match s.bus.tx.state, s.bus.tx.frame with
    | .jamming, some f => if s.bus.tx.attempt < 16 then s.backOff else s.abandonFrame f
    | _, _ => s)

/-- BACKOFF_END (R49): the attempt count rises and the transmitter returns to DEFERRING. -/
def execBackoffEnd (s : State) : Host.Outcome State Fault Refusal :=
  .next (match s.bus.tx.state with
    | .backoff => s.deferring { s.bus.tx with attempt := s.bus.tx.attempt + 1, backoffSlots := 0 }
    | .off | .idle | .deferring | .sending | .jamming | .holdoff | .silenced => s)

/-- HOLDOFF_END (R51): 10 ms of station ticks have passed. -/
def execHoldoffEnd (s : State) : Host.Outcome State Fault Refusal :=
  .next (match s.bus.tx.state with
    | .holdoff =>
      if 10 ≤ s.bus.tx.holdoffTicks then s.setTx { s.bus.tx with state := .idle, holdoffTicks := 0 } else s
    | .off | .idle | .deferring | .sending | .jamming | .backoff | .silenced => s)

/-- TRANSMIT_COMPLETION (R47): the frame is released; the completion of a USAGE frame is the sync (R31). The
attempt count keeps its value while no frame is held (DESIGN CHOICE, log 48). -/
def execTransmitCompletion (s : State) : Host.Outcome State Fault Refusal :=
  .next (match s.bus.tx.state, s.bus.tx.frame with
    | .sending, some (.usage _ _ _) => (s.setTx { s.bus.tx with state := .idle, frame := none }).sync
    | .sending, some (.presence _ _ _ _) => s.setTx { s.bus.tx with state := .idle, frame := none }
    | _, _ => s)

/-! ### Reception (R53 to R57, R60) -/

/-- The line goes from quiet to busy: a burst begins, and a gap count in progress is discarded (R46, R53). A
burst that begins while the receiver is OFF is ignored to its end (R44). -/
def State.lineBusy (s : State) : State :=
  { s with bus := { s.bus with
      line := { busy := true, echo := false, ignored := !s.bus.listening }
      tx := { s.bus.tx with gapRunning := false } } }

/-- LINE_BECOMES_BUSY (R46): while another burst or the own transmission is on the line, it is no step. -/
def execLineBecomesBusy (s : State) : Host.Outcome State Fault Refusal :=
  .next (if s.bus.line.busy || s.bus.tx.state.driving then s else s.lineBusy)

/-- The line falls quiet: a DEFERRING transmitter's gap is counted from here (R46). -/
def State.lineQuiet (s : State) : State :=
  { s with bus := { s.bus with
      line := {}
      tx := { s.bus.tx with gapRunning := s.bus.tx.state = .deferring } } }

/-- The station enters CLASH (R57, R73): STATION STATE, the presence schedule stops, the transmitter is
SILENCED and a frame it held is withdrawn (R52, R90). The attempt count keeps its value (DESIGN CHOICE, log 48). -/
def State.enterClash (s : State) : State :=
  let clashed := s.enterStation .clash
  let silenced : State :=
    { clashed with
      peers := { clashed.peers with presenceDue := false }
      bus := { clashed.bus with tx := { clashed.bus.tx with
        state := .silenced, frame := none, gapRunning := false, backoffSlots := 0, holdoffTicks := 0 } } }
  silenced.giveUp s.bus.tx.frame

/-- A valid frame: the clash test (R57), then the FIFO, which drops it when it holds 8 frames (R55), and the
note of its arrival (R60). -/
def State.receive (s : State) (f : Frame) : State :=
  if f.sender = s.straps.station then
    if s.peers.station.running then s.enterClash else s
  else if s.bus.fifo.length < 8 then
    State.noteArrival { s with bus := { s.bus with fifo := s.bus.fifo ++ [{ frame := f }] } } f.sender
  else s

/-- The end of a burst: the own echo and an ignored burst are discarded, any other is checked (R53, R54). -/
def State.burstEnded (s : State) (bytes : List Byte) : State :=
  let quiet := s.lineQuiet
  if s.bus.line.echo || s.bus.line.ignored || !s.bus.listening then quiet
  else match parseFrame bytes with
    | none => quiet
    | some f => quiet.receive f

/-- BURST_RECEIVED (R54): a burst ends. Where its beginning was not reported by LINE_BECOMES_BUSY it begins and
ends here (log 25); while the station itself drives the line no burst ends. -/
def execBurstReceived (bytes : List Byte) (s : State) : Host.Outcome State Fault Refusal :=
  .next (if s.bus.tx.state.driving then s
    else if s.bus.line.busy || s.bus.line.echo then s.burstEnded bytes
    else s.lineBusy.burstEnded bytes)

end Sys2Proof.Machine
end

