-- ==== Sys2Proof/Machine/Dispatch.lean ====
section
/-! DEFINITION. The meaning of every command: one arm for each row of spec/opcode_table.json. -/

namespace Sys2Proof.Machine

/-- The effect of a command on the part, the queue of waiting commands apart. -/
def exec (i : Instr) (s : State) : Host.Outcome State Fault Refusal :=
  match i with
  | .hardwareReset station wideAddress => Sys2Proof.Machine.execHardwareReset station wideAddress s
  | .configLoadBusHeld => Sys2Proof.Machine.execConfigLoadBusHeld s
  | .configLoadEnd read => Sys2Proof.Machine.execConfigLoadEnd read s
  | .offholdRise => Sys2Proof.Machine.execOffholdRise s
  | .offholdFall => Sys2Proof.Machine.execOffholdFall s
  | .stationTick => Sys2Proof.Machine.execStationTick s
  | .reload => Sys2Proof.Machine.execReload s
  | .deadlineExpiryRun => Sys2Proof.Machine.execDeadlineExpiryRun s
  | .holdTimeout place => Sys2Proof.Machine.execHoldTimeout place s
  | .peerLapse station => Sys2Proof.Machine.execPeerLapse station s
  | .isolation => Sys2Proof.Machine.execIsolation s
  | .learningTimeReached => Sys2Proof.Machine.execLearningTimeReached s
  | .presenceDue => Sys2Proof.Machine.execPresenceDue s
  | .refreshSweepStep => Sys2Proof.Machine.execRefreshSweepStep s
  | .evictionSweepStep => Sys2Proof.Machine.execEvictionSweepStep s
  | .permitTimeout permit => Sys2Proof.Machine.execPermitTimeout permit s
  | .holdoffEnd => Sys2Proof.Machine.execHoldoffEnd s
  | .backoffEnd => Sys2Proof.Machine.execBackoffEnd s
  | .interframeGapComplete => Sys2Proof.Machine.execInterframeGapComplete s
  | .collision => Sys2Proof.Machine.execCollision s
  | .jamEnd => Sys2Proof.Machine.execJamEnd s
  | .transmitCompletion => Sys2Proof.Machine.execTransmitCompletion s
  | .transmitterTakeFrame => Sys2Proof.Machine.execTransmitterTakeFrame s
  | .burstReceived bytes => Sys2Proof.Machine.execBurstReceived bytes s
  | .frameDelivery => Sys2Proof.Machine.execFrameDelivery s
  | .usageEntryUpdate => Sys2Proof.Machine.execUsageEntryUpdate s
  | .arbiterChoice => Sys2Proof.Machine.execArbiterChoice s
  | .blockedChargeReexecution => Sys2Proof.Machine.execBlockedChargeReexecution s
  | .requestDescriptorFetch bytes => Sys2Proof.Machine.execRequestDescriptorFetch bytes s
  | .requestWritebackDone held => Sys2Proof.Machine.execRequestWritebackDone held s
  | .eventDescriptorFetch own next => Sys2Proof.Machine.execEventDescriptorFetch own next s
  | .eventPostDone => Sys2Proof.Machine.execEventPostDone s
  | .linkError access => Sys2Proof.Machine.execLinkError access s
  | .autoPoll found => Sys2Proof.Machine.execAutoPoll found s
  | .requestStart control => Sys2Proof.Machine.execRequestStart control s
  | .requestStop control => Sys2Proof.Machine.execRequestStop control s
  | .eventStart control => Sys2Proof.Machine.execEventStart control s
  | .eventStop control => Sys2Proof.Machine.execEventStop control s
  | .pollDemand control => Sys2Proof.Machine.execPollDemand control s
  | .portReset control => Sys2Proof.Machine.execPortReset control s
  | .ringBaseWrite ring high value => Sys2Proof.Machine.execRingBaseWrite ring high value s
  | .ringSizeWrite ring value => Sys2Proof.Machine.execRingSizeWrite ring value s
  | .flagsClear value => Sys2Proof.Machine.execFlagsClear value s
  | .maskWrite value => Sys2Proof.Machine.execMaskWrite value s
  | .autoPollIntervalWrite value => Sys2Proof.Machine.execAutoPollIntervalWrite value s
  | .otherRegisterWrite offset width value => Sys2Proof.Machine.execOtherRegisterWrite offset width value s
  | .principalAdd id cls soft hard period initial => Sys2Proof.Machine.execPrincipalAdd id cls soft hard period initial s
  | .principalLimits id soft hard period => Sys2Proof.Machine.execPrincipalLimits id soft hard period s
  | .principalRemove id => Sys2Proof.Machine.execPrincipalRemove id s
  | .principalQuery id => Sys2Proof.Machine.execPrincipalQuery id s
  | .credit id amount => Sys2Proof.Machine.execCredit id amount s
  | .charge id amount => Sys2Proof.Machine.execCharge id amount s
  | .peerEvict station => Sys2Proof.Machine.execPeerEvict station s
  | .peerQuery station => Sys2Proof.Machine.execPeerQuery station s
  | .noticeQuery => Sys2Proof.Machine.execNoticeQuery s
  | .volumeDeclare volume enable => Sys2Proof.Machine.execVolumeDeclare volume enable s
  | .snapCreate volume generation => Sys2Proof.Machine.execSnapCreate volume generation s
  | .snapRetire volume generation => Sys2Proof.Machine.execSnapRetire volume generation s
  | .catalogueQuery volume start => Sys2Proof.Machine.execCatalogueQuery volume start s
  | .restoreStart tag volume generation principal => Sys2Proof.Machine.execRestoreStart tag volume generation principal s
  | .restoreEnd slot tag => Sys2Proof.Machine.execRestoreEnd slot tag s
  | .restoreCancel slot tag => Sys2Proof.Machine.execRestoreCancel slot tag s
  | .permitDone permit moved => Sys2Proof.Machine.execPermitDone permit moved s
  | .nightOpen volume generation backlog dawn => Sys2Proof.Machine.execNightOpen volume generation backlog dawn s
  | .nightResume volume dawn => Sys2Proof.Machine.execNightResume volume dawn s
  | .nightDone volume => Sys2Proof.Machine.execNightDone volume s
  | .nightAbandon volume => Sys2Proof.Machine.execNightAbandon volume s
  | .nightQuery volume => Sys2Proof.Machine.execNightQuery volume s
  | .clockSet minute => Sys2Proof.Machine.execClockSet minute s
  | .clockQuery => Sys2Proof.Machine.execClockQuery s
  | .configQuery => Sys2Proof.Machine.execConfigQuery s
  | .lineBecomesBusy => Sys2Proof.Machine.execLineBecomesBusy s

end Sys2Proof.Machine
end

