-- ==== Sys2Proof/WellFormed.lean ====
section
/-! DEFINITION. When a command is well formed: each operand fits the field, the strap, the pin or the
register that carries it. A value that fits and that its rule calls out of range is well formed; the
owning rule answers it BAD-REQUEST. -/

namespace Sys2Proof

/-- A descriptor operand of one byte (R177). -/
def fits8 (v : Nat) : Bool := v < 256
/-- A descriptor operand of two bytes (R177). -/
def fits16 (v : Nat) : Bool := v < 65536
/-- A descriptor operand of four bytes (R177). -/
def fits32 (v : Nat) : Bool := v < 4294967296

/-- Every operand of a request fits its descriptor field (R177). -/
def Request.wellFormed : Request → Bool
  | .principalAdd id cls soft hard period initial =>
    fits32 id && fits8 cls && fits32 soft && fits32 hard && fits16 period && fits32 initial
  | .principalLimits id soft hard period => fits32 id && fits32 soft && fits32 hard && fits16 period
  | .principalRemove id => fits32 id
  | .principalQuery id => fits32 id
  | .credit id amount => fits32 id && fits32 amount
  | .charge id amount => fits32 id && fits32 amount
  | .peerEvict station => fits8 station
  | .peerQuery station => fits8 station
  | .noticeQuery => true
  | .volumeDeclare volume enable => fits8 volume && fits8 enable
  | .snapCreate volume generation => fits8 volume && fits32 generation
  | .snapRetire volume generation => fits8 volume && fits32 generation
  | .catalogueQuery volume start => fits8 volume && fits32 start
  | .restoreStart tag volume generation principal =>
    fits32 tag && fits8 volume && fits32 generation && fits32 principal
  | .restoreEnd slot tag => fits8 slot && fits32 tag
  | .restoreCancel slot tag => fits8 slot && fits32 tag
  | .permitDone permit moved => fits8 permit && fits32 moved
  | .nightOpen volume generation backlog dawn =>
    fits8 volume && fits32 generation && fits32 backlog && fits32 dawn
  | .nightResume volume dawn => fits8 volume && fits32 dawn
  | .nightDone volume => fits8 volume
  | .nightAbandon volume => fits8 volume
  | .nightQuery volume => fits8 volume
  | .clockSet minute => fits32 minute
  | .clockQuery => true
  | .configQuery => true

/-- The request a request row executes, if the row is one (R179). -/
def Instr.request? : Instr → Option Request
  | .principalAdd id cls soft hard period initial => some (.principalAdd id cls soft hard period initial)
  | .principalLimits id soft hard period => some (.principalLimits id soft hard period)
  | .principalRemove id => some (.principalRemove id)
  | .principalQuery id => some (.principalQuery id)
  | .credit id amount => some (.credit id amount)
  | .charge id amount => some (.charge id amount)
  | .peerEvict station => some (.peerEvict station)
  | .peerQuery station => some (.peerQuery station)
  | .noticeQuery => some .noticeQuery
  | .volumeDeclare volume enable => some (.volumeDeclare volume enable)
  | .snapCreate volume generation => some (.snapCreate volume generation)
  | .snapRetire volume generation => some (.snapRetire volume generation)
  | .catalogueQuery volume start => some (.catalogueQuery volume start)
  | .restoreStart tag volume generation principal => some (.restoreStart tag volume generation principal)
  | .restoreEnd slot tag => some (.restoreEnd slot tag)
  | .restoreCancel slot tag => some (.restoreCancel slot tag)
  | .permitDone permit moved => some (.permitDone permit moved)
  | .nightOpen volume generation backlog dawn => some (.nightOpen volume generation backlog dawn)
  | .nightResume volume dawn => some (.nightResume volume dawn)
  | .nightDone volume => some (.nightDone volume)
  | .nightAbandon volume => some (.nightAbandon volume)
  | .nightQuery volume => some (.nightQuery volume)
  | .clockSet minute => some (.clockSet minute)
  | .clockQuery => some .clockQuery
  | .configQuery => some .configQuery
  | .hardwareReset _ _ | .configLoadBusHeld | .configLoadEnd _ | .offholdRise | .offholdFall
  | .stationTick | .reload | .deadlineExpiryRun | .holdTimeout _ | .peerLapse _ | .isolation
  | .learningTimeReached | .presenceDue | .refreshSweepStep | .evictionSweepStep | .permitTimeout _
  | .holdoffEnd | .backoffEnd | .interframeGapComplete | .collision | .jamEnd | .transmitCompletion
  | .transmitterTakeFrame | .burstReceived _ | .frameDelivery | .usageEntryUpdate | .arbiterChoice
  | .blockedChargeReexecution | .requestDescriptorFetch _ | .requestWritebackDone _
  | .eventDescriptorFetch _ _ | .eventPostDone | .linkError _ | .autoPoll _ | .requestStart _
  | .requestStop _ | .eventStart _ | .eventStop _ | .pollDemand _ | .portReset _
  | .ringBaseWrite _ _ _ | .ringSizeWrite _ _ | .flagsClear _ | .maskWrite _
  | .autoPollIntervalWrite _ | .otherRegisterWrite _ _ _ | .lineBecomesBusy => none

/-- The offsets of the window at which a full write is one of the other register commands (R182). -/
def writableOffsets : List Nat := [0x00, 0x04, 0x08, 0x0C, 0x10, 0x14, 0x18, 0x24, 0x28, 0x2C]

/-- A command is well formed when every operand is one that its carrier can carry. -/
def Instr.wellFormed : Instr → Bool
  | .hardwareReset station _ => station < 16
  | .configLoadEnd (.noAck place) => place < 4
  | .configLoadEnd (.image bytes) => bytes.length == 39
  | .holdTimeout place => place < 32
  | .peerLapse station => station < 16
  | .permitTimeout permit => fits8 permit
  | .requestDescriptorFetch bytes => bytes.length == 64
  | .autoPoll (.request bytes) => bytes.length == 64
  | .requestStart control => control.getLsbD 0
  | .requestStop control => control.getLsbD 1
  | .eventStart control => control.getLsbD 2
  | .eventStop control => control.getLsbD 3
  | .pollDemand control => control.getLsbD 4
  | .portReset control => control.getLsbD 7
  | .otherRegisterWrite offset width _ =>
    offset < 64 && (width < 4 || (width == 4 && !writableOffsets.contains offset))
  | i => (i.request?.map Request.wellFormed).getD true

end Sys2Proof
end

