-- ==== Sys2Proof/Safety.lean ====
section
/-! DEFINITION. The vocabulary of the claims: what a step leaves alone, what it answers, and the laws that the
manual says hold in every state of the part, each put so that a step can be shown to keep it. -/

namespace Sys2Proof.Machine

/-! ### What a step leaves alone -/

/-- The blocks of the part (00 1.2), and the queue of waiting commands. -/
inductive Block where
  | straps | pins | loader | clock | deadlines | quota | notice | bus | peers | volumes | jobs | arbiter | dup
  | port | pending
deriving DecidableEq, Repr

/-- A block reads the same in two states. -/
def Block.same (b : Block) (s t : State) : Prop :=
  match b with
  | .straps => t.straps = s.straps
  | .pins => t.pins = s.pins
  | .loader => t.loader = s.loader
  | .clock => t.clock = s.clock
  | .deadlines => t.deadlines = s.deadlines
  | .quota => t.quota = s.quota
  | .notice => t.notice = s.notice
  | .bus => t.bus = s.bus
  | .peers => t.peers = s.peers
  | .volumes => t.volumes = s.volumes
  | .jobs => t.jobs = s.jobs
  | .arbiter => t.arbiter = s.arbiter
  | .dup => t.dup = s.dup
  | .port => t.port = s.port
  | .pending => t.pending = s.pending

/-- Every block but those named is unchanged. -/
def Unchanged (changed : List Block) (s t : State) : Prop := ∀ b, b ∉ changed → b.same s t

/-- The port after records have been raised, in order (R165). -/
def Port.raises (p : Port) (l : List EventRecord) : Port := l.foldl Port.raise p

/-- The request process has fetched a request and executes it next (R163). -/
def State.serves (s : State) (address : Nat) (r : Request) : Prop :=
  s.port.requestState = .running ∧ s.port.phase = .executing address r

/-- The port raises records and returns an answer, and is otherwise unchanged (R161, R165). -/
def Answers (s t : State) (address : Nat) (code : ResultCode) (values : List Field)
    (records : List EventRecord) : Prop :=
  t.port = { s.port.raises records with phase := .returning address ⟨code, false, values⟩ }

/-- A request is refused: its result code, every value 0, and nothing else changed. -/
def Refuses (i : Instr) (s : State) (address : Nat) (code : ResultCode) : Prop :=
  exec i s = .next { s with port := { s.port with phase := .returning address ⟨code, false, []⟩ } }

/-- Every result value of a refused request is 0: it has none, and bytes 4 to 63 read 00h (R177). -/
def ResultCode.refusal : ResultCode → Bool
  | .done | .granted | .grantedSoft | .clamped | .late => false
  | _ => true

/-- How the host writes a request: its kind, and its operands in the order of the owning rule (R177, R179). -/
def requestParts : Request → Nat × List Field
  | .principalAdd id cls soft hard period initial =>
    (0x01, [u32 id, u8 cls, u32 soft, u32 hard, u16 period, u32 initial])
  | .principalLimits id soft hard period => (0x02, [u32 id, u32 soft, u32 hard, u16 period])
  | .principalRemove id => (0x03, [u32 id])
  | .principalQuery id => (0x04, [u32 id])
  | .credit id amount => (0x05, [u32 id, u32 amount])
  | .charge id amount => (0x06, [u32 id, u32 amount])
  | .peerEvict station => (0x07, [u8 station])
  | .peerQuery station => (0x08, [u8 station])
  | .noticeQuery => (0x09, [])
  | .volumeDeclare volume enable => (0x0A, [u8 volume, u8 enable])
  | .snapCreate volume generation => (0x0B, [u8 volume, u32 generation])
  | .snapRetire volume generation => (0x0C, [u8 volume, u32 generation])
  | .catalogueQuery volume start => (0x0D, [u8 volume, u32 start])
  | .restoreStart tag volume generation principal =>
    (0x0E, [u32 tag, u8 volume, u32 generation, u32 principal])
  | .restoreEnd slot tag => (0x0F, [u8 slot, u32 tag])
  | .restoreCancel slot tag => (0x10, [u8 slot, u32 tag])
  | .permitDone permit moved => (0x11, [u8 permit, u32 moved])
  | .nightOpen volume generation backlog dawn => (0x12, [u8 volume, u32 generation, u32 backlog, u32 dawn])
  | .nightResume volume dawn => (0x13, [u8 volume, u32 dawn])
  | .nightDone volume => (0x14, [u8 volume])
  | .nightAbandon volume => (0x15, [u8 volume])
  | .nightQuery volume => (0x16, [u8 volume])
  | .clockSet minute => (0x17, [u32 minute])
  | .clockQuery => (0x18, [])
  | .configQuery => (0x19, [])

/-- The PART-owned descriptor of a request: ownership 01h, kind, and operands from byte 4 (R177). -/
def requestDescriptor (r : Request) : List Byte :=
  padTo 64 ([0x01#8, BitVec.ofNat 8 (requestParts r).1, 0#8, 0#8] ++ packFields 4 (requestParts r).2)

/-- A frame that a station can build: sender 0 to 15, figures that fit their fields, and 1 to 8 or 30 entries
(R180). -/
def Frame.legal : Frame → Prop
  | .usage sender format entries =>
    sender ≤ 15 ∧ 1 ≤ entries.length ∧ entries.length ≤ format.limit ∧
      ∀ e ∈ entries, e.principal ≤ max32 ∧ e.value ≤ max32
  | .presence sender _ minute claim =>
    sender ≤ 15 ∧ minute ≤ max32 ∧
      match claim with
      | none => True
      | some c => c.backlog ≤ max32 ∧ c.seconds ≤ 65535

/-- The volumes whose night is in a state, in volume order, with the night (R145, R147). -/
def State.nightsIn (s : State) (state : NightState) : List (Nat × Night) :=
  (List.range 16).filterMap fun v =>
    match (s.volume v).night with
    | some n => if n.state = state then some (v, n) else none
    | none => none

/-- A volume whose night in one state takes another, and is otherwise unchanged. -/
def Volume.shifted (x : Volume) (old new : NightState) : Volume :=
  { x with night := x.night.map fun n => if n.state = old then { n with state := new } else n }

/-- The NIGHT STATE records of nights that take another state (R132, R145, R147), in volume order: R147's for HOLD,
and the model's choice for RELEASE (log 41). -/
def State.shiftRecords (s : State) (old new : NightState) (cause : NightCause) : List EventRecord :=
  (s.nightsIn old).map fun x =>
    .nightState x.1 x.2.generation (some old) (some new) x.2.remaining cause

/-- The RESTORE STATE records of a wake-up for a principal (R11, R112, R118), in slot order (the model's choice, log
41). -/
def State.wakeRecords (s : State) (id : Nat) : List EventRecord :=
  (List.range 8).filterMap fun k =>
    match s.job k with
    | none => none
    | some j =>
      if j.principal = id ∧ j.state = .quotaWait then
        some (.restoreState k j.tag j.principal .quotaWait .running j.charged j.moved)
      else none

/-- A job after a wake-up for a principal (R11, R118). -/
def Job.wokenFor (id : Nat) (j : Job) : Job :=
  if j.principal = id ∧ j.state = .quotaWait then { j with state := .running } else j

/-- The QUOTA STATE record of a re-derivation, if the state of a LIMITED principal changed (R10). -/
def quotaRecords (p q : Principal) (cause : QuotaCause) : List EventRecord :=
  if p.cls = .limited ∧ p.quotaState ≠ q.quotaState then
    [.quotaState p.id p.quotaState q.quotaState q.campus cause]
  else []

/-- A place after a pointer, wrapping, is the first of `n` to meet a condition (R121, R122, R123). -/
def FirstFrom (n start place : Nat) (p : Nat → Prop) : Prop :=
  ∃ k < n, place = (start + k) % n ∧ p place ∧ ∀ i < k, ¬ p ((start + i) % n)

/-! ### Ends that several commands can reach -/

/-- A principal after an expiry run up to a minute: a grace due by then has EXPIRED, and grace maintenance has
seen it so (R9, R157). -/
def Principal.expiredAt (p : Principal) (minute : Nat) : Principal :=
  match p.grace with
  | .running due =>
    if due ≤ minute then { p with grace := ({ p with grace := .expired } : Principal).graceAfter minute } else p
  | .absent | .expired => p

/-- A volume after an expiry run up to a minute: a night SENDING or PAUSED whose dawn has come is SUSPENDED
(R135, R157). -/
def Volume.dawnedAt (x : Volume) (minute : Nat) : Volume :=
  { x with night := x.night.map fun n =>
      match n.state with
      | .sending | .paused => if n.dawn ≤ minute then { n with state := .suspended } else n
      | .suspended | .finishing | .abandoning => n }

/-- The records that the expiry of one entry raises (R9, R10, R135). -/
def State.expiryRecords (s : State) (minute : Nat) (d : Deadline) : List EventRecord :=
  match d.object with
  | .grace id =>
    match s.principal id with
    | none => []
    | some p =>
      let q := p.expiredAt minute
      if p.cls = .limited ∧ p.quotaState ≠ q.quotaState then
        [.quotaState id p.quotaState q.quotaState q.campus .grace]
      else []
  | .dawn v =>
    match (s.volume v).night with
    | none => []
    | some n => [.nightState v n.generation (some n.state) (some .suspended) n.remaining .dawn]

/-- The entries due by a minute have expired: they have left the list, their owners have acted, and nothing
else of the quota unit or of the catalogue has changed (R157). -/
def ExpiresDue (s t : State) (minute : Nat) : Prop :=
  t.deadlines = (s.deadlines.filter fun d => minute < d.due) ∧
  (∀ id, t.principal id = (s.principal id).map fun p => p.expiredAt minute) ∧
  (∀ v < 16, t.volume v = (s.volume v).dawnedAt minute) ∧
  t.quota.contributions = s.quota.contributions ∧ t.quota.held = s.quota.held

/-- The records of an expiry run, in list order (R157). -/
def State.runRecords (s : State) (minute : Nat) : List EventRecord :=
  (s.deadlines.filter fun d => d.due ≤ minute).flatMap (s.expiryRecords minute)

/-- A restore job ends (R117): its hold is released, its principal counts one job less, its expired permits lose
their owner, its slot is free, and RESTORE DONE is raised, with SNAP RETIRED after it when the release removed
the snapshot. -/
def JobEnds (s t : State) (slot : Nat) (j : Job) : Prop :=
  t.job slot = none ∧ (∀ k, k ≠ slot → t.job k = s.job k) ∧
  t.volume j.volume = (s.volume j.volume).release j.generation ∧
  (∀ v, v ≠ j.volume → t.volume v = s.volume v) ∧
  t.quota = s.quota.update j.principal (fun p => { p with restoreJobs := p.restoreJobs - 1 }) ∧
  t.arbiter = { s.arbiter with expired := s.arbiter.expired.map fun e => e.disowned slot } ∧
  t.port = s.port.raises
    (.restoreDone slot j.tag j.volume j.generation j.principal j.charged j.moved j.expired
        (j.state = .cancelling) ::
      ((s.volume j.volume).retiredByRelease j.generation).toList.map fun r =>
        .snapRetired j.volume r.generation r.created r.status) ∧
  Unchanged [.jobs, .volumes, .quota, .arbiter, .port] s t

/-- A night ends (R104, R139): its snapshot becomes OFFSITE and the base, or LOCAL, its hold count falls, the
night is IDLE, and NIGHT STATE is raised with cause END. -/
def NightEnds (s t : State) (v : Nat) (n : Night) : Prop :=
  let x := s.volume v
  t.volume v =
    { x with
      snapshots := x.snapshots.map fun r =>
        if r.generation = n.generation then
          { r with status := if n.state = .finishing then .offsite else .localOnly, holds := r.holds - 1 }
        else r
      base := if n.state = .finishing then some n.generation else x.base
      night := none } ∧
  (∀ w, w ≠ v → t.volume w = s.volume w) ∧
  t.port = s.port.raises [.nightState v n.generation (some n.state) none n.remaining .ended] ∧
  Unchanged [.volumes, .port] s t

/-- A job state in which the job ends with its last permit (R117). -/
def JobState.closing : JobState → Bool
  | .finishing | .cancelling => true
  | .running | .syncWait | .quotaWait => false

/-- A night state in which the night ends with its last permit (R139). -/
def NightState.closing : NightState → Bool
  | .finishing | .abandoning => true
  | .sending | .paused | .suspended => false

/-- The notice unit after its frame has come back, abandoned or withdrawn (R89 steps 1 to 5, R90), step 4 in entry
order (the model's choice, log 41). -/
def State.returnedNotice (s : State) (f : FrameRecord) : Notice :=
  let away := f.entries.filter fun e => !s.notice.queued e.principal
  let back : Notice :=
    { s.notice with
      urgent := (away.filter fun e => e.urgent).map (·.principal) ++ s.notice.urgent
      normal := (away.filter fun e => !e.urgent).map (·.principal) ++ s.notice.normal
      frame := none }
  f.entries.foldl
    (fun n e => if n.normal.contains e.principal && s.heldUnfrozen e.principal then n.queueUrgent e.principal
      else n) back

/-! ### Held entries at sync (R31, R33, R42) -/

/-- What an evaluation decides when the share test is left out (R33). -/
def Verdict.shareFree : Verdict → Verdict
  | .unknown => .unknown
  | .overQuota => .overQuota
  | .shareLimit | .granted | .held => .granted

/-- The evaluation of a held entry at sync: the first for its principal without the share test, a later one in
full (R33). A RESTORE entry is evaluated for its job's principal (R39). -/
def HeldEntry.verdict (e : HeldEntry) (first : Bool) (s : State) : Verdict :=
  let full := match e.origin with
    | .charge _ => s.evaluate e.principal e.amount
    | .restore slot => match s.job slot with
      | some j => s.evaluateChunk j.principal e.amount
      | none => .unknown
  if first then full.shareFree else full

/-- The result code of an evaluation that refuses (R22, R25). -/
def Verdict.code : Verdict → ResultCode
  | .unknown => .unknownPrincipal
  | .overQuota => .overQuota
  | .shareLimit => .shareLimit
  | .granted => .granted
  | .held => .busySync

/-- A held CHARGE is granted or refused at sync and answered to its descriptor (R33, R26, R27). A grant that
inserted a deadline entry is followed by the expiry test (R157). -/
def ChargeResolves (s u : State) (e : HeldEntry) (address : Nat) (verdict : Verdict) : Prop :=
  let g := s.grant e.principal e.amount .charge
  (verdict = .granted → u = State.insertionTest
    { g with port := { g.port with heldAnswers := g.port.heldAnswers ++
        [⟨address, ⟨g.grantCode e.principal, true, []⟩⟩] } } s) ∧
  (verdict ≠ .granted → u =
    { s with port := { s.port with heldAnswers := s.port.heldAnswers ++
        [⟨address, ⟨verdict.code, true, []⟩⟩] } })

/-- A held restore chunk is granted at sync, with the permit on the slot set aside, or refused (R42, R40, R123). A
grant that inserted a deadline entry is followed by the expiry test (R157). -/
def ChunkResolves (s u : State) (e : HeldEntry) (slot : Nat) (j : Job) (verdict : Verdict) : Prop :=
  let g := s.grant j.principal e.amount .restore
  let id := s.arbiter.chooseId
  (verdict = .granted → u = State.insertionTest
    { g.setJob slot (some
        { j with state := .running, charged := j.charged + e.amount, permits := j.permits + 1 }) with
      arbiter := { s.arbiter with
        permits := s.arbiter.permits ++
          [{ id := id, owner := .job slot j.principal, chunk := s.config.chunk, age := 0 }]
        nextId := (id + 1) % 256 }
      port := g.port.raises
        [.permitIssued id s.config.chunk (.restore slot j.tag j.volume j.generation)] } s) ∧
  (verdict ≠ .granted → u =
    { s.setJob slot (some { j with state := .quotaWait }) with
      port := s.port.raises
        [.restoreState slot j.tag j.principal j.state .quotaWait j.charged j.moved] })

/-- A held entry leaves the list at sync, granted or refused. An entry of a job that does not exist, which no run
reaches, leaves nothing behind (log 36). -/
def EntryResolves (s u : State) (e : HeldEntry) (verdict : Verdict) : Prop :=
  match e.origin with
  | .charge address => ChargeResolves s u e address verdict
  | .restore slot =>
    match s.job slot with
    | some j => ChunkResolves s u e slot j verdict
    | none => u = s

/-- An entry has left the held list: the departure clears every deferred marker and reaches a BLOCKED process (R30,
R118), which remembers it (log 17). -/
def Departed (u v : State) : Prop :=
  (∀ k < 8, v.job k = (u.job k).map fun j => { j with deferred := false }) ∧
  v.port = { u.port with departed := u.port.departed || u.port.requestState = .blocked } ∧
  Unchanged [.jobs, .port] u v

/-- The held entries of one carried principal are resolved in list order (R33): from a list and a state to the
entries that stay and the state after. Entries of other principals and frozen entries are passed over and do not
count as first; an entry that would be held again stays with its age and queues its principal URGENT; any other
leaves. -/
inductive SyncResolves (id : Nat) : Bool → List HeldEntry → State → List HeldEntry → State → Prop where
  | done (first : Bool) (s : State) : SyncResolves id first [] s [] s
  | passed {first : Bool} {e : HeldEntry} {rest kept : List HeldEntry} {s t : State} :
    (e.principal ≠ id ∨ s.frozen e = true) → SyncResolves id first rest s kept t →
      SyncResolves id first (e :: rest) s (e :: kept) t
  | stays {first : Bool} {e : HeldEntry} {rest kept : List HeldEntry} {s t : State} :
    e.principal = id → s.frozen e = false → e.verdict first s = .held →
      SyncResolves id false rest { s with notice := s.notice.queueUrgent id } kept t →
      SyncResolves id first (e :: rest) s (e :: kept) t
  | leaves {first : Bool} {e : HeldEntry} {rest kept : List HeldEntry} {s u v t : State} :
    e.principal = id → s.frozen e = false → e.verdict first s ≠ .held →
      EntryResolves s u e (e.verdict first s) → Departed u v → SyncResolves id false rest v kept t →
      SyncResolves id first (e :: rest) s kept t

/-- The held entries of every carried principal are resolved, in the frame's entry order (R31 step 3). -/
inductive FrameResolves : List NoticeEntry → State → State → Prop where
  | done (s : State) : FrameResolves [] s s
  | next {x : NoticeEntry} {rest : List NoticeEntry} {s u t : State} {kept : List HeldEntry} :
    SyncResolves x.principal true s.quota.held s kept u →
      FrameResolves rest { u with quota := { u.quota with held := kept } } t →
      FrameResolves (x :: rest) s t

/-! ### Laws -/

/-- No collection holds more than its capacity (R28, R55, R99, R128, R165), and a frame has at most 16 attempts
(R50). -/
def Capacities (s : State) : Prop :=
  s.port.events.length ≤ 128 ∧ s.quota.held.length ≤ 32 ∧ s.bus.fifo.length ≤ 8 ∧
  s.arbiter.expired.length ≤ 32 ∧ (∀ v < 16, (s.volume v).snapshots.length ≤ 64) ∧
  s.bus.tx.attempt ≤ 16 ∧ (s.bus.tx.state = .backoff → s.bus.tx.attempt < 16)

/-- Every field of the effective configuration is in its range (R173). -/
def legalConfig (c : Config) : Prop :=
  (1 ≤ c.stationCount ∧ c.stationCount ≤ 16) ∧ (100 ≤ c.presenceInterval ∧ c.presenceInterval ≤ 10000) ∧
  (2 ≤ c.lapseCount ∧ c.lapseCount ≤ 8) ∧ (1000 ≤ c.isolationTime ∧ c.isolationTime ≤ 80000) ∧
  c.lapseTime ≤ c.isolationTime ∧ c.learningTime ≤ 65535 ∧ (1 ≤ c.refreshRate ∧ c.refreshRate ≤ 4096) ∧
  (1 ≤ c.reportStep ∧ c.reportStep ≤ 1048575) ∧ (1 ≤ c.minimumShare ∧ c.minimumShare ≤ 65535) ∧
  (2 ≤ c.holdTimeout ∧ c.holdTimeout ≤ 1000) ∧ (1 ≤ c.readSlots ∧ c.readSlots ≤ 32) ∧
  (16 ≤ c.chunk ∧ c.chunk ≤ 4096) ∧ (1 ≤ c.restoreWeight ∧ c.restoreWeight ≤ 8) ∧ c.restoreAllowance ≤ 500 ∧
  (1 ≤ c.linkCapacity ∧ c.linkCapacity ≤ 65535) ∧ c.minimumRate ≤ c.linkCapacity ∧
  (1 ≤ c.permitTimeout ∧ c.permitTimeout ≤ 3600) ∧ c.skewTolerance ≤ 60

/-- The loader's record is in range, with at most 19 fields clamped, and none with the defaults (R173). -/
def LoaderLaw (s : State) : Prop :=
  legalConfig s.config ∧ s.loader.clamped ≤ 19 ∧
  (s.loader.source = .defaults → s.config = {} ∧ s.loader.clamped = 0)

/-- The principal table is one record per slot and per id, in slot order (R1), and the contribution map is one
entry per pair, each above zero, from another station, about a principal of the table; every remote sum is the
sum of its entries (R4). -/
def QuotaTables (s : State) : Prop :=
  s.quota.principals.Pairwise (fun p q => p.slot < q.slot) ∧
  (∀ p ∈ s.quota.principals, p.slot ≤ 65535) ∧
  (s.quota.principals.map (·.id)).Nodup ∧
  s.quota.contributions.Pairwise (fun a b =>
    a.principal < b.principal ∨ (a.principal = b.principal ∧ a.station < b.station)) ∧
  (∀ c ∈ s.quota.contributions,
    0 < c.value ∧ c.station ≠ s.straps.station ∧ (s.principal c.principal).isSome = true) ∧
  ∀ p ∈ s.quota.principals,
    p.remote = ((s.quota.contributions.filter fun c => c.principal == p.id).map (·.value)).sum

/-- The operands of a request that is being executed fit their descriptor fields (R177). -/
def State.fetchedFits (s : State) : Prop :=
  match s.port.phase with
  | .executing _ r => r.wellFormed = true
  | .idle | .returning _ _ => True

/-- The values that the frame being sent carries are local usages (R84). -/
def State.frameFits (s : State) : Prop :=
  match s.notice.frame with
  | none => True
  | some f => ∀ e ∈ f.entries, e.value ≤ max32

/-- Every principal record's fields are in the ranges of R2. -/
def PrincipalRanges (s : State) : Prop :=
  s.fetchedFits ∧ s.frameFits ∧
  ∀ p ∈ s.quota.principals,
    (1 ≤ p.id ∧ p.id ≤ max32) ∧ (1 ≤ p.hard ∧ p.hard ≤ max32) ∧ p.soft ≤ p.hard ∧ p.period ≤ 65535 ∧
    p.lc ≤ max32 ∧ p.la ≤ max32

/-- Each principal appears in the notice queue at most once, and only principals of the table do (R81); the
frame record names each of its principals once and holds 1 to 8 or 30 of them (R84). -/
def NoticeQueueLaw (s : State) : Prop :=
  (s.notice.urgent ++ s.notice.normal).Nodup ∧
  (∀ id ∈ s.notice.urgent ++ s.notice.normal, (s.principal id).isSome = true) ∧
  match s.notice.frame with
  | none => True
  | some f =>
    (f.entries.map (·.principal)).Nodup ∧ 1 ≤ f.entries.length ∧ f.entries.length ≤ f.format.limit ∧
    ∀ e ∈ f.entries, (s.principal e.principal).isSome = true

/-- A transmitter state in which a frame is held (the table of transmitter states, chapter 3). -/
def TxState.holdsFrame : TxState → Bool
  | .deferring | .sending | .jamming | .backoff => true
  | .off | .idle | .holdoff | .silenced => false

/-- The transmitter holds a frame in exactly the states that chapter 3 says, and the frame record is present
exactly while that frame is this station's USAGE frame, with the same format and entries (R84). -/
def TransmitterLaw (s : State) : Prop :=
  (s.peers.station = .configuring → s.bus.tx.state = .off) ∧
  s.bus.tx.frame.isSome = s.bus.tx.state.holdsFrame ∧
  match s.bus.tx.frame, s.notice.frame with
  | some (.usage sender format entries), some f =>
    Frame.usage sender format entries = f.frame s.straps.station
  | some (.usage _ _ _), none => False
  | some (.presence sender _ _ _), none => sender = s.straps.station
  | some (.presence _ _ _ _), some _ => False
  | none, o => o = none

/-- Every principal with a held entry that is not frozen stands in URGENT or is carried by the frame being sent
(R28, R38). -/
def HeldLaw (s : State) : Prop :=
  ∀ e ∈ s.quota.held, s.frozen e = false → e.principal ∈ s.notice.urgent ∨ s.inFrame e.principal = true

/-- The due minute of a principal's running grace (R8). -/
def Principal.graceDue (p : Principal) : Option Nat :=
  match p.grace with
  | .running deadline => some deadline
  | .absent | .expired => none

/-- The due minute of a volume whose night is SENDING or PAUSED (R154). -/
def Volume.dawnDue (x : Volume) : Option Nat :=
  match x.night with
  | none => none
  | some n =>
    match n.state with
    | .sending | .paused => some n.dawn
    | .suspended | .finishing | .abandoning => none

/-- The due minute that a deadline's object asks for. -/
def State.dueOf (s : State) : DeadlineObject → Option Nat
  | .grace id => (s.principal id).bind (·.graceDue)
  | .dawn v => (s.volume v).dawnDue

/-- The deadline list is in order of due minute with one entry for each object (R154, R155), and it holds an
entry for exactly the running graces and the nights SENDING or PAUSED, at the due minute each gives (R154). -/
def DeadlineLaw (s : State) : Prop :=
  s.deadlines.Pairwise (fun a b => a.due ≤ b.due) ∧
  (s.deadlines.map (·.object)).Nodup ∧
  (s.quota.principals.map (·.id)).Nodup ∧
  (∀ d ∈ s.deadlines, s.dueOf d.object = some d.due) ∧
  (∀ p ∈ s.quota.principals, (p.graceDue.all fun m => s.deadlines.contains ⟨.grace p.id, m⟩) = true) ∧
  ∀ v < 16, ((s.volume v).dawnDue.all fun m => s.deadlines.contains ⟨.dawn v, m⟩) = true

/-- The occupied restore slots that name a snapshot (R101). -/
def State.jobsOn (s : State) (v generation : Nat) : Nat :=
  (List.range 8).countP fun k => (s.job k).any fun j => j.volume == v && j.generation == generation

/-- Whether a volume's night names a generation. -/
def Volume.nightNames (x : Volume) (generation : Nat) : Bool := x.night.any fun n => n.generation == generation

/-- The laws of one volume of the catalogue: order and base (R99), hold counts and RETIRE-PENDING (R101), the
SENDING snapshot (R103), and an undeclared volume (R96). -/
def State.catalogueLaw (s : State) (v : Nat) : Prop :=
  let x := s.volume v
  x.snapshots.Pairwise (fun a b => a.generation < b.generation) ∧
  (x.base.all fun g => x.snapshots.any fun r => r.generation == g && r.status == .offsite && !r.retirePending) ∧
  (∀ r ∈ x.snapshots,
    r.holds = s.jobsOn v r.generation + (if x.nightNames r.generation then 1 else 0) ∧
    (r.status = .sending ↔ x.nightNames r.generation = true) ∧
    (r.status = .offsite → (x.base.any fun g => r.generation ≤ g) = true) ∧
    (r.retirePending = true → 0 < r.holds ∧ r.status ≠ .sending)) ∧
  (x.night.all fun n => (x.snapshot n.generation).isSome && x.base.all fun g => g < n.generation) ∧
  (x.declared = false → x.snapshots = [] ∧ x.base = none ∧ x.night = none)

/-- The catalogue's laws in every volume, and every restore job's snapshot is listed (R102). -/
def CatalogueLaw (s : State) : Prop :=
  (∀ v < 16, s.catalogueLaw v) ∧
  ∀ k < 8, ((s.job k).all fun j => j.volume < 16 && ((s.volume j.volume).snapshot j.generation).isSome) = true

/-- Before the configuration load has ended no request, frame, hold, job, permit, night or token exists, and
both processes are STOPPED (R44, R69, R162, R174). -/
def ConfiguringIdle (s : State) : Prop :=
  s.peers.station = .configuring →
    s.port.requestState = .stopped ∧ s.port.eventState = .stopped ∧ s.port.phase = .idle ∧
    s.port.heldAnswers = [] ∧ s.port.posting = none ∧ s.quota = {} ∧
    s.deadlines = [] ∧ s.notice = {} ∧ s.bus.tx.state = .off ∧ s.bus.tx.frame = none ∧
    s.bus.listening = false ∧ s.bus.fifo = [] ∧ s.bus.delivery = none ∧
    s.peers.eviction = none ∧ (∀ v < 16, s.volume v = {}) ∧ (∀ k < 8, s.job k = none) ∧
    s.arbiter = {} ∧ s.dup.tokens = 0 ∧ s.dup.rate = 0

/-- The outstanding permits of a job (R123). -/
def State.jobPermits (s : State) (k : Nat) : List Permit :=
  s.arbiter.permits.filter fun p => match p.owner with
    | .job slot _ => slot == k
    | .night _ _ => false

/-- The outstanding permits of a volume's night (R123). -/
def State.nightPermits (s : State) (v : Nat) : List Permit :=
  s.arbiter.permits.filter fun p => match p.owner with
    | .job _ _ => false
    | .night volume _ => volume == v

/-- The held RESTORE entries of a job (R28). -/
def State.jobHeld (s : State) (k : Nat) : List HeldEntry :=
  s.quota.held.filter fun e => e.origin == .restore k

/-- The expired-id entries that a job still owns (R128). -/
def State.jobExpired (s : State) (k : Nat) : List ExpiredPermit :=
  s.arbiter.expired.filter fun e => match e.owner with
    | .job slot _ => slot == k
    | .formerJob _ | .night _ _ => false

/-- Everything that names an owner names an occupied slot or an open night (R119, R123, R128). -/
def State.ownersStand (s : State) : Prop :=
  (∀ p ∈ s.arbiter.permits,
    match p.owner with
    | .job slot principal => ((s.job slot).any fun j => j.principal == principal) = true
    | .night volume generation => ((s.volume volume).night.any fun n => n.generation == generation) = true) ∧
  (∀ e ∈ s.quota.held,
    match e.origin with
    | .restore slot =>
      e.amount = s.config.chunk ∧
        ((s.job slot).any fun j => j.state == .syncWait && j.principal == e.principal) = true
    | .charge _ => True) ∧
  ∀ e ∈ s.arbiter.expired,
    match e.owner with
    | .job slot principal => ((s.job slot).any fun j => j.principal == principal) = true
    | .formerJob _ | .night _ _ => True

/-- The laws of one restore slot: its permits and held entry (R111, R112, R119), and its charged total against
what it has moved and what is outstanding or expired (R125). -/
def State.jobLaw (s : State) (k : Nat) : Prop :=
  match s.job k with
  | none => True
  | some j =>
    j.permits = (s.jobPermits k).length ∧
    (s.jobHeld k).length = (if j.state = .syncWait then 1 else 0) ∧
    j.permits + (s.jobHeld k).length ≤ 4 ∧
    j.moved + ((s.jobPermits k).map (·.chunk)).sum + ((s.jobExpired k).map (·.chunk)).sum ≤ j.charged ∧
    (s.principal j.principal).isSome = true

/-- The read slots are not overdrawn (R119), an id names one permit (R123), owners stand, every job and night
counts its permits (R111, R131), and every principal counts its jobs (R2). -/
def ReadSlotLaw (s : State) : Prop :=
  ConfiguringIdle s ∧ legalConfig s.config ∧
  s.slotsInUse ≤ s.config.readSlots ∧ s.arbiter.expired.length ≤ 32 ∧
  (s.arbiter.permits.map (·.id) ++ s.arbiter.expired.map (·.id)).Nodup ∧
  (∀ p ∈ s.arbiter.permits, p.id < 256) ∧ s.arbiter.nextId < 256 ∧
  (s.quota.principals.map (·.id)).Nodup ∧ s.ownersStand ∧
  (∀ k < 8, s.jobLaw k) ∧
  (∀ v < 16, ((s.volume v).night.all fun n => n.permits == (s.nightPermits v).length) = true) ∧
  ∀ p ∈ s.quota.principals,
    p.restoreJobs = (List.range 8).countP fun k => (s.job k).any fun j => j.principal == p.id

/-- The tokens never exceed the current rate plus one chunk, and are zero while the hold line is honoured and
asserted, once the load has ended (R146, R174). -/
def TokenLaw (s : State) : Prop :=
  ConfiguringIdle s ∧ s.dup.tokens ≤ s.dup.rate + s.config.chunk ∧ (s.holdInForce = true → s.dup.tokens = 0)

/-- The precedence count is at most the restore weight, and it is 0 unless both sides wait (R120). -/
def PrecedenceLaw (s : State) : Prop :=
  s.arbiter.precedence ≤ s.config.restoreWeight ∧
  (s.arbiter.precedence ≠ 0 → s.restoreWaiting = true ∧ s.duplicationReady = true)

/-- A ring register is legal: its base is aligned, its size is 0 or 16 to 4,096, and its position lies below a
size that is not 0 (R160). -/
def RingRegs.legal (r : RingRegs) (align : Nat) : Prop :=
  r.base.toNat % align = 0 ∧ (r.size = 0 ∨ (16 ≤ r.size ∧ r.size ≤ 4096)) ∧ (r.size ≠ 0 → r.position < r.size)

/-- Both rings are legal, no process that has a descriptor to deal with has an unset ring (R160), and a post is in
progress only while the event process is RUNNING (R166). -/
def RingLaw (s : State) : Prop :=
  s.port.requestRing.legal 64 ∧ s.port.eventRing.legal 32 ∧
  (s.port.requestState ≠ .stopped → s.port.requestState ≠ .fault → s.port.requestRing.size ≠ 0) ∧
  (s.port.eventState ≠ .stopped → s.port.eventState ≠ .fault → s.port.eventRing.size ≠ 0) ∧
  (s.port.posting.isSome = true → s.port.eventState = .running)

/-- The counts of the station clock are in their ranges (R152); a CLOCK SET being executed carries a minute that
fits its operand (R158). -/
def ClockLaw (s : State) : Prop :=
  s.fetchedFits ∧ s.clock.millis ≤ 999 ∧ s.clock.seconds ≤ 59 ∧ s.clock.minute ≤ max32

end Sys2Proof.Machine
end

