-- ==== Sys2Proof/Certificates/Slice0/Obligations.lean ====
section
/-! DEFINITION. The statements for the provers. Each docstring names the rules of spec/ it formalises. -/

open Sys2Proof Sys2Proof.Machine

/-! ### The machine as a whole -/

/-- A step is the command at the front of the queue, run with the queue's rest; with none waiting the part idles
(the model's choice, log 1). -/
def Obligations.StepTakesFrontCommand : Prop :=
  (∀ (s : State) (i : Instr) (rest : List Instr), s.pending = i :: rest →
    step s = exec i { s with pending := rest }) ∧
  ∀ s : State, s.pending = [] → step s = .next s

/-- Every command answers a next state and leaves the queue of waiting commands alone (95: each step is whole, and
the spec names no fault of the part); a request row that the request process has not fetched is no step of the part
(the model's choice, log 2). -/
def Obligations.EveryCommandAnswersAndKeepsTheQueue : Prop :=
  (∀ (i : Instr) (s : State), ∃ t, exec i s = .next t ∧ t.pending = s.pending) ∧
  ∀ (i : Instr) (r : Request) (s : State), i.request? = some r → s.takes r = false → exec i s = .next s

/-! ### Resets and the configuration load -/

/-- HARDWARE RESET (R171, R49, and the reset values of R2, R4, R28, R44, R58, R69, R74, R81, R84, R93, R96, R111,
R130, R151, R152, R154, R170, R173). That the pins and the waiting commands stand through it, and how the generator
is seeded, are the model's choices (log 32, log 7), and so is the value of the stopped presence count (log 52). -/
def Obligations.HardwareResetReturnsEveryBlock : Prop :=
  ∀ (station : Nat) (wide : Bool) (s : State), ∃ t, exec (.hardwareReset station wide) s = .next t ∧
    t.straps = ⟨station, wide⟩ ∧ t.bus.generator = ⟨station, 0⟩ ∧
    t.loader.config = {} ∧ t.loader.clamped = 0 ∧
    t.clock.millis = 0 ∧ t.clock.seconds = 0 ∧ t.clock.minute = 0 ∧ t.deadlines = [] ∧
    t.quota.principals = [] ∧ t.quota.contributions = [] ∧ t.quota.held = [] ∧
    t.notice.urgent = [] ∧ t.notice.normal = [] ∧ t.notice.frame = none ∧
    t.notice.refreshPointer = 0 ∧ t.notice.sweepCredit = 0 ∧
    t.bus.tx.state = .off ∧ t.bus.tx.frame = none ∧ t.bus.tx.attempt = 0 ∧ t.bus.listening = false ∧
    t.bus.fifo = [] ∧ t.bus.delivery = none ∧
    (∀ k < 16, t.peer k = { state := .absent, capability := none, age := none, claim := none, skew := false }) ∧
    t.peers.station = .configuring ∧ t.peers.format = .base ∧ t.peers.learningCount = 0 ∧
    t.peers.presenceCount = 0 ∧ t.peers.presenceDue = false ∧ t.peers.eviction = none ∧
    (∀ v < 16, t.volume v = { declared := false, offsite := false, snapshots := [], base := none, night := none }) ∧
    (∀ k < 8, t.job k = none) ∧
    t.arbiter = { permits := [], expired := [], precedence := 0, restorePointer := 7, volumePointer := 15,
                  nextId := 0 } ∧
    t.dup = { tokens := 0, rate := 0, lastW := 0, lastSelf := 0 } ∧
    t.port.requestState = .stopped ∧ t.port.eventState = .stopped ∧
    t.port.requestRing = { base := 0, size := 0, position := 0 } ∧
    t.port.eventRing = { base := 0, size := 0, position := 0 } ∧
    t.port.request.poll = false ∧ t.port.request.startRecorded = false ∧ t.port.event.poll = false ∧
    t.port.event.startRecorded = false ∧ t.port.autoPoll = 0 ∧ t.port.events = [] ∧
    t.port.flags = 0x00#6 ∧ t.port.mask = 0x3F#6 ∧
    t.pins = s.pins ∧ t.bus.line.busy = s.bus.line.busy ∧ t.pending = s.pending

/-- The end of the configuration load, from the memory or with SCL held (R174, R70, R44, R162, R172). That the record
keeps what the loader did on its lines is the model's choice (log 16); how far it had come when SCL was held is open
(log 34), and how a learning time of 0 is passed is the model's reading (log 24). -/
def Obligations.ConfigurationLoadEnds : Prop :=
  ∀ (s : State) (i : Instr) (l : Loader), s.peers.station = .configuring →
    ((∃ read, i = .configLoadEnd read ∧
        l = { loadOutcome read with driven := loadDriven s.straps.wideAddress read }) ∨
      (i = .configLoadBusHeld ∧
        l = { config := {}, source := .defaults, reason := .busHeld, clamped := 0
              driven := loadHeld s.straps.wideAddress (Config.stepsBeforeHold s.clock.elapsed) })) →
    ∃ t, exec i s = .next t ∧
      t.loader = l ∧
      t.peers = { s.peers with
        station := if l.config.learningTime = 0 then .joined else .learning
        format := t.commonFormat, learningCount := 0, silenceAge := 0, presenceCount := 0, presenceDue := true } ∧
      t.notice = { s.notice with refreshPointer := 0, sweepCredit := 0 } ∧
      t.bus = { s.bus with
        tx := { s.bus.tx with state := .idle }, listening := true
        line := { s.bus.line with ignored := s.bus.line.busy } } ∧
      t.port = { s.port.raises ([.configLoaded l.source l.reason l.clamped s.straps.station,
          .stationState .configuring .learning] ++
          if l.config.learningTime = 0 then [.stationState .learning .joined] else []) with
        requestState :=
          if s.port.requestState = .stopped ∧ s.port.request.startRecorded = true ∧ s.port.requestRing.size ≠ 0
          then .running else s.port.requestState
        eventState :=
          if s.port.eventState = .stopped ∧ s.port.event.startRecorded = true ∧ s.port.eventRing.size ≠ 0
          then .running else s.port.eventState
        request := { s.port.request with startRecorded := false }
        event := { s.port.event with startRecorded := false } } ∧
      Unchanged [.loader, .peers, .notice, .bus, .port] s t

/-- The load's transfer with the width of address that EEAW gives, and where a failure stops it (R172); what the load
makes of the memory (R172); and the clamping of an image (R173), whose fields stand at the offsets of R181: every
field comes into its range, the nearer end standing for a value outside it, a two-valued field that is neither of its
encodings takes its default, the isolation time is raised to the lapse time, and the clamped count is that of the
fields changed. The steps by which the transfer is told are the model's (log 34). -/
def Obligations.ImageIsTestedAndClamped : Prop :=
  loadTransfer false = [.start, .deviceForWriting 0x50, .memoryAddress 0x00#8, .repeatedStart,
    .deviceForReading 0x50] ++ List.replicate 38 .readAcknowledged ++ [.readLast] ∧
  loadTransfer true = [.start, .deviceForWriting 0x50, .memoryAddress 0x00#8, .memoryAddress 0x00#8, .repeatedStart,
    .deviceForReading 0x50] ++ List.replicate 38 .readAcknowledged ++ [.readLast] ∧
  (∀ wide : Bool,
    let last := if wide = true then 3 else 2
    (∀ place < last, loadDriven wide (.noAck place) = (loadTransfer wide).take (place + 2) ++ [.release]) ∧
    loadDriven wide (.noAck last) = (loadTransfer wide).take (last + 3) ++ [.release] ∧
    (∀ bytes, loadDriven wide (.image bytes) = loadTransfer wide ++
      if (loadOutcome (.image bytes)).source = .image then [] else [.release]) ∧
    ∀ point, loadHeld wide point = (loadTransfer wide).take point ++ [.release]) ∧
  (∀ place, loadOutcome (.noAck place) =
    { config := {}, source := .defaults, reason := .noAck, clamped := 0 }) ∧
  (∀ bytes : List Byte, bytes.length = 39 →
    (bytes.take 4 ≠ [0x5A#8, 0x16#8, 0x00#8, 0x27#8] →
      loadOutcome (.image bytes) = { config := {}, source := .defaults, reason := .badHeader, clamped := 0 }) ∧
    (bytes.take 4 = [0x5A#8, 0x16#8, 0x00#8, 0x27#8] →
      bytes.drop 37 ≠ bigEndian 2 (crc16 (bytes.take 37)).toNat →
      loadOutcome (.image bytes) = { config := {}, source := .defaults, reason := .badCheck, clamped := 0 }) ∧
    (bytes.take 4 = [0x5A#8, 0x16#8, 0x00#8, 0x27#8] →
      bytes.drop 37 = bigEndian 2 (crc16 (bytes.take 37)).toNat →
      loadOutcome (.image bytes) =
        { config := (clampImage bytes).1, source := .image, reason := .none, clamped := (clampImage bytes).2 })) ∧
  (∀ image : List Byte, legalConfig (clampImage image).1 ∧ (clampImage image).2 ≤ 19) ∧
  (∀ low high v : Nat, low ≤ high →
    (v < low → clampField low high v = (low, 1)) ∧ (high < v → clampField low high v = (high, 1)) ∧
    (low ≤ v → v ≤ high → clampField low high v = (v, 0))) ∧
  ∀ image : List Byte, image.length = 39 →
    let read (offset width : Nat) : Nat :=
      ((image.drop offset).take width).foldl (fun n b => 256 * n + b.toNat) 0
    let within (low high v : Nat) : Nat := max low (min high v)
    let c := (clampImage image).1
    c.stationCount = within 1 16 (read 4 1) ∧ c.presenceInterval = within 100 10000 (read 5 2) ∧
    c.lapseCount = within 2 8 (read 7 1) ∧
    c.isolationTime = max (c.lapseCount * c.presenceInterval) (within 1000 60000 (read 8 2)) ∧
    c.learningTime = read 10 2 ∧ c.refreshRate = within 1 4096 (read 12 2) ∧
    c.reportStep = within 1 1048575 (read 14 4) ∧ c.minimumShare = within 1 65535 (read 18 2) ∧
    c.readSlots = within 1 32 (read 20 1) ∧ c.chunk = within 16 4096 (read 21 2) ∧
    c.restoreWeight = within 1 8 (read 23 1) ∧ c.restoreAllowance = within 0 500 (read 24 2) ∧
    c.linkCapacity = within 1 65535 (read 26 2) ∧ c.minimumRate = min c.linkCapacity (read 28 2) ∧
    c.permitTimeout = within 1 3600 (read 30 2) ∧
    c.extendedFormat = decide (read 32 1 ≠ 0) ∧ c.holdHonoured = decide (read 33 1 ≠ 0) ∧
    c.skewTolerance = within 0 60 (read 34 1) ∧ c.holdTimeout = within 2 1000 (read 35 2) ∧
    (clampImage image).2 =
      ([decide (c.stationCount ≠ read 4 1), decide (c.presenceInterval ≠ read 5 2),
        decide (c.lapseCount ≠ read 7 1),
        decide (read 8 2 < 1000 ∨ 60000 < read 8 2 ∨ read 8 2 < c.lapseCount * c.presenceInterval),
        decide (c.refreshRate ≠ read 12 2), decide (c.reportStep ≠ read 14 4),
        decide (c.minimumShare ≠ read 18 2), decide (c.readSlots ≠ read 20 1), decide (c.chunk ≠ read 21 2),
        decide (c.restoreWeight ≠ read 23 1), decide (c.restoreAllowance ≠ read 24 2),
        decide (c.linkCapacity ≠ read 26 2), decide (c.minimumRate ≠ read 28 2),
        decide (c.permitTimeout ≠ read 30 2), decide (1 < read 32 1), decide (1 < read 33 1),
        decide (c.skewTolerance ≠ read 34 1), decide (c.holdTimeout ≠ read 35 2)]).count true

/-! ### Pins, the tick and what it counts -/

/-- The OFFHOLD line rises and falls (R147, R148). -/
def Obligations.OffholdRiseAndFall : Prop :=
  (∀ s : State, s.pins.offhold = false → ∃ t, exec .offholdRise s = .next t ∧ t.pins.offhold = true ∧
    (s.config.holdHonoured = true → s.peers.station ≠ .configuring →
      t.dup = { s.dup with tokens := 0 } ∧
      (∀ v < 16, t.volume v = (s.volume v).shifted .sending .paused) ∧
      t.port = s.port.raises (s.shiftRecords .sending .paused .hold) ∧
      t.arbiter = { s.arbiter with precedence := t.arbiter.precedence } ∧
      (0 < s.config.chunk → t.arbiter.precedence = 0) ∧
      Unchanged [.pins, .dup, .volumes, .port, .arbiter] s t) ∧
    ((s.config.holdHonoured = false ∨ s.peers.station = .configuring) → Unchanged [.pins] s t)) ∧
  ∀ s : State, ∃ t, exec .offholdFall s = .next t ∧ t.pins.offhold = false ∧ Unchanged [.pins] s t

/-- One 1 ms station tick: the clock (R152) and every age and count kept in ticks (R34, R38, R51, R60, R63, R67,
R71, R72, R75, R93, R127, R163). The counts of reloads and sweep steps that the tick makes due are the model's
(log 17). -/
def Obligations.TickCountsInEveryBlock : Prop :=
  ∀ s : State, ∃ t, exec .stationTick s = .next t ∧
    (s.clock.millis < 999 → t.clock = { s.clock with millis := s.clock.millis + 1 }) ∧
    (s.clock.millis = 999 → s.clock.seconds < 59 → t.clock = { s.clock with
      millis := 0, seconds := s.clock.seconds + 1, reloadsDue := s.clock.reloadsDue + 1 }) ∧
    (s.clock.millis = 999 → s.clock.seconds = 59 → t.clock = { s.clock with
      millis := 0, seconds := 0, minute := min max32 (s.clock.minute + 1),
      reloadsDue := s.clock.reloadsDue + 1 }) ∧
    t.quota = { s.quota with held := (s.quota.held.map fun e =>
      if s.frozen e = true then e else { e with age := e.age + 1 }) } ∧
    t.notice = { s.notice with sweepCredit :=
      s.notice.sweepCredit + (if s.peers.station.running = true then s.config.refreshRate else 0) } ∧
    t.bus.tx = { s.bus.tx with
      holdoffTicks := s.bus.tx.holdoffTicks + (if s.bus.tx.state = .holdoff then 1 else 0) } ∧
    t.bus = { s.bus with tx := t.bus.tx, fifo := s.bus.fifo.map fun f => { f with age := min max32 (f.age + 1) } } ∧
    (∀ k < 16, t.peer k =
      if s.peers.station = .configuring ∨ (s.peer k).state = .absent then s.peer k
      else { s.peer k with age := (s.peer k).age.map fun a => min max32 (a + 1) }) ∧
    t.peers.learningCount = s.peers.learningCount + (if s.peers.station = .learning then 1 else 0) ∧
    t.peers.silenceAge =
      (if s.peers.station.running = true then min max32 (s.peers.silenceAge + 1) else s.peers.silenceAge) ∧
    t.peers.presenceCount = s.peers.presenceCount + (if s.peers.station.running = true then 1 else 0) ∧
    t.peers.presenceDue = s.peers.presenceDue ∧ t.peers.station = s.peers.station ∧
    t.peers.format = s.peers.format ∧
    t.peers.eviction = s.peers.eviction.map (fun e => { e with owed := e.owed + 16 }) ∧
    t.arbiter = { s.arbiter with permits := s.arbiter.permits.map fun p => { p with age := p.age + 1 } } ∧
    t.port = { s.port with
      request := { s.port.request with
        waitTicks := s.port.request.waitTicks + (if s.port.requestState = .suspended then 1 else 0) }
      event := { s.port.event with
        waitTicks := s.port.event.waitTicks + (if s.port.eventState = .stalled then 1 else 0) } } ∧
    Unchanged [.clock, .quota, .notice, .bus, .peers, .arbiter, .port] s t

/-- One reload: the release of PAUSED nights, the weights, the rate and the refill (R143, R144, R145, R146, R148).
The count of reloads due, which makes one due and which one takes 1 from, is the model's (log 17), and so is the order
of the RELEASE records (log 41). -/
def Obligations.ReloadComputesRateAndTokens : Prop :=
  ∀ s : State, s.clock.reloadsDue ≠ 0 → ∃ t, exec .reload s = .next t ∧
    t.clock = { s.clock with reloadsDue := s.clock.reloadsDue - 1 } ∧
    (s.holdInForce = true → t.volumes = s.volumes ∧ t.port = s.port) ∧
    (s.holdInForce = false →
      (∀ v < 16, t.volume v = (s.volume v).shifted .paused .sending) ∧
      t.port = s.port.raises (s.shiftRecords .paused .sending .release)) ∧
    t.dup.lastSelf = t.selfWeight ∧ t.dup.lastW = t.weightSum ∧
    t.dup.rate =
      (if s.holdInForce = true then 0
      else if t.nightsIn .sending = [] then 0
      else max (if t.weightSum = 0 then 0 else s.config.linkCapacity * t.selfWeight / t.weightSum)
        (min s.config.minimumRate s.config.linkCapacity)) ∧
    t.dup.rate ≤ s.config.linkCapacity ∧
    t.dup.tokens =
      (if s.holdInForce = true then 0
      else min (s.dup.tokens + t.dup.rate) (t.dup.rate + s.config.chunk)) ∧
    t.arbiter = { s.arbiter with precedence := t.arbiter.precedence } ∧
    (t.arbiter.precedence = s.arbiter.precedence ∨ t.arbiter.precedence = 0) ∧
    Unchanged [.clock, .volumes, .port, .dup, .arbiter] s t

/-- The own claim (R141), whose claiming volumes are those SENDING, PAUSED or FINISHING; the weight of a claim, the own
weight and the sum of weights (R143), in which the claims of LIVE peers that are present and not paused count
(R142). -/
def Obligations.OwnClaimOfTheClaimingNights : Prop :=
  (∀ s : State,
    let nights := (List.range 16).filterMap fun v => (s.volume v).night.filter fun n =>
      n.state = .sending ∨ n.state = .paused ∨ n.state = .finishing
    (nights = [] → s.ownClaim = none) ∧
    (nights ≠ [] → ∃ c, s.ownClaim = some c ∧
      c.backlog = min max32 (nights.map (·.remaining)).sum ∧
      c.seconds ≤ 65535 ∧
      (∀ n ∈ nights, c.seconds ≤ n.dawn * 60 - (s.clock.minute * 60 + s.clock.seconds)) ∧
      (c.seconds = 65535 ∨ ∃ n ∈ nights, c.seconds = n.dawn * 60 - (s.clock.minute * 60 + s.clock.seconds)) ∧
      c.paused = s.holdInForce)) ∧
  (∀ c : Claim,
    c.backlog ≤ c.weight * max 1 c.seconds ∧ c.weight * max 1 c.seconds < c.backlog + max 1 c.seconds) ∧
  ∀ s : State,
    (s.ownClaim = none → s.selfWeight = 0) ∧ (∀ c, s.ownClaim = some c → s.selfWeight = c.weight) ∧
    s.weightSum = s.selfWeight + ((List.range 16).map fun k =>
      match (s.peer k).claim with
      | some c => if (s.peer k).state = .live ∧ c.paused = false then c.weight else 0
      | none => 0).sum

/-- The expiry run (R157, R9, R135), CLOCK SET with the run it makes (R158), and the test at the end of an operation
that inserted an entry (R155, R157). Entries that were already due when a CLOCK SET is taken expire as well, at the
old minute (the model's choice, log 20), and a reload that was still due stays due (its choice too, log 49). -/
def Obligations.ExpiryRunAndClockSet : Prop :=
  (∀ s : State, DeadlineLaw s → ∃ t, exec .deadlineExpiryRun s = .next t ∧
    ExpiresDue s t s.clock.minute ∧ t.port = s.port.raises (s.runRecords s.clock.minute) ∧
    t.arbiter = { s.arbiter with precedence := t.arbiter.precedence } ∧
    Unchanged [.deadlines, .quota, .volumes, .port, .arbiter] s t) ∧
  (∀ (s : State) (a minute : Nat), DeadlineLaw s → s.serves a (.clockSet minute) →
    ∃ t, exec (.clockSet minute) s = .next t ∧
      t.clock = { s.clock with minute := minute, seconds := 0, millis := 0 } ∧
      ExpiresDue s t (max s.clock.minute minute) ∧
      Answers s t a .done [] (s.runRecords (max s.clock.minute minute)) ∧
      t.arbiter = { s.arbiter with precedence := t.arbiter.precedence } ∧
      Unchanged [.clock, .deadlines, .quota, .volumes, .port, .arbiter] s t) ∧
  ∀ before s : State,
    ((∀ d ∈ s.deadlines, d ∈ before.deadlines) → s.insertionTest before = s) ∧
    ((∃ d ∈ s.deadlines, d ∉ before.deadlines) → DeadlineLaw s →
      let t := s.insertionTest before
      ExpiresDue s t s.clock.minute ∧ t.port = s.port.raises (s.runRecords s.clock.minute) ∧
      t.arbiter = { s.arbiter with precedence := t.arbiter.precedence } ∧
      (t.arbiter.precedence = s.arbiter.precedence ∨ t.arbiter.precedence = 0) ∧
      Unchanged [.deadlines, .quota, .volumes, .port, .arbiter] s t)

/-- A held entry whose age has reached the hold timeout expires: a CHARGE is answered BUSY-SYNC, a RESTORE
entry's job returns to RUNNING, and the departure clears every deferred marker and reaches a BLOCKED process
(R34, R42, R30); a frozen entry does not expire (R38). That the BLOCKED process remembers the departure until it acts
on it is the model's (log 17), and that a command for an entry below the timeout is no step is its choice (log
2). -/
def Obligations.HoldTimeoutExpiresEntry : Prop :=
  ∀ (s : State) (place : Nat) (e : HeldEntry), s.quota.held[place]? = some e →
    ((s.frozen e = true ∨ e.age < s.config.holdTimeout) → exec (.holdTimeout place) s = .next s) ∧
    (s.frozen e = false → s.config.holdTimeout ≤ e.age →
      (∀ address, e.origin = .charge address → ∃ t, exec (.holdTimeout place) s = .next t ∧
        t.quota = { s.quota with held := s.quota.held.eraseIdx place } ∧
        t.port = { s.port with
          heldAnswers := s.port.heldAnswers ++ [⟨address, ⟨.busySync, true, []⟩⟩]
          departed := s.port.departed || s.port.requestState = .blocked } ∧
        (∀ k < 8, t.job k = (s.job k).map fun j => { j with deferred := false }) ∧
        Unchanged [.quota, .port, .jobs] s t) ∧
      ∀ slot j, e.origin = .restore slot → s.job slot = some j → ∃ t, exec (.holdTimeout place) s = .next t ∧
        t.quota = { s.quota with held := s.quota.held.eraseIdx place } ∧
        t.port = { s.port with departed := s.port.departed || s.port.requestState = .blocked } ∧
        (∀ k < 8, t.job k = (s.job k).map fun j =>
          { j with deferred := false, state := if k = slot then .running else j.state }) ∧
        Unchanged [.quota, .port, .jobs] s t)

/-- The peer table's timers: lapse (R64), isolation (R72), the learning time (R71) and the presence interval
(R67). -/
def Obligations.PeerAndStationTimers : Prop :=
  (∀ (s : State) (k age : Nat), (s.peer k).state = .live → (s.peer k).age = some age →
    s.config.lapseTime ≤ age → ∃ t, exec (.peerLapse k) s = .next t ∧
      t.peers = { s.peers.setPeer k { s.peer k with state := .lapsed, claim := none } with
        format := t.commonFormat } ∧
      t.port = s.port.raises [.peerState k .live .lapsed] ∧ Unchanged [.peers, .port] s t) ∧
  (∀ s : State, s.peers.station = .joined → 1 < s.config.stationCount →
    s.config.isolationTime ≤ s.peers.silenceAge → ∃ t, exec .isolation s = .next t ∧
      t.peers = { s.peers with station := .isolated } ∧
      t.port = s.port.raises [.stationState .joined .isolated] ∧ Unchanged [.peers, .port] s t) ∧
  (∀ s : State, s.peers.station = .learning → s.config.learningTime * 1000 ≤ s.peers.learningCount →
    ∃ t, exec .learningTimeReached s = .next t ∧
      t.peers = { s.peers with station := .joined, silenceAge := 0 } ∧
      t.port = s.port.raises [.stationState .learning .joined] ∧ Unchanged [.peers, .port] s t) ∧
  ∀ s : State, s.peers.station.running = true → s.config.presenceInterval ≤ s.peers.presenceCount →
    ∃ t, exec .presenceDue s = .next t ∧
      t.peers = { s.peers with presenceCount := 0, presenceDue := true } ∧ Unchanged [.peers] s t

/-- Queueing a principal, by where it stands (R82). -/
def Obligations.QueueingByWhereAPrincipalStands : Prop :=
  ∀ (n : Notice) (id : Nat),
    (id ∉ n.urgent → id ∉ n.normal →
      n.queueNormal id = { n with normal := n.normal ++ [id] } ∧
      n.queueUrgent id = { n with urgent := n.urgent ++ [id] }) ∧
    (id ∉ n.urgent → id ∈ n.normal →
      n.queueNormal id = n ∧
      n.queueUrgent id = { n with normal := n.normal.filter (· ≠ id), urgent := n.urgent ++ [id] }) ∧
    (id ∈ n.urgent → n.queueNormal id = n ∧ n.queueUrgent id = n)

/-- A sweep step of the refresh sweep (R93, R94). -/
def Obligations.RefreshSweepStepExaminesOneSlot : Prop :=
  ∀ s : State, s.peers.station.running = true → 1000 ≤ s.notice.sweepCredit →
    s.notice.refreshPointer ≤ 65535 → ∃ t, exec .refreshSweepStep s = .next t ∧
      t.notice = { (match s.quota.atSlot s.notice.refreshPointer with
          | some p => if 0 < p.lc ∨ 0 < p.la then s.notice.queueNormal p.id else s.notice
          | none => s.notice) with
        refreshPointer := if s.notice.refreshPointer = 65535 then 0 else s.notice.refreshPointer + 1
        sweepCredit := s.notice.sweepCredit - 1000 } ∧
      Unchanged [.notice] s t

/-- A step of the eviction sweep (R75) and the end of the sweep (R79). The count of steps owed, 16 for each tick and 1
less for each step, is the model's (log 17). -/
def Obligations.EvictionSweepStepAndEnd : Prop :=
  ∀ (s : State) (e : Eviction), s.peers.eviction = some e → e.owed ≠ 0 →
    let hit := (s.quota.atSlot e.pointer).filter fun p => s.quota.contributes p.id e.station
    let u := match hit with
      | some p => s.contribute p.id e.station 0 .evict
      | none => s
    let removed := e.removed + (if hit.isSome then 1 else 0)
    (e.pointer < 65535 → ∃ t, exec .evictionSweepStep s = .next t ∧
      t.peers = { s.peers with
        eviction := some
          { station := e.station, pointer := e.pointer + 1, removed := removed, owed := e.owed - 1 } } ∧
      Unchanged [.peers] u t) ∧
    (e.pointer = 65535 → ∃ t, exec .evictionSweepStep s = .next t ∧
      t.peers = { s.peers.setPeer e.station {} with format := t.commonFormat, eviction := none } ∧
      t.port = u.port.raises
        [.peerState e.station (s.peer e.station).state .absent, .evictDone e.station removed] ∧
      Unchanged [.peers, .port] u t)

/-- The permit timeout (R127, R128): the permit is reclaimed into the expired-id list with PERMIT EXPIRED, its
chunk stays charged, and a closing job or night without another permit ends (R117, R139). -/
def Obligations.PermitTimeoutReclaims : Prop :=
  ∀ (s : State) (id : Nat) (p : Permit),
    (s.arbiter.permits.find? fun q => q.id == id) = some p → s.config.permitTimeout * 1000 ≤ p.age →
    let listed := if s.arbiter.expired.length < 32 then s.arbiter.expired else s.arbiter.expired.drop 1
    let left (owner : ExpiredOwner) : Arbiter :=
      { s.arbiter with
        permits := s.arbiter.permits.filter fun q => q.id ≠ id
        expired := listed ++ [{ id := id, owner := owner, chunk := p.chunk }] }
    (∀ slot principal j, p.owner = .job slot principal → s.job slot = some j →
      let told := s.port.raises [.permitExpired id p.chunk (.restore slot j.tag j.volume j.generation)]
      let k := { j with expired := j.expired + 1, permits := j.permits - 1 }
      (¬ (j.state.closing = true ∧ j.permits ≤ 1) → ∃ t, exec (.permitTimeout id) s = .next t ∧
        t.arbiter = left (.job slot principal) ∧ t.port = told ∧ t.job slot = some k ∧
        (∀ i, i ≠ slot → t.job i = s.job i) ∧ Unchanged [.arbiter, .port, .jobs] s t) ∧
      (j.state.closing = true → j.permits ≤ 1 → ∃ t, exec (.permitTimeout id) s = .next t ∧
        JobEnds { s with arbiter := left (.job slot principal), port := told } t slot k)) ∧
    ∀ v generation n, p.owner = .night v generation → (s.volume v).night = some n →
      let told := s.port.raises [.permitExpired id p.chunk (.duplicate v generation)]
      let m := { n with permits := n.permits - 1 }
      (¬ (n.state.closing = true ∧ n.permits ≤ 1) → ∃ t, exec (.permitTimeout id) s = .next t ∧
        t.arbiter = left (.night v generation) ∧ t.port = told ∧
        t.volume v = { s.volume v with night := some m } ∧
        (∀ w, w ≠ v → t.volume w = s.volume w) ∧ Unchanged [.arbiter, .port, .volumes] s t) ∧
      (n.state.closing = true → n.permits ≤ 1 → ∃ t, exec (.permitTimeout id) s = .next t ∧
        NightEnds { s with arbiter := left (.night v generation), port := told } t v m)

/-! ### The station bus -/

/-- The transmitter's timers and a collision: the end of HOLDOFF (R51), the end of BACKOFF (R49), the interframe
gap complete (R46), and a collision (R48), from which the line is busy until the burst's end is reported. The marker of
the own echo on the line, which a complete gap sets, is the model's choice (log 25), as is that the bytes of the frame
last begun are kept (log 16). -/
def Obligations.TransmitterTimersAndCollision : Prop :=
  (∀ s : State, s.bus.tx.state = .holdoff → 10 ≤ s.bus.tx.holdoffTicks →
    ∃ t, exec .holdoffEnd s = .next t ∧
      t.bus = { s.bus with tx := { s.bus.tx with state := .idle, holdoffTicks := 0 } } ∧
      Unchanged [.bus] s t) ∧
  (∀ s : State, s.bus.tx.state = .backoff → ∃ t, exec .backoffEnd s = .next t ∧
    t.bus = { s.bus with tx := { s.bus.tx with
      state := .deferring, attempt := s.bus.tx.attempt + 1, backoffSlots := 0
      gapRunning := !s.bus.line.busy } } ∧
    Unchanged [.bus] s t) ∧
  (∀ (s : State) (f : Frame), s.bus.tx.state = .deferring → s.bus.tx.gapRunning = true →
    s.bus.tx.frame = some f → ∃ t, exec .interframeGapComplete s = .next t ∧
      t.bus = { s.bus with
        tx := { s.bus.tx with state := .sending, gapRunning := false, driven := f.bytes }
        line := { s.bus.line with echo := true } } ∧
      Unchanged [.bus] s t) ∧
  ∀ s : State, s.bus.tx.state = .sending → ∃ t, exec .collision s = .next t ∧
    t.bus = { s.bus with
      tx := { s.bus.tx with state := .jamming }
      line := { s.bus.line with busy := true } } ∧ Unchanged [.bus] s t

/-- The end of a jam (R48): below attempt 16 a backoff of 0 to 2^min(a,10) - 1 slot times is drawn (R49), and at
attempt 16 the frame is abandoned with BUS EXCESS COLLISION (R50) and a USAGE frame returned (R89). The count of
draws taken from the generator is the model's (log 7), and so is the order in which held principals of a returned
frame join URGENT (log 41) and that the attempt count keeps its value when the frame is given up (log 48). -/
def Obligations.JamEndBacksOffOrAbandons : Prop :=
  ∀ (s : State) (f : Frame), s.bus.tx.state = .jamming → s.bus.tx.frame = some f →
    (s.bus.tx.attempt < 16 → ∃ t k, exec .jamEnd s = .next t ∧ k < 2 ^ min s.bus.tx.attempt 10 ∧
      t.bus = { s.bus with
        tx := { s.bus.tx with state := .backoff, backoffSlots := k }
        generator := { s.bus.generator with draws := s.bus.generator.draws + 1 } } ∧
      Unchanged [.bus] s t) ∧
    (16 ≤ s.bus.tx.attempt →
      (∀ sender extended minute claim, f = .presence sender extended minute claim →
        ∃ t, exec .jamEnd s = .next t ∧
          t.bus = { s.bus with tx := { s.bus.tx with state := .holdoff, frame := none, holdoffTicks := 0 } } ∧
          t.port = s.port.raises [.busExcessCollision none] ∧ Unchanged [.bus, .port] s t) ∧
      ∀ sender format entries r, f = .usage sender format entries → s.notice.frame = some r →
        ∃ t, exec .jamEnd s = .next t ∧
          t.bus = { s.bus with tx := { s.bus.tx with state := .holdoff, frame := none, holdoffTicks := 0 } } ∧
          t.port = s.port.raises [.busExcessCollision (some (format, entries.length))] ∧
          t.notice = s.returnedNotice r ∧ Unchanged [.bus, .port, .notice] s t)

/-- Transmit completion (R47). A PRESENCE is done with; a USAGE frame is the sync of R31 and R88: La becomes the
value carried, the frame record becomes absent, and with no held entry for a carried principal nothing else
changes. That the attempt count keeps its value is the model's choice (log 48). -/
def Obligations.TransmitCompletionIsTheSync : Prop :=
  ∀ (s : State) (f : Frame), s.bus.tx.state = .sending → s.bus.tx.frame = some f →
    (∀ sender extended minute claim, f = .presence sender extended minute claim →
      ∃ t, exec .transmitCompletion s = .next t ∧
        t.bus = { s.bus with tx := { s.bus.tx with state := .idle, frame := none } } ∧
        Unchanged [.bus] s t) ∧
    ∀ sender format entries r, f = .usage sender format entries → s.notice.frame = some r →
      let carried (id la : Nat) : Nat :=
        r.entries.foldl (fun la e => if e.principal = id then e.value else la) la
      ∃ t, exec .transmitCompletion s = .next t ∧
        t.bus = { s.bus with tx := { s.bus.tx with state := .idle, frame := none } } ∧
        t.notice.frame = none ∧
        (∀ id p, s.principal id = some p → ∃ q, t.principal id = some q ∧ q.la = carried id p.la) ∧
        ((∀ e ∈ s.quota.held, ∀ x ∈ r.entries, e.principal ≠ x.principal) →
          t.quota = { s.quota with principals := s.quota.principals.map fun p =>
            { p with la := carried p.id p.la } } ∧
          t.notice = { s.notice with frame := none } ∧ Unchanged [.bus, .quota, .notice] s t)

/-- The held entries at sync (R31, R33, R42). A CHARGE alone and first is tested by steps 1 to 4 only, and it is
answered GRANTED, GRANTED-SOFT or OVER-QUOTA and leaves the list; frozen, it stays. In general, La is set for every
carried principal, and then the entries of each are resolved in list order: the first without the share test, later
ones in full, CHARGE and RESTORE entries alike. That a grant's expiry test (R157) comes right after it is read so (log
21); the remembered departure (log 17) and the attempt count kept without a frame (log 48) are the model's. -/
def Obligations.FirstHeldChargeAtSync : Prop :=
  (∀ (s : State) (r : FrameRecord) (x : NoticeEntry) (e : HeldEntry) (address : Nat) (p : Principal)
    (sender : Nat) (format : UsageFormat) (entries : List UsageEntry),
    s.bus.tx.state = .sending → s.bus.tx.frame = some (.usage sender format entries) →
    s.notice.frame = some r → r.entries = [x] → s.quota.held = [e] → e.principal = x.principal →
    e.origin = .charge address → s.principal x.principal = some p → p.cls = .limited →
    ∃ t, exec .transmitCompletion s = .next t ∧
      (s.port.requestState = .fault → t.quota.held = [e] ∧ t.port = s.port) ∧
      (s.port.requestState ≠ .fault → t.quota.held = [] ∧
        ((p.quotaState = .hard ∨ p.quotaState = .expired ∨ p.hard < p.campus + e.amount) →
          t.principal x.principal = some { p with la := x.value } ∧
          t.port.heldAnswers = s.port.heldAnswers ++ [⟨address, ⟨.overQuota, true, []⟩⟩]) ∧
        ((p.quotaState = .under ∨ p.quotaState = .soft) → p.campus + e.amount ≤ p.hard →
          let p' := { p with lc := p.lc + e.amount, la := x.value }
          let q := { p' with grace := p'.graceAfter s.clock.minute }
          (∃ w, t.principal x.principal = some w ∧ { w with grace := q.grace } = q) ∧
            t.port.heldAnswers = s.port.heldAnswers ++
              [⟨address, ⟨if q.quotaState = .soft then .grantedSoft else .granted, true, []⟩⟩]))) ∧
  ∀ (s : State) (r : FrameRecord) (sender : Nat) (format : UsageFormat) (entries : List UsageEntry),
    s.bus.tx.state = .sending → s.bus.tx.frame = some (.usage sender format entries) → s.notice.frame = some r →
    let announced : State :=
      { s with
        bus := { s.bus with tx := { s.bus.tx with state := .idle, frame := none } }
        quota := { s.quota with principals := s.quota.principals.map fun p =>
          { p with la := r.entries.foldl (fun la e => if e.principal = p.id then e.value else la) p.la } } }
    ∃ u, FrameResolves r.entries announced u ∧
      exec .transmitCompletion s = .next { u with notice := { u.notice with frame := none } }

/-- The transmitter takes a frame in IDLE: a due PRESENCE (R45, R68), else the USAGE frame built from the head of
the notice queue (R85, R86). That PRESENCE goes first while IDLE is the model's choice (log 23). -/
def Obligations.TransmitterTakesFrame : Prop :=
  ∀ s : State, s.bus.tx.state = .idle →
    let taken (f : Frame) : Bus := { s.bus with tx := { s.bus.tx with
      state := .deferring, frame := some f, attempt := 1, gapRunning := !s.bus.line.busy } }
    (s.peers.presenceDue = true → ∃ t, exec .transmitterTakeFrame s = .next t ∧
      t.bus = taken (.presence s.straps.station s.config.extendedFormat s.clock.minute s.ownClaim) ∧
      t.peers = { s.peers with presenceDue := false } ∧ Unchanged [.bus, .peers] s t) ∧
    (s.peers.presenceDue = false → s.notice.frame = none → s.notice.urgent ++ s.notice.normal ≠ [] →
      ∃ t r, exec .transmitterTakeFrame s = .next t ∧
        r.format = s.peers.format ∧
        r.entries.map (·.principal) =
          (s.notice.urgent ++ s.notice.normal).take (match s.peers.format with | .extended => 30 | .base => 8) ∧
        (∀ x ∈ r.entries, x.value = ((s.principal x.principal).map (·.lc)).getD 0) ∧
        r.entries.map (·.urgent) =
          ((s.notice.urgent.map fun _ => true) ++ (s.notice.normal.map fun _ => false)).take
            (match s.peers.format with | .extended => 30 | .base => 8) ∧
        t.notice.frame = some r ∧
        t.notice.urgent ++ t.notice.normal = (s.notice.urgent ++ s.notice.normal).drop
          (match s.peers.format with | .extended => 30 | .base => 8) ∧
        (∃ n, t.notice.urgent = s.notice.urgent.drop n) ∧ (∃ n, t.notice.normal = s.notice.normal.drop n) ∧
        t.notice.refreshPointer = s.notice.refreshPointer ∧ t.notice.sweepCredit = s.notice.sweepCredit ∧
        t.bus = taken (.usage s.straps.station r.format (r.entries.map fun x => ⟨x.principal, x.value⟩)) ∧
        Unchanged [.bus, .notice] s t) ∧
    (s.peers.presenceDue = false → s.notice.urgent = [] → s.notice.normal = [] →
      exec .transmitterTakeFrame s = .next s)

/-- A burst begins (R46, R53) and ends (R53, R54, R55, R57, R60): the own echo and an invalid burst leave nothing, a
valid frame with the own number is a clash, and any other valid frame joins the receive FIFO while it holds fewer than
8. The marker of the own echo, and that a burst whose beginning was not reported begins and ends in one command, are
the model's choices (log 25); that nothing begins or ends while the station itself drives the line, and nothing begins
while a burst is on it, is its choice of what a command out of occasion does (log 2). The order in which held
principals of a withdrawn frame join URGENT (log 41) and that the attempt count keeps its value when a frame is
withdrawn (log 48) are its choices too, and how a learning time of 0 is passed is its reading (log 24). -/
def Obligations.BurstIsCheckedAndQueued : Prop :=
  (∀ s : State, s.bus.line.busy = false → s.bus.tx.state.driving = false →
    ∃ t, exec .lineBecomesBusy s = .next t ∧
      t.bus = { s.bus with
        line := { busy := true, echo := false, ignored := !s.bus.listening }
        tx := { s.bus.tx with gapRunning := false } } ∧ Unchanged [.bus] s t) ∧
  (∀ s : State, s.bus.line.busy = true ∨ s.bus.tx.state.driving = true → exec .lineBecomesBusy s = .next s) ∧
  (∀ (s : State) (bytes : List Byte), s.bus.tx.state.driving = true → exec (.burstReceived bytes) s = .next s) ∧
  (∀ (s : State) (bytes : List Byte), s.bus.tx.state.driving = false → s.bus.line.busy = false →
    s.bus.line.echo = false → ∃ t u, exec .lineBecomesBusy s = .next t ∧ exec (.burstReceived bytes) t = .next u ∧
      exec (.burstReceived bytes) s = .next u) ∧
  ∀ (s : State) (bytes : List Byte), s.bus.tx.state.driving = false →
    (s.bus.line.busy = true ∨ s.bus.line.echo = true) →
    let quiet : Bus := { s.bus with
      line := {}, tx := { s.bus.tx with gapRunning := decide (s.bus.tx.state = .deferring) } }
    ((s.bus.line.echo = true ∨ s.bus.line.ignored = true ∨ s.bus.listening = false ∨ parseFrame bytes = none) →
      ∃ t, exec (.burstReceived bytes) s = .next t ∧ t.bus = quiet ∧ Unchanged [.bus] s t) ∧
    (∀ f, s.bus.line.echo = false → s.bus.line.ignored = false → s.bus.listening = true →
      parseFrame bytes = some f →
      (f.sender = s.straps.station → s.peers.station.running = false →
        ∃ t, exec (.burstReceived bytes) s = .next t ∧ t.bus = quiet ∧ Unchanged [.bus] s t) ∧
      (f.sender = s.straps.station → s.peers.station.running = true →
        ∃ t, exec (.burstReceived bytes) s = .next t ∧
          t.peers = { s.peers with station := .clash, presenceDue := false } ∧
          t.port = s.port.raises [.stationState s.peers.station .clash] ∧
          t.bus = { quiet with tx := { s.bus.tx with
            state := .silenced, frame := none, gapRunning := false, backoffSlots := 0, holdoffTicks := 0 } } ∧
          (∀ r, s.notice.frame = some r → (∃ a b c, s.bus.tx.frame = some (.usage a b c)) →
            t.notice = s.returnedNotice r) ∧
          ((s.notice.frame = none ∨ ¬ ∃ a b c, s.bus.tx.frame = some (.usage a b c)) → t.notice = s.notice) ∧
          Unchanged [.peers, .port, .bus, .notice] s t) ∧
      (f.sender ≠ s.straps.station → 8 ≤ s.bus.fifo.length →
        ∃ t, exec (.burstReceived bytes) s = .next t ∧ t.bus = quiet ∧ Unchanged [.bus] s t) ∧
      (f.sender ≠ s.straps.station → s.bus.fifo.length < 8 →
        ∃ t, exec (.burstReceived bytes) s = .next t ∧
          t.bus = { quiet with fifo := s.bus.fifo ++ [{ frame := f, age := 0 }] } ∧
          t.peers = { s.peers with
            table := (match (s.peer f.sender).state with
              | .live | .lapsed => s.peers.setPeer f.sender { s.peer f.sender with age := some 0 }
              | .absent | .evicting => s.peers).table
            silenceAge := 0
            station :=
              if s.peers.station = .isolated then (if s.config.learningTime = 0 then .joined else .learning)
              else s.peers.station
            learningCount := if s.peers.station = .isolated then 0 else s.peers.learningCount } ∧
          t.port = (if s.peers.station = .isolated then
              s.port.raises (.stationState .isolated .learning ::
                if s.config.learningTime = 0 then [.stationState .learning .joined] else [])
            else s.port) ∧
          Unchanged [.bus, .peers, .port] s t))

/-- The delivery of the frame at the FIFO head, by the state of the sender's record (R61, R62, R66), and the common
format that it recomputes (R65). -/
def Obligations.FrameDeliveryActsOnTheSender : Prop :=
  (∀ s : State,
    (s.config.extendedFormat = true →
      (∀ k < 16, (s.peer k).state = .live → (s.peer k).capability = some .extended) → s.commonFormat = .extended) ∧
    (s.config.extendedFormat = false → s.commonFormat = .base) ∧
    (∀ k < 16, (s.peer k).state = .live → (s.peer k).capability ≠ some .extended → s.commonFormat = .base)) ∧
  ∀ (s : State) (x : ReceivedFrame) (rest : List ReceivedFrame), s.bus.fifo = x :: rest → s.bus.delivery = none →
    let k := x.frame.sender
    ((s.peer k).state = .evicting → ∃ t, exec .frameDelivery s = .next t ∧
      t.bus = { s.bus with fifo := rest } ∧ Unchanged [.bus] s t) ∧
    (∀ sender format entries, x.frame = .usage sender format entries → (s.peer k).state = .live →
      ∃ t, exec .frameDelivery s = .next t ∧
        t.bus = { s.bus with delivery := some entries } ∧ Unchanged [.bus] s t) ∧
    (∀ sender extended minute claim, x.frame = .presence sender extended minute claim →
      (s.peer k).state = .live →
      let skewed := decide (s.config.skewTolerance < absDiff minute s.clock.minute)
      ∃ t, exec .frameDelivery s = .next t ∧
        t.bus = { s.bus with fifo := rest } ∧
        t.peer k = { s.peer k with
          capability := some (if extended = true then .extended else .base)
          claim := claim
          skew := if s.config.skewTolerance = 0 then (s.peer k).skew else skewed } ∧
        (∀ j, j ≠ k → t.peer j = s.peer j) ∧
        (t.peers.format = t.commonFormat ∨
          ((s.peer k).capability.getD .base = (if extended = true then .extended else .base) ∧
            t.peers.format = s.peers.format)) ∧
        t.port = (if s.config.skewTolerance ≠ 0 ∧ skewed = true ∧ (s.peer k).skew = false then
          s.port.raises [.clockSkew k minute s.clock.minute] else s.port) ∧
        t.peers = { s.peers with table := t.peers.table, format := t.peers.format } ∧
        Unchanged [.bus, .peers, .port] s t) ∧
    ∀ (_ : k < 16) (_ : (s.peer k).state = .absent ∨ (s.peer k).state = .lapsed),
      let age := if (s.peer k).state = .absent then s.bus.latestAge k else (s.peer k).age.getD 0
      let lapses := decide (s.config.lapseTime ≤ age)
      (∀ sender format entries, x.frame = .usage sender format entries →
        ∃ t, exec .frameDelivery s = .next t ∧
          t.bus = { s.bus with delivery := some entries } ∧
          t.peer k = { s.peer k with
            state := if lapses then .lapsed else .live
            age := some age
            claim := if lapses then none else (s.peer k).claim } ∧
          (∀ j, j ≠ k → t.peer j = s.peer j) ∧ t.peers.format = t.commonFormat ∧
          t.port = s.port.raises (.peerState k (s.peer k).state .live ::
            if lapses then [.peerState k .live .lapsed] else []) ∧
          t.peers = { s.peers with table := t.peers.table, format := t.peers.format } ∧
          Unchanged [.bus, .peers, .port] s t) ∧
      ∀ sender extended minute claim, x.frame = .presence sender extended minute claim →
        let skewed := decide (s.config.skewTolerance < absDiff minute s.clock.minute)
        ∃ t, exec .frameDelivery s = .next t ∧
          t.bus = { s.bus with fifo := rest } ∧
          t.peer k = {
            state := if lapses then .lapsed else .live
            capability := some (if extended = true then .extended else .base)
            age := some age
            claim := if lapses then none else claim
            skew := if s.config.skewTolerance = 0 then (s.peer k).skew else skewed } ∧
          (∀ j, j ≠ k → t.peer j = s.peer j) ∧ t.peers.format = t.commonFormat ∧
          t.port = s.port.raises (.peerState k (s.peer k).state .live ::
            ((if s.config.skewTolerance ≠ 0 ∧ skewed = true ∧ (s.peer k).skew = false then
              [.clockSkew k minute s.clock.minute] else []) ++
            if lapses then [.peerState k .live .lapsed] else [])) ∧
          t.peers = { s.peers with table := t.peers.table, format := t.peers.format } ∧
          Unchanged [.bus, .peers, .port] s t

/-- An entry of the USAGE frame under delivery is one contribution update (R92, R56), and a contribution update
(R5) sets the entry and the remote sum, re-derives the principal (R10), and wakes its QUOTA-WAIT jobs when its
campus usage fell (R11). An update that inserted a deadline entry ends with the expiry test (R157), which
ExpiryRunAndClockSet describes. The order of the records of several woken jobs is the model's choice (log 41). -/
def Obligations.UsageEntryIsOneContributionUpdate : Prop :=
  (∀ (s : State) (x : ReceivedFrame) (later : List ReceivedFrame) (e : UsageEntry) (rest : List UsageEntry),
    s.bus.fifo = x :: later → s.bus.delivery = some (e :: rest) →
    ((s.peer x.frame.sender).state = .evicting → ∃ t, exec .usageEntryUpdate s = .next t ∧
      t.bus = { s.bus with fifo := later, delivery := none } ∧ Unchanged [.bus] s t) ∧
    ((s.peer x.frame.sender).state ≠ .evicting → ∃ t, exec .usageEntryUpdate s = .next (t.insertionTest s) ∧
      t.bus = (if rest = [] then { s.bus with fifo := later, delivery := none }
        else { s.bus with delivery := some rest }) ∧
      Unchanged [.bus] (s.contribute e.principal x.frame.sender e.value .peer) t)) ∧
  ∀ (s : State) (id station value : Nat) (cause : QuotaCause),
    ((s.principal id = none ∨ station = s.straps.station) → s.contribute id station value cause = s) ∧
    ∀ p, s.principal id = some p → station ≠ s.straps.station →
      let t := s.contribute id station value cause
      let p' := { p with remote := p.remote - s.quota.contribution id station + value }
      let q := { p' with grace := p'.graceAfter s.clock.minute }
      (∀ j k, t.quota.contribution j k =
        if j = id ∧ k = station then value else s.quota.contribution j k) ∧
      t.quota.contributes id station = decide (0 < value) ∧
      t.principal id = some q ∧
      (∀ j, j ≠ id → t.principal j = s.principal j) ∧ t.quota.held = s.quota.held ∧
      t.deadlines = graceDeadlines id p.grace q.grace s.deadlines ∧
      (p.campus ≤ q.campus ∨ p.restoreJobs = 0 →
        t.jobs = s.jobs ∧ t.port = s.port.raises (quotaRecords p q cause)) ∧
      (q.campus < p.campus → 0 < p.restoreJobs →
        (∀ k < 8, t.job k = (s.job k).map fun j => j.wokenFor id) ∧
        t.port = s.port.raises (quotaRecords p q cause ++ s.wakeRecords id)) ∧
      Unchanged [.quota, .deadlines, .jobs, .port] s t

/-! ### Charging -/

/-- Re-derivation at the end of an operation on a principal (R10), with grace maintenance (R8) and the derived
quota state (R7). -/
def Obligations.RederivationMaintainsGraceAndState : Prop :=
  (∀ p : Principal,
    (p.cls = .exempt → p.quotaState = .under) ∧
    (p.cls = .limited →
      (p.hard ≤ p.lc + p.remote → p.quotaState = .hard) ∧
      (p.lc + p.remote < p.hard →
        ((p.grace = .expired → p.quotaState = .expired) ∧
         (∀ d, p.grace = .running d → p.quotaState = .soft) ∧
         (p.grace = .absent → p.quotaState = .under))))) ∧
  (∀ (p : Principal) (minute : Nat),
    (p.cls = .exempt → p.graceAfter minute = p.grace) ∧
    (p.cls = .limited →
      (p.soft = 0 ∨ p.lc + p.remote < p.soft → p.graceAfter minute = .absent) ∧
      (p.soft ≠ 0 → p.soft ≤ p.lc + p.remote →
        (p.grace ≠ .absent → p.graceAfter minute = p.grace) ∧
        (p.grace = .absent → p.period = 0 → p.graceAfter minute = .expired) ∧
        (p.grace = .absent → p.period ≠ 0 →
          p.graceAfter minute = .running (min max32 (minute + p.period)))))) ∧
  ∀ (s : State) (id : Nat) (cause : QuotaCause) (op : Principal → Principal) (p : Principal),
    s.principal id = some p → (op p).id = id →
    let q := { op p with grace := (op p).graceAfter s.clock.minute }
    let t := s.rederive id cause op
    t.principal id = some q ∧
    (∀ j, j ≠ id → t.principal j = s.principal j) ∧
    t.quota.contributions = s.quota.contributions ∧ t.quota.held = s.quota.held ∧
    ((op p).grace = .absent → (∀ d, q.grace ≠ .running d) → t.deadlines = s.deadlines) ∧
    (∀ d, (op p).grace = .absent → q.grace = .running d →
      t.deadlines = insertDeadline ⟨.grace id, d⟩ s.deadlines) ∧
    (∀ d, (op p).grace = .running d → q.grace = .absent →
      t.deadlines = s.deadlines.filter fun e => e.object ≠ .grace id) ∧
    ((op p).grace = q.grace ∨ (op p).grace = .expired → t.deadlines = s.deadlines) ∧
    t.port = s.port.raises (quotaRecords p q cause) ∧
    Unchanged [.quota, .deadlines, .port] s t

/-- The evaluation of a CHARGE: the four tests (R22), the divisor (R23), headroom and share (R24), and the share
test (R25); and that of a restore chunk, with one test against the restore limit in place of steps 3 and 4 and the
headroom taken against that limit (R39). Nothing is evaluated in CONFIGURING (R21). -/
def Obligations.EvaluationOfACharge : Prop :=
  ∀ (s : State) (id n : Nat), s.peers.station ≠ .configuring →
    (s.principal id = none → s.evaluate id n = .unknown) ∧
    ∀ p, s.principal id = some p →
      let holders (only : Bool) := ((List.range 16).filter fun k =>
        k ≠ s.straps.station && s.quota.contributes id k && (!only || (s.peer k).state = .live)).length
      let d := if s.peers.station = .learning then s.config.stationCount
        else if s.peers.station = .joined then holders true + 1
        else holders false + 1
      let h0 := p.hard - min p.hard (p.la + p.remote)
      let share := max (h0 / d) (min h0 s.config.minimumShare)
      let limit := min max32 (p.hard + p.hard * s.config.restoreAllowance / 1000)
      let chunkH0 := limit - min limit (p.la + p.remote)
      let chunkShare := max (chunkH0 / d) (min chunkH0 s.config.minimumShare)
      (p.cls = .exempt → s.evaluate id n = .granted ∧ s.evaluateChunk id n = .granted) ∧
      (p.cls = .limited →
        ((p.quotaState = .hard ∨ p.quotaState = .expired ∨ p.hard < p.campus + n) →
          s.evaluate id n = .overQuota) ∧
        ((p.quotaState = .under ∨ p.quotaState = .soft) → p.campus + n ≤ p.hard →
          (d = 1 ∨ (p.lc - p.la) + n ≤ share → s.evaluate id n = .granted) ∧
          (d ≠ 1 → share < (p.lc - p.la) + n →
            ((s.peers.station = .isolated ∨ s.peers.station = .clash) → s.evaluate id n = .shareLimit) ∧
            ((s.peers.station = .joined ∨ s.peers.station = .learning) → s.evaluate id n = .held))) ∧
        (limit < p.campus + n → s.evaluateChunk id n = .overQuota) ∧
        (p.campus + n ≤ limit →
          (d = 1 ∨ (p.lc - p.la) + n ≤ chunkShare → s.evaluateChunk id n = .granted) ∧
          (d ≠ 1 → chunkShare < (p.lc - p.la) + n →
            ((s.peers.station = .isolated ∨ s.peers.station = .clash) → s.evaluateChunk id n = .shareLimit) ∧
            ((s.peers.station = .joined ∨ s.peers.station = .learning) → s.evaluateChunk id n = .held)))) ∧
      share ≤ h0 ∧ chunkShare ≤ chunkH0 ∧
      (s.straps.station < 16 → 1 ≤ s.config.stationCount → s.config.stationCount ≤ 16 → 1 ≤ d ∧ d ≤ 16)

/-- The grant effects of a CHARGE or a restore chunk (R26, R27): Lc rises, saturating for an EXEMPT principal, the
principal is re-derived, and it is queued NORMAL when D reaches the report step or its state changed. -/
def Obligations.GrantRaisesLocalUsageAndQueues : Prop :=
  ∀ (s : State) (id n : Nat) (cause : QuotaCause) (p : Principal), s.principal id = some p →
    let p' := { p with lc := match p.cls with
      | .exempt => min max32 (p.lc + n)
      | .limited => p.lc + n }
    let q := { p' with grace := p'.graceAfter s.clock.minute }
    let t := s.grant id n cause
    t.principal id = some q ∧ (∀ j, j ≠ id → t.principal j = s.principal j) ∧
    t.quota.contributions = s.quota.contributions ∧ t.quota.held = s.quota.held ∧
    t.deadlines = graceDeadlines id p.grace q.grace s.deadlines ∧
    t.port = s.port.raises (quotaRecords p q cause) ∧
    t.notice =
      (if s.config.reportStep ≤ q.lc - q.la ∨ p.quotaState ≠ q.quotaState then s.notice.queueNormal id
      else s.notice) ∧
    t.grantCode id = (if q.quotaState = .soft then .grantedSoft else .granted) ∧
    Unchanged [.quota, .deadlines, .notice, .port] s t

/-- A CHARGE by its evaluation (R21, R29, R30), and the same CHARGE executed again from BLOCKED after a departure
(R164). A grant that inserted a deadline entry ends with the expiry test (R157), which ExpiryRunAndClockSet describes.
The remembered departure, on which the second execution waits and which it takes, is the model's (log 17). -/
def Obligations.ChargeIsAnsweredHeldOrBlocks : Prop :=
  (∀ (s : State) (a id n : Nat), s.serves a (.charge id n) →
    ((id = 0 ∨ max32 < id ∨ n = 0 ∨ 1048575 < n) → Refuses (.charge id n) s a .badRequest) ∧
    (1 ≤ id → id ≤ max32 → 1 ≤ n → n ≤ 1048575 →
      (s.evaluate id n = .unknown → Refuses (.charge id n) s a .unknownPrincipal) ∧
      (s.evaluate id n = .overQuota → Refuses (.charge id n) s a .overQuota) ∧
      (s.evaluate id n = .shareLimit → Refuses (.charge id n) s a .shareLimit) ∧
      (s.evaluate id n = .granted → ∃ t, exec (.charge id n) s = .next (t.insertionTest s) ∧
        Answers (s.grant id n .charge) t a ((s.grant id n .charge).grantCode id) [] [] ∧
        Unchanged [.port] (s.grant id n .charge) t) ∧
      (s.evaluate id n = .held → s.quota.held.length < 32 → ∃ t, exec (.charge id n) s = .next t ∧
        t.quota = { s.quota with
          held := s.quota.held ++ [{ origin := .charge a, principal := id, amount := n, age := 0 }] } ∧
        t.notice = s.notice.queueUrgent id ∧
        t.port = { s.port with
          phase := .idle
          requestRing := { s.port.requestRing with
            position := if s.port.requestRing.size ≤ s.port.requestRing.position + 1 then 0
              else s.port.requestRing.position + 1 }
          requestState := if s.port.request.stopRecorded = true then .stopped else .running
          request := { s.port.request with stopRecorded := false } } ∧
        Unchanged [.quota, .notice, .port] s t) ∧
      (s.evaluate id n = .held → 32 ≤ s.quota.held.length → ∃ t, exec (.charge id n) s = .next t ∧
        t.port = { s.port with requestState := .blocked, departed := false } ∧ Unchanged [.port] s t))) ∧
  ∀ (s : State) (a id n : Nat), s.port.requestState = .blocked → s.port.departed = true →
    s.port.phase = .executing a (.charge id n) → ∃ t, exec .blockedChargeReexecution s = .next t ∧
      exec (.charge id n) { s with port := { s.port with requestState := .running, departed := false } } = .next t

/-- No grant takes a LIMITED principal past its limit: where a command raises its local usage, its campus usage is
then at most the restore limit of R39, and at most H where the command is a CHARGE (R22, R26, R39). -/
def Obligations.GrantsStayWithinTheLimits : Prop :=
  ∀ (s t : State) (i : Instr) (id : Nat) (p q : Principal), PrincipalRanges s → exec i s = .next t →
    s.principal id = some p → t.principal id = some q → p.cls = .limited → p.lc < q.lc →
    q.cls = .limited ∧ q.hard = p.hard ∧
    q.lc + q.remote ≤ min max32 (q.hard + q.hard * s.config.restoreAllowance / 1000) ∧
    (((∃ id n, i = .charge id n) ∨ i = .blockedChargeReexecution) → q.lc + q.remote ≤ q.hard)

/-! ### Requests of the quota unit -/

/-- PRINCIPAL ADD (R13, R14). One that inserted a deadline entry ends with the expiry test (R157), which
ExpiryRunAndClockSet describes. -/
def Obligations.PrincipalAddCreatesTheRecord : Prop :=
  ∀ (s : State) (a id cls soft hard period initial : Nat), QuotaTables s →
    s.serves a (.principalAdd id cls soft hard period initial) →
    let i : Instr := .principalAdd id cls soft hard period initial
    ((id = 0 ∨ max32 < id ∨ 1 < cls ∨ hard = 0 ∨ max32 < hard) → Refuses i s a .badRequest) ∧
    (1 ≤ id → id ≤ max32 → cls ≤ 1 → 1 ≤ hard → hard ≤ max32 →
      ((s.principal id).isSome = true → Refuses i s a .exists_) ∧
      (s.principal id = none → (∀ k ≤ 65535, (s.quota.atSlot k).isSome = true) → Refuses i s a .tableFull) ∧
      ∀ slot, s.principal id = none → slot ≤ 65535 → s.quota.atSlot slot = none →
        (∀ k < slot, (s.quota.atSlot k).isSome = true) →
        let p : Principal :=
          { slot := slot, id := id, cls := if cls = 0 then .limited else .exempt, soft := min soft hard,
            hard := hard, period := period, lc := initial, la := 0, remote := 0, grace := .absent,
            restoreJobs := 0 }
        let q : Principal := { p with grace := p.graceAfter s.clock.minute }
        ∃ t, exec i s = .next (t.insertionTest s) ∧
          t.principal id = some q ∧ (∀ j, j ≠ id → t.principal j = s.principal j) ∧
          t.quota.contributions = s.quota.contributions ∧ t.quota.held = s.quota.held ∧
          t.deadlines = graceDeadlines id .absent q.grace s.deadlines ∧
          t.notice = (if 0 < initial then s.notice.queueNormal id else s.notice) ∧
          Answers s t a (if hard < soft then .clamped else .done) [u16 slot, u8 q.quotaState.code] [] ∧
          Unchanged [.quota, .deadlines, .notice, .port] s t)

/-- PRINCIPAL LIMITS (R15). One that inserted a deadline entry ends with the expiry test (R157), which
ExpiryRunAndClockSet describes. The order of the records of several woken jobs is the model's choice (log 41). -/
def Obligations.PrincipalLimitsReplacesTheLimits : Prop :=
  ∀ (s : State) (a id soft hard period : Nat), s.serves a (.principalLimits id soft hard period) →
    let i : Instr := .principalLimits id soft hard period
    ((id = 0 ∨ max32 < id ∨ hard = 0 ∨ max32 < hard) → Refuses i s a .badRequest) ∧
    (1 ≤ id → id ≤ max32 → 1 ≤ hard → hard ≤ max32 →
      (s.principal id = none → Refuses i s a .unknownPrincipal) ∧
      ∀ p, s.principal id = some p →
        let p' := { p with soft := min soft hard, hard := hard, period := period }
        let q := { p' with grace := p'.graceAfter s.clock.minute }
        ∃ t, exec i s = .next (t.insertionTest s) ∧
          t.principal id = some q ∧ (∀ j, j ≠ id → t.principal j = s.principal j) ∧
          t.quota.contributions = s.quota.contributions ∧ t.quota.held = s.quota.held ∧
          t.deadlines = graceDeadlines id p.grace q.grace s.deadlines ∧
          (∀ k < 8, t.job k = if 0 < p.restoreJobs then (s.job k).map fun j => j.wokenFor id else s.job k) ∧
          Answers s t a (if hard < soft then .clamped else .done) []
            (quotaRecords p q .limits ++ if 0 < p.restoreJobs then s.wakeRecords id else []) ∧
          Unchanged [.quota, .deadlines, .jobs, .port] s t)

/-- PRINCIPAL REMOVE (R16, R17). -/
def Obligations.PrincipalRemoveRefusesOrRemovesWhole : Prop :=
  ∀ (s : State) (a id : Nat), s.serves a (.principalRemove id) →
    let i : Instr := .principalRemove id
    ((id = 0 ∨ max32 < id) → Refuses i s a .badRequest) ∧
    (1 ≤ id → id ≤ max32 →
      (s.principal id = none → Refuses i s a .unknownPrincipal) ∧
      ∀ p, s.principal id = some p →
        let used := 0 < p.lc ∨ 0 < p.restoreJobs ∨ ∃ e ∈ s.quota.held, e.principal = id
        (used → Refuses i s a .inUse) ∧
        (¬ used → (0 < p.la ∨ s.inFrame id = true) → ∃ t, exec i s = .next t ∧
          t.notice = s.notice.queueUrgent id ∧ Answers s t a .unannounced [] [] ∧
          Unchanged [.notice, .port] s t) ∧
        (¬ used → p.la = 0 → s.inFrame id = false → ∃ t, exec i s = .next t ∧
          t.quota.principals = (s.quota.principals.filter fun x => x.id ≠ id) ∧
          t.quota.contributions = (s.quota.contributions.filter fun c => c.principal ≠ id) ∧
          t.quota.held = s.quota.held ∧
          t.deadlines = (s.deadlines.filter fun d => d.object ≠ .grace id) ∧
          t.notice = { s.notice with
            urgent := s.notice.urgent.filter (· ≠ id)
            normal := s.notice.normal.filter (· ≠ id) } ∧
          Answers s t a .done [] [] ∧ Unchanged [.quota, .deadlines, .notice, .port] s t))

/-- CREDIT (R20) with the credit operation (R19). The order of the records of several woken jobs is the model's choice
(log 41). -/
def Obligations.CreditReturnsLocalUsage : Prop :=
  ∀ (s : State) (a id n : Nat), s.serves a (.credit id n) →
    let i : Instr := .credit id n
    ((id = 0 ∨ max32 < id ∨ n = 0 ∨ max32 < n) → Refuses i s a .badRequest) ∧
    (1 ≤ id → id ≤ max32 → 1 ≤ n → n ≤ max32 →
      (s.principal id = none → Refuses i s a .unknownPrincipal) ∧
      ∀ p, s.principal id = some p →
        let p' := { p with lc := p.lc - n }
        let q := { p' with grace := p'.graceAfter s.clock.minute }
        let wakes := 0 < p.lc ∧ 0 < p.restoreJobs
        ∃ t, exec i s = .next t ∧
          t.principal id = some q ∧ (∀ j, j ≠ id → t.principal j = s.principal j) ∧
          t.quota.contributions = s.quota.contributions ∧ t.quota.held = s.quota.held ∧
          t.deadlines = graceDeadlines id p.grace q.grace s.deadlines ∧
          t.notice =
            (if p.quotaState ≠ q.quotaState ∨ s.config.reportStep ≤ absDiff q.lc q.la
            then s.notice.queueNormal id else s.notice) ∧
          (∀ k < 8, t.job k = if wakes then (s.job k).map fun j => j.wokenFor id else s.job k) ∧
          Answers s t a (if p.lc < n then .clamped else .done) []
            (quotaRecords p q .credit ++ if wakes then s.wakeRecords id else []) ∧
          Unchanged [.quota, .deadlines, .notice, .jobs, .port] s t)

/-- The query requests (R18, R80, R95, R109, R150, R159, R175): each refuses what its rule refuses, and otherwise
answers DONE with the values of the moment and changes nothing. The EEAW code in CONFIG QUERY's values is open
(log 9), and of the packing the model's readings are CATALOGUE QUERY's (log 33), the skew byte of the own number (log
42), the width of a DAWN entry's object (log 43) and the groups of NOTICE QUERY and CLOCK QUERY (log 44). -/
def Obligations.QueriesAnswerAndChangeNothing : Prop :=
  ∀ (s : State) (a : Nat),
    let reads (i : Instr) (values : List Field) : Prop :=
      exec i s = .next { s with port := { s.port with phase := .returning a ⟨.done, false, values⟩ } }
    (∀ id, s.serves a (.principalQuery id) →
      ((id = 0 ∨ max32 < id) → Refuses (.principalQuery id) s a .badRequest) ∧
      (1 ≤ id → id ≤ max32 → s.principal id = none → Refuses (.principalQuery id) s a .unknownPrincipal) ∧
      ∀ p, 1 ≤ id → id ≤ max32 → s.principal id = some p → reads (.principalQuery id) (s.principalFields p)) ∧
    (∀ k, s.serves a (.peerQuery k) →
      (15 < k → Refuses (.peerQuery k) s a .badRequest) ∧
      (k ≤ 15 → reads (.peerQuery k) (s.peerRecordFields k ++ s.stationFields))) ∧
    (s.serves a .noticeQuery → reads .noticeQuery s.notice.fields) ∧
    (∀ v start, s.serves a (.catalogueQuery v start) →
      (15 < v → Refuses (.catalogueQuery v start) s a .badRequest) ∧
      (v ≤ 15 → (s.volume v).declared = false → Refuses (.catalogueQuery v start) s a .notDeclared) ∧
      (v ≤ 15 → (s.volume v).declared = true →
        reads (.catalogueQuery v start) ((s.volume v).catalogueFields start))) ∧
    (∀ v, s.serves a (.nightQuery v) →
      (15 < v → Refuses (.nightQuery v) s a .badRequest) ∧
      (v ≤ 15 → (s.volume v).declared = false → Refuses (.nightQuery v) s a .notDeclared) ∧
      (v ≤ 15 → (s.volume v).declared = true → reads (.nightQuery v) (s.nightFields (s.volume v)))) ∧
    (s.serves a .clockQuery → reads .clockQuery s.clockFields) ∧
    (s.serves a .configQuery → reads .configQuery s.configFields)

/-! ### Requests of the peer table and the catalogue -/

/-- PEER EVICT (R76, R77). That it ends a delivery of the peer's own USAGE frame is R56's end of a delivery (log
29). -/
def Obligations.PeerEvictStartsTheSweep : Prop :=
  ∀ (s : State) (a k : Nat), s.serves a (.peerEvict k) →
    let i : Instr := .peerEvict k
    (15 < k → Refuses i s a .badRequest) ∧
    (k ≤ 15 → (k = s.straps.station ∨ (s.peer k).state = .absent) → Refuses i s a .notFound) ∧
    (k ≤ 15 → k ≠ s.straps.station →
      ((s.peer k).state = .live → Refuses i s a .peerLive) ∧
      (((s.peer k).state = .lapsed ∨ (s.peer k).state = .evicting) → s.peers.eviction.isSome = true →
        Refuses i s a .busy) ∧
      ((s.peer k).state = .lapsed → s.peers.eviction = none → ∃ t, exec i s = .next t ∧
        t.peers = { s.peers.setPeer k { s.peer k with state := .evicting } with
          format := t.commonFormat
          eviction := some { station := k, pointer := 0, removed := 0, owed := 0 } } ∧
        ((s.bus.delivery = none ∨ ∀ x ∈ s.bus.fifo.head?, x.frame.sender ≠ k) → t.bus = s.bus) ∧
        (s.bus.delivery ≠ none → (∃ x ∈ s.bus.fifo.head?, x.frame.sender = k) →
          t.bus = { s.bus with fifo := s.bus.fifo.drop 1, delivery := none }) ∧
        Answers s t a .done [] [.peerState k .lapsed .evicting] ∧ Unchanged [.peers, .bus, .port] s t))

/-- VOLUME DECLARE, SNAP CREATE and SNAP RETIRE (R97, R100, R105, R107). -/
def Obligations.VolumeAndSnapshotRequests : Prop :=
  ∀ (s : State) (a v : Nat),
    let writes (i : Instr) (x : Volume) (code : ResultCode) (values : List Field) : Prop :=
      ∃ t, exec i s = .next t ∧ t.volume v = x ∧ (∀ w, w ≠ v → t.volume w = s.volume w) ∧
        Answers s t a code values [] ∧ Unchanged [.volumes, .port] s t
    let x := s.volume v
    (∀ enable, s.serves a (.volumeDeclare v enable) →
      let i : Instr := .volumeDeclare v enable
      ((15 < v ∨ 1 < enable) → Refuses i s a .badRequest) ∧
      (v ≤ 15 → enable ≤ 1 → x.declared = true → Refuses i s a .exists_) ∧
      (v ≤ 15 → enable ≤ 1 → x.declared = false →
        writes i { x with declared := true, offsite := decide (enable = 1) } .done [])) ∧
    (∀ g, s.serves a (.snapCreate v g) →
      let i : Instr := .snapCreate v g
      (15 < v → Refuses i s a .badRequest) ∧
      (v ≤ 15 → x.declared = false → Refuses i s a .notDeclared) ∧
      (v ≤ 15 → x.declared = true →
        ((∃ newest ∈ x.newest, g ≤ newest) → Refuses i s a .outOfOrder) ∧
        ((∀ newest ∈ x.newest, newest < g) →
          (64 ≤ x.snapshots.length → Refuses i s a .catalogueFull) ∧
          (x.snapshots.length < 64 → writes i
            { x with
              snapshots := x.snapshots ++
                [⟨g, s.clock.minute, false, 0, .localOnly⟩] }
            .done [u8 (x.snapshots.length + 1)])))) ∧
    ∀ g, s.serves a (.snapRetire v g) →
      let i : Instr := .snapRetire v g
      (15 < v → Refuses i s a .badRequest) ∧
      (v ≤ 15 → x.declared = false → Refuses i s a .notDeclared) ∧
      (v ≤ 15 → x.declared = true →
        (x.snapshot g = none → Refuses i s a .notFound) ∧
        ∀ r, x.snapshot g = some r →
          (x.base = some g → Refuses i s a .isBase) ∧
          (x.base ≠ some g →
            (r.status = .sending → Refuses i s a .sending) ∧
            (r.status ≠ .sending →
              (r.retirePending = true → Refuses i s a .pending) ∧
              (r.retirePending = false → 0 < r.holds → writes i
                { x with snapshots := (x.snapshots.map fun y =>
                    if y.generation = g then { y with retirePending := true } else y) } .pending []) ∧
              (r.retirePending = false → r.holds = 0 → writes i
                { x with snapshots := (x.snapshots.filter fun y => y.generation ≠ g) } .done []))))

/-! ### Restores, permits and the arbiter -/

/-- RESTORE START (R113, R114). -/
def Obligations.RestoreStartTakesAHoldAndASlot : Prop :=
  ∀ (s : State) (a tag v g id : Nat), s.serves a (.restoreStart tag v g id) →
    let i : Instr := .restoreStart tag v g id
    let x := s.volume v
    ((id = 0 ∨ max32 < id ∨ 15 < v) → Refuses i s a .badRequest) ∧
    (1 ≤ id → id ≤ max32 → v ≤ 15 →
      ((∀ k < 8, (s.job k).isSome = true) → Refuses i s a .busyJobs) ∧
      ∀ slot < 8, s.job slot = none → (∀ k < slot, (s.job k).isSome = true) →
        (s.principal id = none → Refuses i s a .unknownPrincipal) ∧
        ∀ p, s.principal id = some p →
          ((x.declared = false ∨ x.snapshot g = none) → Refuses i s a .notFound) ∧
          ∀ r, x.declared = true → x.snapshot g = some r →
            (r.retirePending = true → Refuses i s a .retiring) ∧
            (r.retirePending = false → ∃ t, exec i s = .next t ∧
              t.volume v = { x with snapshots := (x.snapshots.map fun y =>
                if y.generation = g then { y with holds := y.holds + 1 } else y) } ∧
              (∀ w, w ≠ v → t.volume w = s.volume w) ∧
              t.job slot = some
                { tag := tag, volume := v, generation := g, principal := id, state := .running, permits := 0,
                  deferred := false, charged := 0, moved := 0, expired := 0 } ∧
              (∀ k, k ≠ slot → t.job k = s.job k) ∧
              t.principal id = some { p with restoreJobs := p.restoreJobs + 1 } ∧
              (∀ j, j ≠ id → t.principal j = s.principal j) ∧
              t.quota.contributions = s.quota.contributions ∧ t.quota.held = s.quota.held ∧
              Answers s t a .done [u8 slot] [] ∧ Unchanged [.volumes, .jobs, .quota, .port] s t))

/-- RESTORE END and RESTORE CANCEL (R115, R116), with the end of a job that has no permit outstanding (R117). The
remembered departure of a held chunk is the model's (log 17). -/
def Obligations.RestoreEndAndCancelCloseTheJob : Prop :=
  ∀ (s : State) (a slot tag : Nat) (cancel : Bool),
    let i : Instr := if cancel = true then .restoreCancel slot tag else .restoreEnd slot tag
    let r : Request := if cancel = true then .restoreCancel slot tag else .restoreEnd slot tag
    let last : JobState := if cancel = true then .cancelling else .finishing
    s.serves a r →
    (7 < slot → Refuses i s a .badRequest) ∧
    (slot ≤ 7 → s.job slot = none → Refuses i s a .notFound) ∧
    ∀ j, slot ≤ 7 → s.job slot = some j →
      (j.tag ≠ tag → Refuses i s a .notFound) ∧
      (j.tag = tag →
        ((j.state = .cancelling ∨ (j.state = .finishing ∧ cancel = false)) → Refuses i s a .busy) ∧
        (¬ (j.state = .cancelling ∨ (j.state = .finishing ∧ cancel = false)) →
          let left : State := if j.state = .syncWait then
              { s with
                quota := { s.quota with held := (s.quota.held.filter fun e => e.origin ≠ .restore slot) }
                jobs := s.jobs.map fun o => o.map fun j => { j with deferred := false }
                port := { s.port with departed := s.port.departed || s.port.requestState = .blocked } }
            else if j.state = .quotaWait then
              { s with
                port := s.port.raises [.restoreState slot j.tag j.principal .quotaWait last j.charged j.moved] }
            else s
          let k : Job := { j with state := last, deferred := false }
          let closed : State := left.setJob slot (some k)
          ∃ t, exec i s = .next t ∧
            (t.arbiter.precedence = s.arbiter.precedence ∨ t.arbiter.precedence = 0) ∧
            (j.permits ≠ 0 →
              t.arbiter = { s.arbiter with precedence := t.arbiter.precedence } ∧
              Answers closed t a .done [] [] ∧ Unchanged [.arbiter, .port] closed t) ∧
            (j.permits = 0 → ∃ u, JobEnds closed u slot k ∧
              t.arbiter = { u.arbiter with precedence := t.arbiter.precedence } ∧
              Answers u t a .done [] [] ∧ Unchanged [.arbiter, .port] u t)))

/-- PERMIT DONE (R124): of an outstanding permit (R125, R126, with R117 and R139 for the last one), of an expired
one (R128), and of an id that names none. That the credit-back of a LATE answer raises the records of the credit
operation is the model's reading (log 45). -/
def Obligations.PermitDoneReturnsThePermit : Prop :=
  ∀ (s : State) (a id m : Nat), s.serves a (.permitDone id m) →
    let i : Instr := .permitDone id m
    let settled (u t : State) (code : ResultCode) : Prop :=
      t.arbiter = { u.arbiter with precedence := t.arbiter.precedence } ∧
      (t.arbiter.precedence = s.arbiter.precedence ∨ t.arbiter.precedence = 0) ∧
      Answers u t a code [] [] ∧ Unchanged [.arbiter, .port] u t
    let credited (u : State) (principal c m : Nat) : State :=
      if m < c then u.credit principal (c - m) .restore else u
    (∀ p, (s.arbiter.permits.find? fun q => q.id == id) = some p →
      let code : ResultCode := if p.chunk < m then .clamped else .done
      let m := min m p.chunk
      let left : State := { s with arbiter := { s.arbiter with
        permits := (s.arbiter.permits.filter fun q => q.id ≠ id) } }
      (∀ slot principal j, p.owner = .job slot principal →
        (credited left principal p.chunk m).job slot = some j →
        let u := credited left principal p.chunk m
        let k := { j with
          charged := j.charged - (p.chunk - m)
          moved := j.moved + m
          permits := j.permits - 1 }
        ∃ t, exec i s = .next t ∧
          (¬ (j.state.closing = true ∧ j.permits ≤ 1) → settled (u.setJob slot (some k)) t code) ∧
          (j.state.closing = true → j.permits ≤ 1 →
            ∃ w, JobEnds (u.setJob slot (some k)) w slot k ∧ settled w t code)) ∧
      ∀ v g n, p.owner = .night v g → (s.volume v).night = some n →
        let k := { n with
          remaining := n.remaining - m
          permits := n.permits - 1 }
        let u := left.setVolume v { s.volume v with night := some k }
        ∃ t, exec i s = .next t ∧
          (¬ (n.state.closing = true ∧ n.permits ≤ 1) → settled u t code) ∧
          (n.state.closing = true → n.permits ≤ 1 → ∃ w, NightEnds u w v k ∧ settled w t code)) ∧
    ((∀ p ∈ s.arbiter.permits, p.id ≠ id) →
      (∀ e, (s.arbiter.expired.find? fun q => q.id == id) = some e →
        let m := min m e.chunk
        let left : State := { s with arbiter := { s.arbiter with
          expired := (s.arbiter.expired.filter fun q => q.id ≠ id) } }
        (∀ slot principal j, e.owner = .job slot principal →
          (credited left principal e.chunk m).job slot = some j → ∃ t, exec i s = .next t ∧
            settled ((credited left principal e.chunk m).setJob slot (some
              { j with charged := j.charged - (e.chunk - m), moved := j.moved + m })) t .late) ∧
        (∀ principal, e.owner = .formerJob principal → ∃ t, exec i s = .next t ∧
          (s.principal principal = none → settled left t .late) ∧
          settled (credited left principal e.chunk m) t .late) ∧
        ∀ v g, e.owner = .night v g → ∃ t, exec i s = .next t ∧
          ((∀ n, (s.volume v).night = some n → n.generation ≠ g) → settled left t .late) ∧
          ∀ n, (s.volume v).night = some n → n.generation = g →
            settled (left.setVolume v { s.volume v with
              night := some { n with remaining := n.remaining - m } }) t .late) ∧
      ((∀ e ∈ s.arbiter.expired, e.id ≠ id) → Refuses i s a .noPermit))

/-- A choice of the arbiter: whether there is one and for which side (R120), the waiting job or volume that it
takes (R121, R122), what becomes of a restore chunk by its evaluation (R121, R40, R41), which EvaluationOfACharge
describes, and the permit id (R123). A grant that inserted a deadline entry ends with the expiry test (R157), which
ExpiryRunAndClockSet describes. -/
def Obligations.ArbiterChoosesASide : Prop :=
  (∀ s : State, (s.config.readSlots ≤ s.slotsInUse ∨ (s.restoreWaiting = false ∧ s.duplicationReady = false)) →
    exec .arbiterChoice s = .next s) ∧
  (∀ s : State, s.slotsInUse < s.config.readSlots → s.duplicationReady = true →
    (s.restoreWaiting = false ∨ s.config.restoreWeight ≤ s.arbiter.precedence) →
    ∃ t v n, exec .arbiterChoice s = .next t ∧
      FirstFrom 16 (s.arbiter.volumePointer + 1) v (fun w => (s.volume w).duplicable = true) ∧
      (s.volume v).night = some n ∧ n.state = .sending ∧ 0 < n.remaining ∧
      t.arbiter = { s.arbiter with
        permits := s.arbiter.permits ++
          [{ id := s.arbiter.chooseId, owner := .night v n.generation, chunk := s.config.chunk, age := 0 }]
        nextId := (s.arbiter.chooseId + 1) % 256
        volumePointer := v
        precedence := 0 } ∧
      t.volume v = { s.volume v with night := some { n with permits := n.permits + 1 } } ∧
      (∀ w, w ≠ v → t.volume w = s.volume w) ∧
      t.dup = { s.dup with tokens := s.dup.tokens - s.config.chunk } ∧
      t.port = s.port.raises
        [.permitIssued s.arbiter.chooseId s.config.chunk (.duplicate v n.generation)] ∧
      Unchanged [.arbiter, .volumes, .dup, .port] s t) ∧
  (∀ s : State, s.slotsInUse < s.config.readSlots → s.restoreWaiting = true →
    (s.duplicationReady = false ∨ s.arbiter.precedence < s.config.restoreWeight) →
    ∃ t slot j, exec .arbiterChoice s = .next (t.insertionTest s) ∧
      FirstFrom 8 (s.arbiter.restorePointer + 1) slot (fun k => ∃ j, s.job k = some j ∧ j.waiting = true) ∧
      s.job slot = some j ∧ (∀ k, k ≠ slot → t.job k = s.job k) ∧
      let verdict := s.evaluateChunk j.principal s.config.chunk
      let room := decide (s.quota.held.length < 32)
      let after (k : Job) : Prop := t.job slot = some k
      let pointed (extra : List Permit) (next : Nat) : Prop :=
        t.arbiter = { s.arbiter with
          permits := s.arbiter.permits ++ extra
          nextId := next
          restorePointer := slot
          precedence :=
            if s.duplicationReady = false ∨ t.restoreWaiting = false then 0
            else if verdict = .granted ∨ (verdict = .held ∧ room = true) then s.arbiter.precedence + 1
            else s.arbiter.precedence }
      (verdict = .granted →
        let g := s.grant j.principal s.config.chunk .restore
        after { j with state := .running, charged := j.charged + s.config.chunk, permits := j.permits + 1 } ∧
        pointed [{ id := s.arbiter.chooseId, owner := .job slot j.principal, chunk := s.config.chunk, age := 0 }]
          ((s.arbiter.chooseId + 1) % 256) ∧
        t.port = g.port.raises
          [.permitIssued s.arbiter.chooseId s.config.chunk (.restore slot j.tag j.volume j.generation)] ∧
        Unchanged [.jobs, .arbiter, .port] g t) ∧
      (verdict = .held → room = true →
        after { j with state := .syncWait } ∧ pointed [] s.arbiter.nextId ∧
        t.quota = { s.quota with held := s.quota.held ++
          [{ origin := .restore slot, principal := j.principal, amount := s.config.chunk, age := 0 }] } ∧
        t.notice = s.notice.queueUrgent j.principal ∧
        Unchanged [.jobs, .arbiter, .quota, .notice] s t) ∧
      (verdict = .held → room = false →
        after { j with deferred := true } ∧ pointed [] s.arbiter.nextId ∧ Unchanged [.jobs, .arbiter] s t) ∧
      (verdict ≠ .granted → verdict ≠ .held →
        after { j with state := .quotaWait } ∧ pointed [] s.arbiter.nextId ∧
        t.port = s.port.raises
          [.restoreState slot j.tag j.principal .running .quotaWait j.charged j.moved] ∧
        Unchanged [.jobs, .arbiter, .port] s t)) ∧
  ∀ a : Arbiter, a.nextId < 256 → a.permits.length + a.expired.length < 256 →
    FirstFrom 256 a.nextId a.chooseId (fun id =>
      (∀ p ∈ a.permits, p.id ≠ id) ∧ ∀ e ∈ a.expired, e.id ≠ id)

/-! ### Nights -/

/-- NIGHT OPEN (R133, R134, R103) and NIGHT RESUME (R136). Both insert a deadline entry, and end with the expiry test
(R157), which ExpiryRunAndClockSet describes. -/
def Obligations.NightOpenAndResume : Prop :=
  ∀ (s : State) (a v dawn : Nat),
    let x := s.volume v
    let state : NightState := if s.holdInForce = true then .paused else .sending
    (∀ g backlog, s.serves a (.nightOpen v g backlog dawn) →
      let i : Instr := .nightOpen v g backlog dawn
      (15 < v → Refuses i s a .badRequest) ∧
      (v ≤ 15 → x.declared = false → Refuses i s a .notDeclared) ∧
      (v ≤ 15 → x.declared = true →
        (x.offsite = false → Refuses i s a .offsiteOff) ∧
        (x.offsite = true →
          (x.night ≠ none → Refuses i s a .busy) ∧
          (x.night = none →
            (x.snapshot g = none → Refuses i s a .notFound) ∧
            ∀ r, x.snapshot g = some r →
              let notNewer := r.status ≠ .localOnly ∨ ∃ b, x.base = some b ∧ g ≤ b
              (notNewer → Refuses i s a .notNewer) ∧
              (¬ notNewer →
                (r.retirePending = true → Refuses i s a .retiring) ∧
                (r.retirePending = false →
                  (dawn ≤ s.clock.minute → Refuses i s a .tooLate) ∧
                  (s.clock.minute < dawn → ∃ t, exec i s = .next (t.insertionTest s) ∧
                    t.volume v = { x with
                      snapshots := (x.snapshots.map fun y =>
                        if y.generation = g then { y with status := .sending, holds := y.holds + 1 } else y)
                      night := some { state := state, generation := g, remaining := backlog, dawn := dawn,
                                      permits := 0 } } ∧
                    (∀ w, w ≠ v → t.volume w = s.volume w) ∧
                    t.deadlines = insertDeadline ⟨.dawn v, dawn⟩ s.deadlines ∧
                    Answers s t a .done [] [] ∧ Unchanged [.volumes, .deadlines, .port] s t))))))) ∧
    (s.serves a (.nightResume v dawn) →
      let i : Instr := .nightResume v dawn
      (15 < v → Refuses i s a .badRequest) ∧
      (v ≤ 15 → x.declared = false → Refuses i s a .notDeclared) ∧
      (v ≤ 15 → x.declared = true →
        ((∀ n, x.night = some n → n.state ≠ .suspended) → Refuses i s a .busy) ∧
        ∀ n, x.night = some n → n.state = .suspended →
          (dawn ≤ s.clock.minute → Refuses i s a .tooLate) ∧
          (s.clock.minute < dawn → ∃ t, exec i s = .next (t.insertionTest s) ∧
            t.volume v = { x with night := some { n with state := state, dawn := dawn } } ∧
            (∀ w, w ≠ v → t.volume w = s.volume w) ∧
            t.deadlines = insertDeadline ⟨.dawn v, dawn⟩ s.deadlines ∧
            Answers s t a .done [] [] ∧ Unchanged [.volumes, .deadlines, .port] s t)))

/-- NIGHT DONE and NIGHT ABANDON (R137, R138), with the end of a night that has no permit outstanding (R139,
R104). -/
def Obligations.NightDoneAndAbandonCloseTheNight : Prop :=
  ∀ (s : State) (a v : Nat) (abandon : Bool),
    let i : Instr := if abandon = true then .nightAbandon v else .nightDone v
    let r : Request := if abandon = true then .nightAbandon v else .nightDone v
    let last : NightState := if abandon = true then .abandoning else .finishing
    let x := s.volume v
    s.serves a r →
    (15 < v → Refuses i s a .badRequest) ∧
    (v ≤ 15 → x.declared = false → Refuses i s a .notDeclared) ∧
    (v ≤ 15 → x.declared = true →
      (x.night = none → Refuses i s a .notFound) ∧
      ∀ n, x.night = some n →
        ((n.state = .abandoning ∨ (n.state = .finishing ∧ abandon = false)) → Refuses i s a .busy) ∧
        (¬ (n.state = .abandoning ∨ (n.state = .finishing ∧ abandon = false)) →
          let m : Night := { n with state := last }
          let closed : State := { s.setVolume v { x with night := some m } with
            deadlines := if n.state = .sending ∨ n.state = .paused then
                (s.deadlines.filter fun d => d.object ≠ .dawn v) else s.deadlines }
          ∃ t, exec i s = .next t ∧
            t.arbiter = { s.arbiter with precedence := t.arbiter.precedence } ∧
            (t.arbiter.precedence = s.arbiter.precedence ∨ t.arbiter.precedence = 0) ∧
            (n.permits ≠ 0 → Answers closed t a .done [] [] ∧ Unchanged [.arbiter, .port] closed t) ∧
            (n.permits = 0 → ∃ u, NightEnds closed u v m ∧
              Answers u t a .done [] [] ∧ Unchanged [.arbiter, .port] u t)))

/-! ### The host request port -/

/-- A fetch of the request ring (R163, R160, R179): a PART-owned descriptor that awaits no answer is taken, and
any other repeats the fetch when a poll is pending and suspends the process when none is. The repeat is the next
fetch step (the model's choice, log 37), and an address past the top of the address space runs on as a number (log
51). -/
def Obligations.RequestFetchTakesDescriptor : Prop :=
  ∀ (s : State) (bytes : List Byte), s.port.requestState = .running → s.port.phase = .idle →
    let address := s.port.requestRing.base.toNat + 64 * s.port.requestRing.position
    let awaits := (∃ e ∈ s.quota.held, e.origin = .charge address) ∨
      ∃ x ∈ s.port.heldAnswers, x.address = address
    let i : Instr := .requestDescriptorFetch bytes
    (bytes.head? = some 0x01#8 → ¬ awaits →
      (∀ r, decodeRequest bytes = some r → ∃ t, exec i s = .next t ∧
        t.port = { s.port with
          phase := .executing address r
          request := { s.port.request with poll := false } } ∧ Unchanged [.port] s t) ∧
      (decodeRequest bytes = none → ∃ t, exec i s = .next t ∧
        t.port = { s.port with
          phase := .returning address ⟨.badRequest, false, []⟩
          request := { s.port.request with poll := false } } ∧ Unchanged [.port] s t)) ∧
    ((bytes.head? ≠ some 0x01#8 ∨ awaits) →
      (s.port.request.poll = true → ∃ t, exec i s = .next t ∧
        t.port = { s.port with request := { s.port.request with poll := false } } ∧ Unchanged [.port] s t) ∧
      (s.port.request.poll = false → ∃ t, exec i s = .next t ∧
        t.port = Port.setFlag
          { s.port with
            requestState := .suspended
            request := { s.port.request with
              poll := false
              waitInterval := s.port.autoPoll
              waitTicks := 0 } } .requestSuspended ∧ Unchanged [.port] s t))

/-- The completion of a request's writeback and of a held answer's (R161, R163, R160, R162, R168). That held
answers complete in order is the model's choice (log 13). -/
def Obligations.WritebackDoneReturnsTheDescriptor : Prop :=
  (∀ (s : State) (a : Nat) (answer : Answer), s.port.requestState = .running →
    s.port.phase = .returning a answer → ∃ t, exec (.requestWritebackDone false) s = .next t ∧
      t.port = Port.setFlag
        { s.port with
          phase := .idle
          requestRing := { s.port.requestRing with
            position := if s.port.requestRing.size ≤ s.port.requestRing.position + 1 then 0
              else s.port.requestRing.position + 1 }
          requestState := if s.port.request.stopRecorded = true then .stopped else .running
          request := { s.port.request with stopRecorded := false }
          written := [⟨a + 2, answer.bytes⟩, ⟨a, [0x00#8]⟩] } .requestDone ∧
      Unchanged [.port] s t) ∧
  (∀ (s : State) (x : HeldAnswer) (rest : List HeldAnswer), s.port.heldAnswers = x :: rest →
    ∃ t, exec (.requestWritebackDone true) s = .next t ∧
      t.port = Port.setFlag
        { s.port with
          heldAnswers := rest
          written := [⟨x.address + 2, x.answer.bytes⟩, ⟨x.address, [0x00#8]⟩] } .requestDone ∧
      Unchanged [.port] s t) ∧
  ∀ x : Answer, x.bytes.length = 62 ∧ x.bytes.head? = some (BitVec.ofNat 8 x.code.code) ∧
    x.bytes[1]? = some (if x.held = true then 0x01#8 else 0x00#8)

/-- The event process: the fetch of the descriptor for the head record, and of the next one for RESTORE DONE, and
the completion of the post (R161, R165, R166, R178). That a pending poll clears its marker and leaves the repeated
fetch to the next fetch command is the model's choice (log 37), and so is an address past the top of the address space
(log 51). -/
def Obligations.EventRecordsArePosted : Prop :=
  (∀ (s : State) (own next : Byte) (e : EventRecord) (rest : List EventRecord),
    s.port.eventState = .running → s.port.posting = none → s.port.events = e :: rest →
    let ring := s.port.eventRing
    let at_ (position : Nat) := ring.base.toNat + 32 * position
    let second := if ring.size ≤ ring.position + 1 then 0 else ring.position + 1
    let part := own = 0x01#8 ∧ (e.parts.length = 2 → next = 0x01#8)
    (part → ∃ t w, exec (.eventDescriptorFetch own next) s = .next t ∧
      t.port = { s.port with
        posting := some w
        event := { s.port.event with poll := false } } ∧
      (∀ values, e.parts = [values] →
        w = [⟨at_ ring.position + 1, eventBytes e.kindCode 0 values⟩, ⟨at_ ring.position, [0x00#8]⟩]) ∧
      (∀ one two, e.parts = [one, two] →
        w = [⟨at_ second + 1, eventBytes e.kindCode 2 two⟩, ⟨at_ second, [0x00#8]⟩,
             ⟨at_ ring.position + 1, eventBytes e.kindCode 1 one⟩, ⟨at_ ring.position, [0x00#8]⟩]) ∧
      Unchanged [.port] s t) ∧
    (¬ part → s.port.event.poll = true → ∃ t, exec (.eventDescriptorFetch own next) s = .next t ∧
      t.port = { s.port with event := { s.port.event with poll := false } } ∧ Unchanged [.port] s t) ∧
    (¬ part → s.port.event.poll = false → ∃ t, exec (.eventDescriptorFetch own next) s = .next t ∧
      t.port = Port.setFlag
        { s.port with
          eventState := .stalled
          event := { s.port.event with
            poll := false
            waitInterval := s.port.autoPoll
            waitTicks := 0 } } .eventStalled ∧ Unchanged [.port] s t)) ∧
  (∀ (s : State) (w : List HostWrite) (e : EventRecord) (rest : List EventRecord),
    s.port.posting = some w → s.port.events = e :: rest → ∃ t, exec .eventPostDone s = .next t ∧
      t.port = Port.setFlag
        { s.port with
          posting := none
          events := rest
          written := w
          eventRing := if e.parts.length = 2 then s.port.eventRing.advance.advance
            else s.port.eventRing.advance
          eventState := if s.port.event.stopRecorded = true then .stopped else .running
          event := { s.port.event with stopRecorded := false } } .eventPosted ∧
      Unchanged [.port] s t) ∧
  ∀ e : EventRecord, (e.parts.length = 1 ∨ e.parts.length = 2) ∧
    (e.parts.length = 2 ↔ ∃ slot tag v g p c m x k, e = .restoreDone slot tag v g p c m x k) ∧
    ∀ values ∈ e.parts, ∀ n, (eventBytes e.kindCode n values).length = 31

/-- A link error on an access in progress puts both processes into FAULT, with PORT FAULT (R167, R164). That it
drops every access in flight is the model's choice (log 14), and so is the remembered departure (log 17). -/
def Obligations.LinkErrorFaultsBothProcesses : Prop :=
  ∀ (s : State) (access : HostAccess), s.accessing access = true → ∃ t, exec (.linkError access) s = .next t ∧
    t.port = Port.setFlag
      { s.port with
        requestState := .fault
        eventState := .fault
        phase := if s.port.requestState = .blocked then s.port.phase else .idle
        heldAnswers := []
        posting := none
        departed := false } .portFault ∧
    t.port.events = s.port.events ∧ Unchanged [.port] s t

/-- An auto-poll of a waiting process whose interval has passed (R163, R166, R178, R179): a PART-owned descriptor is
taken, or the head record is posted, and otherwise the process waits on. That REQUEST SUSPENDED or EVENT STALLED is
set again where it had been cleared is the model's reading (log 18); an address past the top of the address space is
its choice (log 51). -/
def Obligations.AutoPollFetchesAgain : Prop :=
  (∀ (s : State) (bytes : List Byte), s.port.requestState = .suspended → s.port.request.waitInterval ≠ 0 →
    s.port.request.waitInterval ≤ s.port.request.waitTicks →
    let address := s.port.requestRing.base.toNat + 64 * s.port.requestRing.position
    let awaits := (∃ e ∈ s.quota.held, e.origin = .charge address) ∨
      ∃ x ∈ s.port.heldAnswers, x.address = address
    (bytes.head? = some 0x01#8 → ¬ awaits →
      ∃ t, exec (.autoPoll (.request bytes)) s = .next t ∧
        t.port = { s.port with
          requestState := .running
          phase := match decodeRequest bytes with
            | some r => .executing address r
            | none => .returning address ⟨.badRequest, false, []⟩
          request := { s.port.request with poll := false } } ∧ Unchanged [.port] s t) ∧
    ((bytes.head? ≠ some 0x01#8 ∨ awaits) → ∃ t, exec (.autoPoll (.request bytes)) s = .next t ∧
      t.port = Port.setFlag
        { s.port with request := { s.port.request with waitTicks := 0 } } .requestSuspended ∧
      t.port.requestState = .suspended ∧
      (s.port.flagSet .requestSuspended = true → t.port.flags = s.port.flags ∧
        t.port.messages = s.port.messages) ∧ Unchanged [.port] s t)) ∧
  ∀ (s : State) (own next : Byte) (e : EventRecord) (rest : List EventRecord), s.port.eventState = .stalled →
    s.port.events = e :: rest → s.port.event.waitInterval ≠ 0 →
    s.port.event.waitInterval ≤ s.port.event.waitTicks →
    let ring := s.port.eventRing
    let at_ (position : Nat) := ring.base.toNat + 32 * position
    let second := if ring.size ≤ ring.position + 1 then 0 else ring.position + 1
    let part := own = 0x01#8 ∧ (e.parts.length = 2 → next = 0x01#8)
    (¬ part → ∃ t, exec (.autoPoll (.event own next)) s = .next t ∧
      t.port = Port.setFlag { s.port with event := { s.port.event with waitTicks := 0 } } .eventStalled ∧
      Unchanged [.port] s t) ∧
    (part → ∃ t w, exec (.autoPoll (.event own next)) s = .next t ∧
      t.port = { s.port with
        eventState := .running
        posting := some w
        event := { s.port.event with poll := false } } ∧
      (∀ values, e.parts = [values] →
        w = [⟨at_ ring.position + 1, eventBytes e.kindCode 0 values⟩, ⟨at_ ring.position, [0x00#8]⟩]) ∧
      (∀ one two, e.parts = [one, two] →
        w = [⟨at_ second + 1, eventBytes e.kindCode 2 two⟩, ⟨at_ second, [0x00#8]⟩,
             ⟨at_ ring.position + 1, eventBytes e.kindCode 1 one⟩, ⟨at_ ring.position, [0x00#8]⟩]) ∧
      Unchanged [.port] s t)

/-- Starts, stops and poll demands of both processes (R162, R163, R166, R182); a word with both the start and the stop
bit of a process leaves that process as it was, and of one with bit 7 set every other bit is ignored (R182). A
control word with several bits set is several commands, and a stop of a RUNNING process that has nothing in hand takes
effect at once (the model's choices, log 27, log 38). -/
def Obligations.StartsStopsAndPollDemands : Prop :=
  (∀ (s : State) (c : Word),
    (c.getLsbD 0 = true → c.getLsbD 1 = true →
      exec (.requestStart c) s = .next s ∧ exec (.requestStop c) s = .next s) ∧
    (c.getLsbD 2 = true → c.getLsbD 3 = true →
      exec (.eventStart c) s = .next s ∧ exec (.eventStop c) s = .next s) ∧
    (c.getLsbD 7 = true →
      exec (.requestStart c) s = .next s ∧ exec (.requestStop c) s = .next s ∧
      exec (.eventStart c) s = .next s ∧ exec (.eventStop c) s = .next s ∧ exec (.pollDemand c) s = .next s)) ∧
  (∀ (s : State) (c : Word), c.getLsbD 0 = true → c.getLsbD 1 = false → c.getLsbD 7 = false →
    (s.port.requestState ≠ .stopped → exec (.requestStart c) s = .next s) ∧
    (s.port.requestState = .stopped → ∃ t, exec (.requestStart c) s = .next t ∧
      t.port =
        (if s.peers.station = .configuring then
          { s.port with request := { s.port.request with startRecorded := true } }
        else if s.port.requestRing.size = 0 then s.port else { s.port with requestState := .running }) ∧
      Unchanged [.port] s t)) ∧
  (∀ (s : State) (c : Word), c.getLsbD 2 = true → c.getLsbD 3 = false → c.getLsbD 7 = false →
    (s.port.eventState ≠ .stopped → exec (.eventStart c) s = .next s) ∧
    (s.port.eventState = .stopped → ∃ t, exec (.eventStart c) s = .next t ∧
      t.port =
        (if s.peers.station = .configuring then
          { s.port with event := { s.port.event with startRecorded := true } }
        else if s.port.eventRing.size = 0 then s.port else { s.port with eventState := .running }) ∧
      Unchanged [.port] s t)) ∧
  (∀ (s : State) (c : Word), c.getLsbD 1 = true → c.getLsbD 0 = false → c.getLsbD 7 = false →
    ∃ t, exec (.requestStop c) s = .next t ∧
      t.port =
        (match s.port.requestState with
        | .running =>
          if s.port.phase = .idle then { s.port with requestState := .stopped }
          else { s.port with request := { s.port.request with stopRecorded := true } }
        | .suspended => { s.port with requestState := .stopped }
        | .blocked => { s.port with request := { s.port.request with stopRecorded := true } }
        | .stopped | .fault => s.port) ∧
      Unchanged [.port] s t) ∧
  (∀ (s : State) (c : Word), c.getLsbD 3 = true → c.getLsbD 2 = false → c.getLsbD 7 = false →
    ∃ t, exec (.eventStop c) s = .next t ∧
      t.port =
        (match s.port.eventState with
        | .running =>
          if s.port.posting = none then { s.port with eventState := .stopped }
          else { s.port with event := { s.port.event with stopRecorded := true } }
        | .stalled => { s.port with eventState := .stopped }
        | .stopped | .fault => s.port) ∧
      Unchanged [.port] s t) ∧
  ∀ (s : State) (c : Word), c.getLsbD 4 = true → c.getLsbD 7 = false →
    ∃ t, exec (.pollDemand c) s = .next t ∧
      t.port = { s.port with
        requestState :=
          if ¬ (c.getLsbD 0 = true ∧ c.getLsbD 1 = true) ∧ s.port.requestState = .suspended then .running
          else s.port.requestState
        eventState :=
          if ¬ (c.getLsbD 2 = true ∧ c.getLsbD 3 = true) ∧ s.port.eventState = .stalled then .running
          else s.port.eventState
        request := { s.port.request with
          poll := s.port.request.poll ||
            decide (¬ (c.getLsbD 0 = true ∧ c.getLsbD 1 = true) ∧ s.port.requestState = .running) }
        event := { s.port.event with
          poll := s.port.event.poll ||
            decide (¬ (c.getLsbD 2 = true ∧ c.getLsbD 3 = true) ∧ s.port.eventState = .running) } } ∧
      Unchanged [.port] s t

/-- PORT RESET (R169, R170, R38, R30): the port's own state, the CHARGE entries of the held list, and with them a
departure; every other block goes on. That a request fetched and not yet executed is dropped is the model's choice
(log 46). -/
def Obligations.PortResetActsOnThePortAlone : Prop :=
  ∀ (s : State) (c : Word), c.getLsbD 7 = true → ∃ t, exec (.portReset c) s = .next t ∧
    t.port.requestState = .stopped ∧ t.port.eventState = .stopped ∧
    t.port.requestRing = { s.port.requestRing with position := 0 } ∧
    t.port.eventRing = { s.port.eventRing with position := 0 } ∧
    t.port.request.poll = false ∧ t.port.request.startRecorded = false ∧ t.port.request.stopRecorded = false ∧
    t.port.event.poll = false ∧ t.port.event.startRecorded = false ∧ t.port.event.stopRecorded = false ∧
    t.port.phase = .idle ∧ t.port.heldAnswers = [] ∧ t.port.posting = none ∧ t.port.events = [] ∧
    t.port.flags = 0x00#6 ∧ t.port.mask = s.port.mask ∧ t.port.autoPoll = s.port.autoPoll ∧
    t.port.messages = s.port.messages ∧
    t.quota = { s.quota with held := (s.quota.held.filter fun e => match e.origin with
      | .charge _ => false
      | .restore _ => true) } ∧
    ((∃ e ∈ s.quota.held, ∃ a, e.origin = .charge a) →
      ∀ k < 8, t.job k = (s.job k).map fun j => { j with deferred := false }) ∧
    ((¬ ∃ e ∈ s.quota.held, ∃ a, e.origin = .charge a) → t.jobs = s.jobs) ∧
    Unchanged [.port, .quota, .jobs] s t

/-- Writes of a ring's base and size (R160), taken only while its process is STOPPED. A size of 0 is stored as 0,
and a position that a smaller size leaves beyond its end becomes an open place below it (the model's choices,
log 28, log 8). -/
def Obligations.RingWritesWhileStopped : Prop :=
  ∀ (s : State) (ring : Ring) (high : Bool) (value : Word),
    let stopped := match ring with
      | .request => s.port.requestState = .stopped
      | .event => s.port.eventState = .stopped
    let regs (p : Port) := match ring with
      | .request => p.requestRing
      | .event => p.eventRing
    let other (p : Port) := match ring with
      | .request => { p with requestRing := {} }
      | .event => { p with eventRing := {} }
    let align := match ring with
      | .request => 64
      | .event => 32
    (¬ stopped → exec (.ringBaseWrite ring high value) s = .next s ∧
      exec (.ringSizeWrite ring value) s = .next s) ∧
    (stopped → ∃ t, exec (.ringBaseWrite ring high value) s = .next t ∧
      (regs t.port).base.toNat =
        (let low := if high = true then (regs s.port).base.toNat % 2 ^ 32 else value.toNat
         let top := if high = true then value.toNat else (regs s.port).base.toNat / 2 ^ 32
         (top * 2 ^ 32 + low) / align * align) ∧
      (regs t.port).size = (regs s.port).size ∧ (regs t.port).position = 0 ∧
      other t.port = other s.port ∧ Unchanged [.port] s t) ∧
    (stopped → ∃ t, exec (.ringSizeWrite ring value) s = .next t ∧
      (regs t.port).base = (regs s.port).base ∧
      (regs t.port).size =
        (if value.toNat = 0 then 0 else if value.toNat < 16 then 16
        else if 4096 < value.toNat then 4096 else value.toNat) ∧
      ((regs s.port).position < (regs t.port).size ∨ (regs t.port).size = 0 →
        (regs t.port).position = (regs s.port).position) ∧
      ((regs t.port).size ≠ 0 → (regs t.port).position < (regs t.port).size) ∧
      other t.port = other s.port ∧ Unchanged [.port] s t)

/-- The event summary flags (R168): a cause sets its flag and sends one message when the flag was clear and
unmasked, writing 1 clears, and a mask write sends nothing; with the auto-poll interval (R163) and a write that is
ignored: one of fewer than 4 bytes, or to a register that takes none (R182), and a 32-bit write that is not aligned,
which is the model's choice (log 47). -/
def Obligations.FlagsMaskAndOtherWrites : Prop :=
  (∀ (p : Port) (f : Flag), (p.setFlag f).flagSet f = true ∧
    (∀ g, g ≠ f → (p.setFlag f).flagSet g = p.flagSet g) ∧
    (p.flagSet f = false → p.flagMasked f = false → (p.setFlag f).messages = p.messages + 1) ∧
    (p.flagSet f = true ∨ p.flagMasked f = true → (p.setFlag f).messages = p.messages) ∧
    { p.setFlag f with flags := p.flags, messages := p.messages } = p) ∧
  (∀ (s : State) (value : Word), ∃ t, exec (.flagsClear value) s = .next t ∧
    (∀ f, t.port.flagSet f = (s.port.flagSet f && !value.getLsbD f.index)) ∧
    { t.port with flags := s.port.flags } = s.port ∧ Unchanged [.port] s t) ∧
  (∀ (s : State) (value : Word), ∃ t, exec (.maskWrite value) s = .next t ∧
    (∀ f, t.port.flagMasked f = value.getLsbD f.index) ∧
    { t.port with mask := s.port.mask } = s.port ∧ Unchanged [.port] s t) ∧
  (∀ (s : State) (value : Word), ∃ t, exec (.autoPollIntervalWrite value) s = .next t ∧
    t.port = { s.port with autoPoll := value.toNat % 256 } ∧ Unchanged [.port] s t) ∧
  (∀ (s : State) (offset width : Nat) (value : Word), (Instr.otherRegisterWrite offset width value).wellFormed = true →
    exec (.otherRegisterWrite offset width value) s = .next s) ∧
  ∀ (p : Port) (e : EventRecord),
    (p.events.length < 128 → p.raise e = { p with events := p.events ++ [e] }) ∧
    (128 ≤ p.events.length → p.raise e = p.setFlag .eventOverflow)

/-! ### Formats -/

/-- A frame that a station can build reads back as that frame (R180, R54): its check is good, its length is 16 to
248 bytes, and every field of it is allowed. -/
def Obligations.FramesParseBack : Prop :=
  ∀ f : Frame, f.legal → parseFrame f.bytes = some f ∧ 16 ≤ f.bytes.length ∧ f.bytes.length ≤ 248

/-- The descriptor in which a host writes a request is 64 bytes and reads back as that request (R177, R179). -/
def Obligations.RequestsDecodeBack : Prop :=
  ∀ r : Request, r.wellFormed = true →
    (requestDescriptor r).length = 64 ∧ (requestDescriptor r).head? = some 0x01#8 ∧
    decodeRequest (requestDescriptor r) = some r

/-! ### What every step keeps -/

/-- The state after reset obeys every law below. -/
def Obligations.LawsHoldAtReset : Prop :=
  let s := State.reset
  Capacities s ∧ LoaderLaw s ∧ RingLaw s ∧ ClockLaw s ∧ QuotaTables s ∧ PrincipalRanges s ∧ NoticeQueueLaw s ∧
  TransmitterLaw s ∧ HeldLaw s ∧ DeadlineLaw s ∧ CatalogueLaw s ∧ ReadSlotLaw s ∧ PrecedenceLaw s ∧ TokenLaw s

/-- Every step keeps the capacities (R28, R50, R55, R99, R128, R165), the ranges of the configuration (R173), the
legality of both rings (R160), a post in progress only of a RUNNING event process (R166), and the ranges of the clock
(R152). -/
def Obligations.StepKeepsCapacitiesAndRanges : Prop :=
  ∀ s t : State, (∀ i ∈ s.pending, i.wellFormed = true) → step s = .next t →
    (Capacities s → Capacities t) ∧ (LoaderLaw s → LoaderLaw t) ∧ (RingLaw s → RingLaw t) ∧
    (ClockLaw s → ClockLaw t)

/-- Every step keeps the principal table and the contribution map in their order, with every remote sum the sum of
its entries (R1, R4), and every field of a record in its range (R2). -/
def Obligations.StepKeepsQuotaTablesAndRanges : Prop :=
  ∀ s t : State, (∀ i ∈ s.pending, i.wellFormed = true) → step s = .next t →
    (QuotaTables s → QuotaTables t) ∧ (PrincipalRanges s → PrincipalRanges t)

/-- Every step keeps the law of the notice queue and frame record (R81, R84), that of the transmitter (chapter 3),
and that every principal with a held entry is URGENT or carried, unless frozen (R28). -/
def Obligations.StepKeepsNoticeTransmitterAndHeldLaws : Prop :=
  ∀ s t : State, (∀ i ∈ s.pending, i.wellFormed = true) → step s = .next t →
    (NoticeQueueLaw s → NoticeQueueLaw t) ∧ (TransmitterLaw s → TransmitterLaw t) ∧ (HeldLaw s → HeldLaw t)

/-- Every step keeps the deadline list in order, with an entry for exactly the running graces and the nights
SENDING or PAUSED (R154, R155). -/
def Obligations.StepKeepsDeadlineLaw : Prop :=
  ∀ s t : State, (∀ i ∈ s.pending, i.wellFormed = true) → step s = .next t → DeadlineLaw s → DeadlineLaw t

/-- Every step keeps the laws of the catalogue: the order of the lists and the base (R99), the hold counts and
RETIRE-PENDING (R101), and the SENDING snapshot of a night (R103). -/
def Obligations.StepKeepsCatalogueLaw : Prop :=
  ∀ s t : State, (∀ i ∈ s.pending, i.wellFormed = true) → step s = .next t → CatalogueLaw s → CatalogueLaw t

/-- Every step keeps the law of the read slots, permits and jobs (R111, R119, R123, R125, R128), the bound on the
tokens (R146), and the law of the precedence count (R120). -/
def Obligations.StepKeepsReadSlotsTokensAndPrecedence : Prop :=
  ∀ s t : State, (∀ i ∈ s.pending, i.wellFormed = true) → step s = .next t → ReadSlotLaw s →
    ReadSlotLaw t ∧ (TokenLaw s → TokenLaw t) ∧ (PrecedenceLaw s → PrecedenceLaw t)
end

