-- ==== Sys2Proof/Laws/State.lean ====
section
/-! SUPPORT. What each named update of the state leaves alone, field by field and through the readers of Ops.lean,
and what it writes: one simp lemma each, true by unfolding the update once. -/

namespace Sys2Proof.Machine

/-! ### State.setFlag -/

@[simp] theorem State.setFlag_straps (s : State) (f : Flag) : (s.setFlag f).straps = s.straps := rfl
@[simp] theorem State.setFlag_pins (s : State) (f : Flag) : (s.setFlag f).pins = s.pins := rfl
@[simp] theorem State.setFlag_loader (s : State) (f : Flag) : (s.setFlag f).loader = s.loader := rfl
@[simp] theorem State.setFlag_clock (s : State) (f : Flag) : (s.setFlag f).clock = s.clock := rfl
@[simp] theorem State.setFlag_deadlines (s : State) (f : Flag) : (s.setFlag f).deadlines = s.deadlines := rfl
@[simp] theorem State.setFlag_quota (s : State) (f : Flag) : (s.setFlag f).quota = s.quota := rfl
@[simp] theorem State.setFlag_notice (s : State) (f : Flag) : (s.setFlag f).notice = s.notice := rfl
@[simp] theorem State.setFlag_bus (s : State) (f : Flag) : (s.setFlag f).bus = s.bus := rfl
@[simp] theorem State.setFlag_peers (s : State) (f : Flag) : (s.setFlag f).peers = s.peers := rfl
@[simp] theorem State.setFlag_volumes (s : State) (f : Flag) : (s.setFlag f).volumes = s.volumes := rfl
@[simp] theorem State.setFlag_jobs (s : State) (f : Flag) : (s.setFlag f).jobs = s.jobs := rfl
@[simp] theorem State.setFlag_arbiter (s : State) (f : Flag) : (s.setFlag f).arbiter = s.arbiter := rfl
@[simp] theorem State.setFlag_dup (s : State) (f : Flag) : (s.setFlag f).dup = s.dup := rfl
@[simp] theorem State.setFlag_pending (s : State) (f : Flag) : (s.setFlag f).pending = s.pending := rfl
@[simp] theorem State.setFlag_config (s : State) (f : Flag) : (s.setFlag f).config = s.config := rfl
@[simp] theorem State.setFlag_peer (s : State) (f : Flag) (k' : Nat) : (s.setFlag f).peer k' = s.peer k' := rfl
@[simp] theorem State.setFlag_volume (s : State) (f : Flag) (v' : Nat) : (s.setFlag f).volume v' = s.volume v' := rfl
@[simp] theorem State.setFlag_job (s : State) (f : Flag) (i' : Nat) : (s.setFlag f).job i' = s.job i' := rfl
@[simp] theorem State.setFlag_principal (s : State) (f : Flag) (x' : Nat) : (s.setFlag f).principal x' = s.principal x' := rfl
@[simp] theorem State.setFlag_inFrame (s : State) (f : Flag) (x' : Nat) : (s.setFlag f).inFrame x' = s.inFrame x' := rfl
@[simp] theorem State.setFlag_holdInForce (s : State) (f : Flag) : (s.setFlag f).holdInForce = s.holdInForce := rfl

/-! ### State.raise -/

@[simp] theorem State.raise_straps (s : State) (e : EventRecord) : (s.raise e).straps = s.straps := rfl
@[simp] theorem State.raise_pins (s : State) (e : EventRecord) : (s.raise e).pins = s.pins := rfl
@[simp] theorem State.raise_loader (s : State) (e : EventRecord) : (s.raise e).loader = s.loader := rfl
@[simp] theorem State.raise_clock (s : State) (e : EventRecord) : (s.raise e).clock = s.clock := rfl
@[simp] theorem State.raise_deadlines (s : State) (e : EventRecord) : (s.raise e).deadlines = s.deadlines := rfl
@[simp] theorem State.raise_quota (s : State) (e : EventRecord) : (s.raise e).quota = s.quota := rfl
@[simp] theorem State.raise_notice (s : State) (e : EventRecord) : (s.raise e).notice = s.notice := rfl
@[simp] theorem State.raise_bus (s : State) (e : EventRecord) : (s.raise e).bus = s.bus := rfl
@[simp] theorem State.raise_peers (s : State) (e : EventRecord) : (s.raise e).peers = s.peers := rfl
@[simp] theorem State.raise_volumes (s : State) (e : EventRecord) : (s.raise e).volumes = s.volumes := rfl
@[simp] theorem State.raise_jobs (s : State) (e : EventRecord) : (s.raise e).jobs = s.jobs := rfl
@[simp] theorem State.raise_arbiter (s : State) (e : EventRecord) : (s.raise e).arbiter = s.arbiter := rfl
@[simp] theorem State.raise_dup (s : State) (e : EventRecord) : (s.raise e).dup = s.dup := rfl
@[simp] theorem State.raise_pending (s : State) (e : EventRecord) : (s.raise e).pending = s.pending := rfl
@[simp] theorem State.raise_config (s : State) (e : EventRecord) : (s.raise e).config = s.config := rfl
@[simp] theorem State.raise_peer (s : State) (e : EventRecord) (k' : Nat) : (s.raise e).peer k' = s.peer k' := rfl
@[simp] theorem State.raise_volume (s : State) (e : EventRecord) (v' : Nat) : (s.raise e).volume v' = s.volume v' := rfl
@[simp] theorem State.raise_job (s : State) (e : EventRecord) (i' : Nat) : (s.raise e).job i' = s.job i' := rfl
@[simp] theorem State.raise_principal (s : State) (e : EventRecord) (x' : Nat) : (s.raise e).principal x' = s.principal x' := rfl
@[simp] theorem State.raise_inFrame (s : State) (e : EventRecord) (x' : Nat) : (s.raise e).inFrame x' = s.inFrame x' := rfl
@[simp] theorem State.raise_holdInForce (s : State) (e : EventRecord) : (s.raise e).holdInForce = s.holdInForce := rfl

/-! ### State.setPeer -/

@[simp] theorem State.setPeer_straps (s : State) (k : Nat) (p : Peer) : (s.setPeer k p).straps = s.straps := rfl
@[simp] theorem State.setPeer_pins (s : State) (k : Nat) (p : Peer) : (s.setPeer k p).pins = s.pins := rfl
@[simp] theorem State.setPeer_loader (s : State) (k : Nat) (p : Peer) : (s.setPeer k p).loader = s.loader := rfl
@[simp] theorem State.setPeer_clock (s : State) (k : Nat) (p : Peer) : (s.setPeer k p).clock = s.clock := rfl
@[simp] theorem State.setPeer_deadlines (s : State) (k : Nat) (p : Peer) : (s.setPeer k p).deadlines = s.deadlines := rfl
@[simp] theorem State.setPeer_quota (s : State) (k : Nat) (p : Peer) : (s.setPeer k p).quota = s.quota := rfl
@[simp] theorem State.setPeer_notice (s : State) (k : Nat) (p : Peer) : (s.setPeer k p).notice = s.notice := rfl
@[simp] theorem State.setPeer_bus (s : State) (k : Nat) (p : Peer) : (s.setPeer k p).bus = s.bus := rfl
@[simp] theorem State.setPeer_volumes (s : State) (k : Nat) (p : Peer) : (s.setPeer k p).volumes = s.volumes := rfl
@[simp] theorem State.setPeer_jobs (s : State) (k : Nat) (p : Peer) : (s.setPeer k p).jobs = s.jobs := rfl
@[simp] theorem State.setPeer_arbiter (s : State) (k : Nat) (p : Peer) : (s.setPeer k p).arbiter = s.arbiter := rfl
@[simp] theorem State.setPeer_dup (s : State) (k : Nat) (p : Peer) : (s.setPeer k p).dup = s.dup := rfl
@[simp] theorem State.setPeer_port (s : State) (k : Nat) (p : Peer) : (s.setPeer k p).port = s.port := rfl
@[simp] theorem State.setPeer_pending (s : State) (k : Nat) (p : Peer) : (s.setPeer k p).pending = s.pending := rfl
@[simp] theorem State.setPeer_config (s : State) (k : Nat) (p : Peer) : (s.setPeer k p).config = s.config := rfl
@[simp] theorem State.setPeer_volume (s : State) (k : Nat) (p : Peer) (v' : Nat) : (s.setPeer k p).volume v' = s.volume v' := rfl
@[simp] theorem State.setPeer_job (s : State) (k : Nat) (p : Peer) (i' : Nat) : (s.setPeer k p).job i' = s.job i' := rfl
@[simp] theorem State.setPeer_principal (s : State) (k : Nat) (p : Peer) (x' : Nat) : (s.setPeer k p).principal x' = s.principal x' := rfl
@[simp] theorem State.setPeer_inFrame (s : State) (k : Nat) (p : Peer) (x' : Nat) : (s.setPeer k p).inFrame x' = s.inFrame x' := rfl

/-! ### State.setVolume -/

@[simp] theorem State.setVolume_straps (s : State) (v : Nat) (x : Volume) : (s.setVolume v x).straps = s.straps := rfl
@[simp] theorem State.setVolume_pins (s : State) (v : Nat) (x : Volume) : (s.setVolume v x).pins = s.pins := rfl
@[simp] theorem State.setVolume_loader (s : State) (v : Nat) (x : Volume) : (s.setVolume v x).loader = s.loader := rfl
@[simp] theorem State.setVolume_clock (s : State) (v : Nat) (x : Volume) : (s.setVolume v x).clock = s.clock := rfl
@[simp] theorem State.setVolume_deadlines (s : State) (v : Nat) (x : Volume) : (s.setVolume v x).deadlines = s.deadlines := rfl
@[simp] theorem State.setVolume_quota (s : State) (v : Nat) (x : Volume) : (s.setVolume v x).quota = s.quota := rfl
@[simp] theorem State.setVolume_notice (s : State) (v : Nat) (x : Volume) : (s.setVolume v x).notice = s.notice := rfl
@[simp] theorem State.setVolume_bus (s : State) (v : Nat) (x : Volume) : (s.setVolume v x).bus = s.bus := rfl
@[simp] theorem State.setVolume_peers (s : State) (v : Nat) (x : Volume) : (s.setVolume v x).peers = s.peers := rfl
@[simp] theorem State.setVolume_jobs (s : State) (v : Nat) (x : Volume) : (s.setVolume v x).jobs = s.jobs := rfl
@[simp] theorem State.setVolume_arbiter (s : State) (v : Nat) (x : Volume) : (s.setVolume v x).arbiter = s.arbiter := rfl
@[simp] theorem State.setVolume_dup (s : State) (v : Nat) (x : Volume) : (s.setVolume v x).dup = s.dup := rfl
@[simp] theorem State.setVolume_port (s : State) (v : Nat) (x : Volume) : (s.setVolume v x).port = s.port := rfl
@[simp] theorem State.setVolume_pending (s : State) (v : Nat) (x : Volume) : (s.setVolume v x).pending = s.pending := rfl
@[simp] theorem State.setVolume_config (s : State) (v : Nat) (x : Volume) : (s.setVolume v x).config = s.config := rfl
@[simp] theorem State.setVolume_peer (s : State) (v : Nat) (x : Volume) (k' : Nat) : (s.setVolume v x).peer k' = s.peer k' := rfl
@[simp] theorem State.setVolume_job (s : State) (v : Nat) (x : Volume) (i' : Nat) : (s.setVolume v x).job i' = s.job i' := rfl
@[simp] theorem State.setVolume_principal (s : State) (v : Nat) (x : Volume) (x' : Nat) : (s.setVolume v x).principal x' = s.principal x' := rfl
@[simp] theorem State.setVolume_inFrame (s : State) (v : Nat) (x : Volume) (x' : Nat) : (s.setVolume v x).inFrame x' = s.inFrame x' := rfl
@[simp] theorem State.setVolume_holdInForce (s : State) (v : Nat) (x : Volume) : (s.setVolume v x).holdInForce = s.holdInForce := rfl

/-! ### State.setJob -/

@[simp] theorem State.setJob_straps (s : State) (k : Nat) (j : Option Job) : (s.setJob k j).straps = s.straps := rfl
@[simp] theorem State.setJob_pins (s : State) (k : Nat) (j : Option Job) : (s.setJob k j).pins = s.pins := rfl
@[simp] theorem State.setJob_loader (s : State) (k : Nat) (j : Option Job) : (s.setJob k j).loader = s.loader := rfl
@[simp] theorem State.setJob_clock (s : State) (k : Nat) (j : Option Job) : (s.setJob k j).clock = s.clock := rfl
@[simp] theorem State.setJob_deadlines (s : State) (k : Nat) (j : Option Job) : (s.setJob k j).deadlines = s.deadlines := rfl
@[simp] theorem State.setJob_quota (s : State) (k : Nat) (j : Option Job) : (s.setJob k j).quota = s.quota := rfl
@[simp] theorem State.setJob_notice (s : State) (k : Nat) (j : Option Job) : (s.setJob k j).notice = s.notice := rfl
@[simp] theorem State.setJob_bus (s : State) (k : Nat) (j : Option Job) : (s.setJob k j).bus = s.bus := rfl
@[simp] theorem State.setJob_peers (s : State) (k : Nat) (j : Option Job) : (s.setJob k j).peers = s.peers := rfl
@[simp] theorem State.setJob_volumes (s : State) (k : Nat) (j : Option Job) : (s.setJob k j).volumes = s.volumes := rfl
@[simp] theorem State.setJob_arbiter (s : State) (k : Nat) (j : Option Job) : (s.setJob k j).arbiter = s.arbiter := rfl
@[simp] theorem State.setJob_dup (s : State) (k : Nat) (j : Option Job) : (s.setJob k j).dup = s.dup := rfl
@[simp] theorem State.setJob_port (s : State) (k : Nat) (j : Option Job) : (s.setJob k j).port = s.port := rfl
@[simp] theorem State.setJob_pending (s : State) (k : Nat) (j : Option Job) : (s.setJob k j).pending = s.pending := rfl
@[simp] theorem State.setJob_config (s : State) (k : Nat) (j : Option Job) : (s.setJob k j).config = s.config := rfl
@[simp] theorem State.setJob_peer (s : State) (k : Nat) (j : Option Job) (k' : Nat) : (s.setJob k j).peer k' = s.peer k' := rfl
@[simp] theorem State.setJob_volume (s : State) (k : Nat) (j : Option Job) (v' : Nat) : (s.setJob k j).volume v' = s.volume v' := rfl
@[simp] theorem State.setJob_principal (s : State) (k : Nat) (j : Option Job) (x' : Nat) : (s.setJob k j).principal x' = s.principal x' := rfl
@[simp] theorem State.setJob_inFrame (s : State) (k : Nat) (j : Option Job) (x' : Nat) : (s.setJob k j).inFrame x' = s.inFrame x' := rfl
@[simp] theorem State.setJob_holdInForce (s : State) (k : Nat) (j : Option Job) : (s.setJob k j).holdInForce = s.holdInForce := rfl

/-! ### State.queueNormal -/

@[simp] theorem State.queueNormal_straps (s : State) (id : Nat) : (s.queueNormal id).straps = s.straps := rfl
@[simp] theorem State.queueNormal_pins (s : State) (id : Nat) : (s.queueNormal id).pins = s.pins := rfl
@[simp] theorem State.queueNormal_loader (s : State) (id : Nat) : (s.queueNormal id).loader = s.loader := rfl
@[simp] theorem State.queueNormal_clock (s : State) (id : Nat) : (s.queueNormal id).clock = s.clock := rfl
@[simp] theorem State.queueNormal_deadlines (s : State) (id : Nat) : (s.queueNormal id).deadlines = s.deadlines := rfl
@[simp] theorem State.queueNormal_quota (s : State) (id : Nat) : (s.queueNormal id).quota = s.quota := rfl
@[simp] theorem State.queueNormal_bus (s : State) (id : Nat) : (s.queueNormal id).bus = s.bus := rfl
@[simp] theorem State.queueNormal_peers (s : State) (id : Nat) : (s.queueNormal id).peers = s.peers := rfl
@[simp] theorem State.queueNormal_volumes (s : State) (id : Nat) : (s.queueNormal id).volumes = s.volumes := rfl
@[simp] theorem State.queueNormal_jobs (s : State) (id : Nat) : (s.queueNormal id).jobs = s.jobs := rfl
@[simp] theorem State.queueNormal_arbiter (s : State) (id : Nat) : (s.queueNormal id).arbiter = s.arbiter := rfl
@[simp] theorem State.queueNormal_dup (s : State) (id : Nat) : (s.queueNormal id).dup = s.dup := rfl
@[simp] theorem State.queueNormal_port (s : State) (id : Nat) : (s.queueNormal id).port = s.port := rfl
@[simp] theorem State.queueNormal_pending (s : State) (id : Nat) : (s.queueNormal id).pending = s.pending := rfl
@[simp] theorem State.queueNormal_config (s : State) (id : Nat) : (s.queueNormal id).config = s.config := rfl
@[simp] theorem State.queueNormal_peer (s : State) (id : Nat) (k' : Nat) : (s.queueNormal id).peer k' = s.peer k' := rfl
@[simp] theorem State.queueNormal_volume (s : State) (id : Nat) (v' : Nat) : (s.queueNormal id).volume v' = s.volume v' := rfl
@[simp] theorem State.queueNormal_job (s : State) (id : Nat) (i' : Nat) : (s.queueNormal id).job i' = s.job i' := rfl
@[simp] theorem State.queueNormal_principal (s : State) (id : Nat) (x' : Nat) : (s.queueNormal id).principal x' = s.principal x' := rfl
@[simp] theorem State.queueNormal_holdInForce (s : State) (id : Nat) : (s.queueNormal id).holdInForce = s.holdInForce := rfl

/-! ### State.queueUrgent -/

@[simp] theorem State.queueUrgent_straps (s : State) (id : Nat) : (s.queueUrgent id).straps = s.straps := rfl
@[simp] theorem State.queueUrgent_pins (s : State) (id : Nat) : (s.queueUrgent id).pins = s.pins := rfl
@[simp] theorem State.queueUrgent_loader (s : State) (id : Nat) : (s.queueUrgent id).loader = s.loader := rfl
@[simp] theorem State.queueUrgent_clock (s : State) (id : Nat) : (s.queueUrgent id).clock = s.clock := rfl
@[simp] theorem State.queueUrgent_deadlines (s : State) (id : Nat) : (s.queueUrgent id).deadlines = s.deadlines := rfl
@[simp] theorem State.queueUrgent_quota (s : State) (id : Nat) : (s.queueUrgent id).quota = s.quota := rfl
@[simp] theorem State.queueUrgent_bus (s : State) (id : Nat) : (s.queueUrgent id).bus = s.bus := rfl
@[simp] theorem State.queueUrgent_peers (s : State) (id : Nat) : (s.queueUrgent id).peers = s.peers := rfl
@[simp] theorem State.queueUrgent_volumes (s : State) (id : Nat) : (s.queueUrgent id).volumes = s.volumes := rfl
@[simp] theorem State.queueUrgent_jobs (s : State) (id : Nat) : (s.queueUrgent id).jobs = s.jobs := rfl
@[simp] theorem State.queueUrgent_arbiter (s : State) (id : Nat) : (s.queueUrgent id).arbiter = s.arbiter := rfl
@[simp] theorem State.queueUrgent_dup (s : State) (id : Nat) : (s.queueUrgent id).dup = s.dup := rfl
@[simp] theorem State.queueUrgent_port (s : State) (id : Nat) : (s.queueUrgent id).port = s.port := rfl
@[simp] theorem State.queueUrgent_pending (s : State) (id : Nat) : (s.queueUrgent id).pending = s.pending := rfl
@[simp] theorem State.queueUrgent_config (s : State) (id : Nat) : (s.queueUrgent id).config = s.config := rfl
@[simp] theorem State.queueUrgent_peer (s : State) (id : Nat) (k' : Nat) : (s.queueUrgent id).peer k' = s.peer k' := rfl
@[simp] theorem State.queueUrgent_volume (s : State) (id : Nat) (v' : Nat) : (s.queueUrgent id).volume v' = s.volume v' := rfl
@[simp] theorem State.queueUrgent_job (s : State) (id : Nat) (i' : Nat) : (s.queueUrgent id).job i' = s.job i' := rfl
@[simp] theorem State.queueUrgent_principal (s : State) (id : Nat) (x' : Nat) : (s.queueUrgent id).principal x' = s.principal x' := rfl
@[simp] theorem State.queueUrgent_holdInForce (s : State) (id : Nat) : (s.queueUrgent id).holdInForce = s.holdInForce := rfl

/-! ### State.answerHeld -/

@[simp] theorem State.answerHeld_straps (s : State) (address : Nat) (code : ResultCode) : (s.answerHeld address code).straps = s.straps := rfl
@[simp] theorem State.answerHeld_pins (s : State) (address : Nat) (code : ResultCode) : (s.answerHeld address code).pins = s.pins := rfl
@[simp] theorem State.answerHeld_loader (s : State) (address : Nat) (code : ResultCode) : (s.answerHeld address code).loader = s.loader := rfl
@[simp] theorem State.answerHeld_clock (s : State) (address : Nat) (code : ResultCode) : (s.answerHeld address code).clock = s.clock := rfl
@[simp] theorem State.answerHeld_deadlines (s : State) (address : Nat) (code : ResultCode) : (s.answerHeld address code).deadlines = s.deadlines := rfl
@[simp] theorem State.answerHeld_quota (s : State) (address : Nat) (code : ResultCode) : (s.answerHeld address code).quota = s.quota := rfl
@[simp] theorem State.answerHeld_notice (s : State) (address : Nat) (code : ResultCode) : (s.answerHeld address code).notice = s.notice := rfl
@[simp] theorem State.answerHeld_bus (s : State) (address : Nat) (code : ResultCode) : (s.answerHeld address code).bus = s.bus := rfl
@[simp] theorem State.answerHeld_peers (s : State) (address : Nat) (code : ResultCode) : (s.answerHeld address code).peers = s.peers := rfl
@[simp] theorem State.answerHeld_volumes (s : State) (address : Nat) (code : ResultCode) : (s.answerHeld address code).volumes = s.volumes := rfl
@[simp] theorem State.answerHeld_jobs (s : State) (address : Nat) (code : ResultCode) : (s.answerHeld address code).jobs = s.jobs := rfl
@[simp] theorem State.answerHeld_arbiter (s : State) (address : Nat) (code : ResultCode) : (s.answerHeld address code).arbiter = s.arbiter := rfl
@[simp] theorem State.answerHeld_dup (s : State) (address : Nat) (code : ResultCode) : (s.answerHeld address code).dup = s.dup := rfl
@[simp] theorem State.answerHeld_pending (s : State) (address : Nat) (code : ResultCode) : (s.answerHeld address code).pending = s.pending := rfl
@[simp] theorem State.answerHeld_config (s : State) (address : Nat) (code : ResultCode) : (s.answerHeld address code).config = s.config := rfl
@[simp] theorem State.answerHeld_peer (s : State) (address : Nat) (code : ResultCode) (k' : Nat) : (s.answerHeld address code).peer k' = s.peer k' := rfl
@[simp] theorem State.answerHeld_volume (s : State) (address : Nat) (code : ResultCode) (v' : Nat) : (s.answerHeld address code).volume v' = s.volume v' := rfl
@[simp] theorem State.answerHeld_job (s : State) (address : Nat) (code : ResultCode) (i' : Nat) : (s.answerHeld address code).job i' = s.job i' := rfl
@[simp] theorem State.answerHeld_principal (s : State) (address : Nat) (code : ResultCode) (x' : Nat) : (s.answerHeld address code).principal x' = s.principal x' := rfl
@[simp] theorem State.answerHeld_inFrame (s : State) (address : Nat) (code : ResultCode) (x' : Nat) : (s.answerHeld address code).inFrame x' = s.inFrame x' := rfl
@[simp] theorem State.answerHeld_holdInForce (s : State) (address : Nat) (code : ResultCode) : (s.answerHeld address code).holdInForce = s.holdInForce := rfl

/-! ### State.setTx -/

@[simp] theorem State.setTx_straps (s : State) (tx : Transmitter) : (s.setTx tx).straps = s.straps := rfl
@[simp] theorem State.setTx_pins (s : State) (tx : Transmitter) : (s.setTx tx).pins = s.pins := rfl
@[simp] theorem State.setTx_loader (s : State) (tx : Transmitter) : (s.setTx tx).loader = s.loader := rfl
@[simp] theorem State.setTx_clock (s : State) (tx : Transmitter) : (s.setTx tx).clock = s.clock := rfl
@[simp] theorem State.setTx_deadlines (s : State) (tx : Transmitter) : (s.setTx tx).deadlines = s.deadlines := rfl
@[simp] theorem State.setTx_quota (s : State) (tx : Transmitter) : (s.setTx tx).quota = s.quota := rfl
@[simp] theorem State.setTx_notice (s : State) (tx : Transmitter) : (s.setTx tx).notice = s.notice := rfl
@[simp] theorem State.setTx_peers (s : State) (tx : Transmitter) : (s.setTx tx).peers = s.peers := rfl
@[simp] theorem State.setTx_volumes (s : State) (tx : Transmitter) : (s.setTx tx).volumes = s.volumes := rfl
@[simp] theorem State.setTx_jobs (s : State) (tx : Transmitter) : (s.setTx tx).jobs = s.jobs := rfl
@[simp] theorem State.setTx_arbiter (s : State) (tx : Transmitter) : (s.setTx tx).arbiter = s.arbiter := rfl
@[simp] theorem State.setTx_dup (s : State) (tx : Transmitter) : (s.setTx tx).dup = s.dup := rfl
@[simp] theorem State.setTx_port (s : State) (tx : Transmitter) : (s.setTx tx).port = s.port := rfl
@[simp] theorem State.setTx_pending (s : State) (tx : Transmitter) : (s.setTx tx).pending = s.pending := rfl
@[simp] theorem State.setTx_config (s : State) (tx : Transmitter) : (s.setTx tx).config = s.config := rfl
@[simp] theorem State.setTx_peer (s : State) (tx : Transmitter) (k' : Nat) : (s.setTx tx).peer k' = s.peer k' := rfl
@[simp] theorem State.setTx_volume (s : State) (tx : Transmitter) (v' : Nat) : (s.setTx tx).volume v' = s.volume v' := rfl
@[simp] theorem State.setTx_job (s : State) (tx : Transmitter) (i' : Nat) : (s.setTx tx).job i' = s.job i' := rfl
@[simp] theorem State.setTx_principal (s : State) (tx : Transmitter) (x' : Nat) : (s.setTx tx).principal x' = s.principal x' := rfl
@[simp] theorem State.setTx_inFrame (s : State) (tx : Transmitter) (x' : Nat) : (s.setTx tx).inFrame x' = s.inFrame x' := rfl
@[simp] theorem State.setTx_holdInForce (s : State) (tx : Transmitter) : (s.setTx tx).holdInForce = s.holdInForce := rfl

/-! ### State.setPrecedence -/

@[simp] theorem State.setPrecedence_straps (s : State) (n : Nat) : (s.setPrecedence n).straps = s.straps := rfl
@[simp] theorem State.setPrecedence_pins (s : State) (n : Nat) : (s.setPrecedence n).pins = s.pins := rfl
@[simp] theorem State.setPrecedence_loader (s : State) (n : Nat) : (s.setPrecedence n).loader = s.loader := rfl
@[simp] theorem State.setPrecedence_clock (s : State) (n : Nat) : (s.setPrecedence n).clock = s.clock := rfl
@[simp] theorem State.setPrecedence_deadlines (s : State) (n : Nat) : (s.setPrecedence n).deadlines = s.deadlines := rfl
@[simp] theorem State.setPrecedence_quota (s : State) (n : Nat) : (s.setPrecedence n).quota = s.quota := rfl
@[simp] theorem State.setPrecedence_notice (s : State) (n : Nat) : (s.setPrecedence n).notice = s.notice := rfl
@[simp] theorem State.setPrecedence_bus (s : State) (n : Nat) : (s.setPrecedence n).bus = s.bus := rfl
@[simp] theorem State.setPrecedence_peers (s : State) (n : Nat) : (s.setPrecedence n).peers = s.peers := rfl
@[simp] theorem State.setPrecedence_volumes (s : State) (n : Nat) : (s.setPrecedence n).volumes = s.volumes := rfl
@[simp] theorem State.setPrecedence_jobs (s : State) (n : Nat) : (s.setPrecedence n).jobs = s.jobs := rfl
@[simp] theorem State.setPrecedence_dup (s : State) (n : Nat) : (s.setPrecedence n).dup = s.dup := rfl
@[simp] theorem State.setPrecedence_port (s : State) (n : Nat) : (s.setPrecedence n).port = s.port := rfl
@[simp] theorem State.setPrecedence_pending (s : State) (n : Nat) : (s.setPrecedence n).pending = s.pending := rfl
@[simp] theorem State.setPrecedence_config (s : State) (n : Nat) : (s.setPrecedence n).config = s.config := rfl
@[simp] theorem State.setPrecedence_peer (s : State) (n : Nat) (k' : Nat) : (s.setPrecedence n).peer k' = s.peer k' := rfl
@[simp] theorem State.setPrecedence_volume (s : State) (n : Nat) (v' : Nat) : (s.setPrecedence n).volume v' = s.volume v' := rfl
@[simp] theorem State.setPrecedence_job (s : State) (n : Nat) (i' : Nat) : (s.setPrecedence n).job i' = s.job i' := rfl
@[simp] theorem State.setPrecedence_principal (s : State) (n : Nat) (x' : Nat) : (s.setPrecedence n).principal x' = s.principal x' := rfl
@[simp] theorem State.setPrecedence_inFrame (s : State) (n : Nat) (x' : Nat) : (s.setPrecedence n).inFrame x' = s.inFrame x' := rfl
@[simp] theorem State.setPrecedence_holdInForce (s : State) (n : Nat) : (s.setPrecedence n).holdInForce = s.holdInForce := rfl

/-! ### State.endDelivery -/

@[simp] theorem State.endDelivery_straps (s : State) : s.endDelivery.straps = s.straps := rfl
@[simp] theorem State.endDelivery_pins (s : State) : s.endDelivery.pins = s.pins := rfl
@[simp] theorem State.endDelivery_loader (s : State) : s.endDelivery.loader = s.loader := rfl
@[simp] theorem State.endDelivery_clock (s : State) : s.endDelivery.clock = s.clock := rfl
@[simp] theorem State.endDelivery_deadlines (s : State) : s.endDelivery.deadlines = s.deadlines := rfl
@[simp] theorem State.endDelivery_quota (s : State) : s.endDelivery.quota = s.quota := rfl
@[simp] theorem State.endDelivery_notice (s : State) : s.endDelivery.notice = s.notice := rfl
@[simp] theorem State.endDelivery_peers (s : State) : s.endDelivery.peers = s.peers := rfl
@[simp] theorem State.endDelivery_volumes (s : State) : s.endDelivery.volumes = s.volumes := rfl
@[simp] theorem State.endDelivery_jobs (s : State) : s.endDelivery.jobs = s.jobs := rfl
@[simp] theorem State.endDelivery_arbiter (s : State) : s.endDelivery.arbiter = s.arbiter := rfl
@[simp] theorem State.endDelivery_dup (s : State) : s.endDelivery.dup = s.dup := rfl
@[simp] theorem State.endDelivery_port (s : State) : s.endDelivery.port = s.port := rfl
@[simp] theorem State.endDelivery_pending (s : State) : s.endDelivery.pending = s.pending := rfl
@[simp] theorem State.endDelivery_config (s : State) : s.endDelivery.config = s.config := rfl
@[simp] theorem State.endDelivery_peer (s : State) (k' : Nat) : s.endDelivery.peer k' = s.peer k' := rfl
@[simp] theorem State.endDelivery_volume (s : State) (v' : Nat) : s.endDelivery.volume v' = s.volume v' := rfl
@[simp] theorem State.endDelivery_job (s : State) (i' : Nat) : s.endDelivery.job i' = s.job i' := rfl
@[simp] theorem State.endDelivery_principal (s : State) (x' : Nat) : s.endDelivery.principal x' = s.principal x' := rfl
@[simp] theorem State.endDelivery_inFrame (s : State) (x' : Nat) : s.endDelivery.inFrame x' = s.inFrame x' := rfl
@[simp] theorem State.endDelivery_holdInForce (s : State) : s.endDelivery.holdInForce = s.holdInForce := rfl

/-! ### State.departure -/

@[simp] theorem State.departure_straps (s : State) : s.departure.straps = s.straps := rfl
@[simp] theorem State.departure_pins (s : State) : s.departure.pins = s.pins := rfl
@[simp] theorem State.departure_loader (s : State) : s.departure.loader = s.loader := rfl
@[simp] theorem State.departure_clock (s : State) : s.departure.clock = s.clock := rfl
@[simp] theorem State.departure_deadlines (s : State) : s.departure.deadlines = s.deadlines := rfl
@[simp] theorem State.departure_quota (s : State) : s.departure.quota = s.quota := rfl
@[simp] theorem State.departure_notice (s : State) : s.departure.notice = s.notice := rfl
@[simp] theorem State.departure_bus (s : State) : s.departure.bus = s.bus := rfl
@[simp] theorem State.departure_peers (s : State) : s.departure.peers = s.peers := rfl
@[simp] theorem State.departure_volumes (s : State) : s.departure.volumes = s.volumes := rfl
@[simp] theorem State.departure_arbiter (s : State) : s.departure.arbiter = s.arbiter := rfl
@[simp] theorem State.departure_dup (s : State) : s.departure.dup = s.dup := rfl
@[simp] theorem State.departure_pending (s : State) : s.departure.pending = s.pending := rfl
@[simp] theorem State.departure_config (s : State) : s.departure.config = s.config := rfl
@[simp] theorem State.departure_peer (s : State) (k' : Nat) : s.departure.peer k' = s.peer k' := rfl
@[simp] theorem State.departure_volume (s : State) (v' : Nat) : s.departure.volume v' = s.volume v' := rfl
@[simp] theorem State.departure_principal (s : State) (x' : Nat) : s.departure.principal x' = s.principal x' := rfl
@[simp] theorem State.departure_inFrame (s : State) (x' : Nat) : s.departure.inFrame x' = s.inFrame x' := rfl
@[simp] theorem State.departure_holdInForce (s : State) : s.departure.holdInForce = s.holdInForce := rfl

/-! ### State.nextDescriptor -/

@[simp] theorem State.nextDescriptor_straps (s : State) : s.nextDescriptor.straps = s.straps := rfl
@[simp] theorem State.nextDescriptor_pins (s : State) : s.nextDescriptor.pins = s.pins := rfl
@[simp] theorem State.nextDescriptor_loader (s : State) : s.nextDescriptor.loader = s.loader := rfl
@[simp] theorem State.nextDescriptor_clock (s : State) : s.nextDescriptor.clock = s.clock := rfl
@[simp] theorem State.nextDescriptor_deadlines (s : State) : s.nextDescriptor.deadlines = s.deadlines := rfl
@[simp] theorem State.nextDescriptor_quota (s : State) : s.nextDescriptor.quota = s.quota := rfl
@[simp] theorem State.nextDescriptor_notice (s : State) : s.nextDescriptor.notice = s.notice := rfl
@[simp] theorem State.nextDescriptor_bus (s : State) : s.nextDescriptor.bus = s.bus := rfl
@[simp] theorem State.nextDescriptor_peers (s : State) : s.nextDescriptor.peers = s.peers := rfl
@[simp] theorem State.nextDescriptor_volumes (s : State) : s.nextDescriptor.volumes = s.volumes := rfl
@[simp] theorem State.nextDescriptor_jobs (s : State) : s.nextDescriptor.jobs = s.jobs := rfl
@[simp] theorem State.nextDescriptor_arbiter (s : State) : s.nextDescriptor.arbiter = s.arbiter := rfl
@[simp] theorem State.nextDescriptor_dup (s : State) : s.nextDescriptor.dup = s.dup := rfl
@[simp] theorem State.nextDescriptor_pending (s : State) : s.nextDescriptor.pending = s.pending := rfl
@[simp] theorem State.nextDescriptor_config (s : State) : s.nextDescriptor.config = s.config := rfl
@[simp] theorem State.nextDescriptor_peer (s : State) (k' : Nat) : s.nextDescriptor.peer k' = s.peer k' := rfl
@[simp] theorem State.nextDescriptor_volume (s : State) (v' : Nat) : s.nextDescriptor.volume v' = s.volume v' := rfl
@[simp] theorem State.nextDescriptor_job (s : State) (i' : Nat) : s.nextDescriptor.job i' = s.job i' := rfl
@[simp] theorem State.nextDescriptor_principal (s : State) (x' : Nat) : s.nextDescriptor.principal x' = s.principal x' := rfl
@[simp] theorem State.nextDescriptor_inFrame (s : State) (x' : Nat) : s.nextDescriptor.inFrame x' = s.inFrame x' := rfl
@[simp] theorem State.nextDescriptor_holdInForce (s : State) : s.nextDescriptor.holdInForce = s.holdInForce := rfl

/-! ### State.unblocked -/

@[simp] theorem State.unblocked_straps (s : State) : s.unblocked.straps = s.straps := rfl
@[simp] theorem State.unblocked_pins (s : State) : s.unblocked.pins = s.pins := rfl
@[simp] theorem State.unblocked_loader (s : State) : s.unblocked.loader = s.loader := rfl
@[simp] theorem State.unblocked_clock (s : State) : s.unblocked.clock = s.clock := rfl
@[simp] theorem State.unblocked_deadlines (s : State) : s.unblocked.deadlines = s.deadlines := rfl
@[simp] theorem State.unblocked_quota (s : State) : s.unblocked.quota = s.quota := rfl
@[simp] theorem State.unblocked_notice (s : State) : s.unblocked.notice = s.notice := rfl
@[simp] theorem State.unblocked_bus (s : State) : s.unblocked.bus = s.bus := rfl
@[simp] theorem State.unblocked_peers (s : State) : s.unblocked.peers = s.peers := rfl
@[simp] theorem State.unblocked_volumes (s : State) : s.unblocked.volumes = s.volumes := rfl
@[simp] theorem State.unblocked_jobs (s : State) : s.unblocked.jobs = s.jobs := rfl
@[simp] theorem State.unblocked_arbiter (s : State) : s.unblocked.arbiter = s.arbiter := rfl
@[simp] theorem State.unblocked_dup (s : State) : s.unblocked.dup = s.dup := rfl
@[simp] theorem State.unblocked_pending (s : State) : s.unblocked.pending = s.pending := rfl
@[simp] theorem State.unblocked_config (s : State) : s.unblocked.config = s.config := rfl
@[simp] theorem State.unblocked_peer (s : State) (k' : Nat) : s.unblocked.peer k' = s.peer k' := rfl
@[simp] theorem State.unblocked_volume (s : State) (v' : Nat) : s.unblocked.volume v' = s.volume v' := rfl
@[simp] theorem State.unblocked_job (s : State) (i' : Nat) : s.unblocked.job i' = s.job i' := rfl
@[simp] theorem State.unblocked_principal (s : State) (x' : Nat) : s.unblocked.principal x' = s.principal x' := rfl
@[simp] theorem State.unblocked_inFrame (s : State) (x' : Nat) : s.unblocked.inFrame x' = s.inFrame x' := rfl
@[simp] theorem State.unblocked_holdInForce (s : State) : s.unblocked.holdInForce = s.holdInForce := rfl

/-! ### State.recomputeFormat -/

@[simp] theorem State.recomputeFormat_straps (s : State) : s.recomputeFormat.straps = s.straps := rfl
@[simp] theorem State.recomputeFormat_pins (s : State) : s.recomputeFormat.pins = s.pins := rfl
@[simp] theorem State.recomputeFormat_loader (s : State) : s.recomputeFormat.loader = s.loader := rfl
@[simp] theorem State.recomputeFormat_clock (s : State) : s.recomputeFormat.clock = s.clock := rfl
@[simp] theorem State.recomputeFormat_deadlines (s : State) : s.recomputeFormat.deadlines = s.deadlines := rfl
@[simp] theorem State.recomputeFormat_quota (s : State) : s.recomputeFormat.quota = s.quota := rfl
@[simp] theorem State.recomputeFormat_notice (s : State) : s.recomputeFormat.notice = s.notice := rfl
@[simp] theorem State.recomputeFormat_bus (s : State) : s.recomputeFormat.bus = s.bus := rfl
@[simp] theorem State.recomputeFormat_volumes (s : State) : s.recomputeFormat.volumes = s.volumes := rfl
@[simp] theorem State.recomputeFormat_jobs (s : State) : s.recomputeFormat.jobs = s.jobs := rfl
@[simp] theorem State.recomputeFormat_arbiter (s : State) : s.recomputeFormat.arbiter = s.arbiter := rfl
@[simp] theorem State.recomputeFormat_dup (s : State) : s.recomputeFormat.dup = s.dup := rfl
@[simp] theorem State.recomputeFormat_port (s : State) : s.recomputeFormat.port = s.port := rfl
@[simp] theorem State.recomputeFormat_pending (s : State) : s.recomputeFormat.pending = s.pending := rfl
@[simp] theorem State.recomputeFormat_config (s : State) : s.recomputeFormat.config = s.config := rfl
@[simp] theorem State.recomputeFormat_volume (s : State) (v' : Nat) : s.recomputeFormat.volume v' = s.volume v' := rfl
@[simp] theorem State.recomputeFormat_job (s : State) (i' : Nat) : s.recomputeFormat.job i' = s.job i' := rfl
@[simp] theorem State.recomputeFormat_principal (s : State) (x' : Nat) : s.recomputeFormat.principal x' = s.principal x' := rfl
@[simp] theorem State.recomputeFormat_inFrame (s : State) (x' : Nat) : s.recomputeFormat.inFrame x' = s.inFrame x' := rfl

/-! ### What the updates write -/

@[simp] theorem State.setFlag_port (s : State) (f : Flag) : (s.setFlag f).port = s.port.setFlag f := rfl
@[simp] theorem State.raise_port (s : State) (e : EventRecord) : (s.raise e).port = s.port.raise e := rfl
@[simp] theorem State.setPeer_peers (s : State) (k : Nat) (p : Peer) :
    (s.setPeer k p).peers = s.peers.setPeer k p := rfl
@[simp] theorem State.queueNormal_notice (s : State) (id : Nat) :
    (s.queueNormal id).notice = s.notice.queueNormal id := rfl
@[simp] theorem State.queueUrgent_notice (s : State) (id : Nat) :
    (s.queueUrgent id).notice = s.notice.queueUrgent id := rfl
@[simp] theorem State.answerHeld_port (s : State) (address : Nat) (code : ResultCode) :
    (s.answerHeld address code).port =
      { s.port with heldAnswers := s.port.heldAnswers ++ [⟨address, ⟨code, true, []⟩⟩] } := rfl
@[simp] theorem State.setTx_bus (s : State) (tx : Transmitter) : (s.setTx tx).bus = { s.bus with tx := tx } := rfl
@[simp] theorem State.setPrecedence_arbiter (s : State) (n : Nat) :
    (s.setPrecedence n).arbiter = { s.arbiter with precedence := n } := rfl
@[simp] theorem State.endDelivery_bus (s : State) :
    s.endDelivery.bus = { s.bus with fifo := s.bus.fifo.drop 1, delivery := none } := rfl
@[simp] theorem State.departure_port (s : State) :
    s.departure.port = { s.port with departed := s.port.departed || s.port.requestState = .blocked } := rfl
@[simp] theorem State.unblocked_port (s : State) :
    s.unblocked.port = { s.port with requestState := .running, departed := false } := rfl
@[simp] theorem State.recomputeFormat_peers (s : State) :
    s.recomputeFormat.peers = { s.peers with format := s.commonFormat } := rfl

theorem State.peer_setPeer_same (s : State) {k : Nat} (p : Peer) (h : k < 16) : (s.setPeer k p).peer k = p := by
  simp [State.peer, State.setPeer, Peers.peer, Peers.setPeer, h]
theorem State.peer_setPeer_ne (s : State) {k m : Nat} (p : Peer) (h : m ≠ k) :
    (s.setPeer k p).peer m = s.peer m := by
  simp only [State.peer, State.setPeer, Peers.peer, Peers.setPeer]
  split
  · exact Vector.getElem_setIfInBounds_ne _ (Ne.symm h)
  · rfl
theorem State.volume_setVolume_same (s : State) {v : Nat} (x : Volume) (h : v < 16) :
    (s.setVolume v x).volume v = x := by
  simp [State.volume, State.setVolume, h]
theorem State.volume_setVolume_ne (s : State) {v w : Nat} (x : Volume) (h : w ≠ v) :
    (s.setVolume v x).volume w = s.volume w := by
  simp only [State.volume, State.setVolume]
  split
  · exact Vector.getElem_setIfInBounds_ne _ (Ne.symm h)
  · rfl
theorem State.job_setJob_same (s : State) {k : Nat} (j : Option Job) (h : k < 8) : (s.setJob k j).job k = j := by
  simp [State.job, State.setJob, h]
theorem State.job_setJob_ne (s : State) {k m : Nat} (j : Option Job) (h : m ≠ k) :
    (s.setJob k j).job m = s.job m := by
  simp only [State.job, State.setJob]
  split
  · exact Vector.getElem_setIfInBounds_ne _ (Ne.symm h)
  · rfl
theorem State.job_departure (s : State) (k : Nat) :
    s.departure.job k = (s.job k).map fun j => { j with deferred := false } := by
  simp only [State.job, State.departure]
  split
  · simp
  · rfl

theorem State.setJob_self (s : State) {k : Nat} {j : Option Job} (h : s.job k = j) : s.setJob k j = s := by
  have e : s.jobs.setIfInBounds k j = s.jobs := by
    ext1 i hi
    rw [Vector.getElem_setIfInBounds]
    split
    · rename_i hk
      subst hk
      simpa [State.job, hi] using h.symm
    · rfl
  simp [State.setJob, e]
theorem State.setVolume_self (s : State) {v : Nat} {x : Volume} (h : s.volume v = x) : s.setVolume v x = s := by
  have e : s.volumes.setIfInBounds v x = s.volumes := by
    ext1 i hi
    rw [Vector.getElem_setIfInBounds]
    split
    · rename_i hk
      subst hk
      simpa [State.volume, hi] using h.symm
    · rfl
  simp [State.setVolume, e]
theorem State.setJob_setJob (s : State) (k : Nat) (i j : Option Job) : (s.setJob k i).setJob k j = s.setJob k j := by
  simp only [State.setJob]
  congr 1
  ext1 m hm
  simp only [Vector.getElem_setIfInBounds]
  split <;> simp
theorem State.setVolume_setVolume (s : State) (v : Nat) (x y : Volume) :
    (s.setVolume v x).setVolume v y = s.setVolume v y := by
  simp only [State.setVolume]
  congr 1
  ext1 m hm
  simp only [Vector.getElem_setIfInBounds]
  split <;> simp

/-- A slot that holds a job is one of the eight (R111). -/
theorem State.job_lt (s : State) {k : Nat} {j : Job} (h : s.job k = some j) : k < 8 := by
  simp only [State.job] at h
  split at h
  · assumption
  · cases h
/-- A volume with a night is one of the sixteen (R96). -/
theorem State.night_lt (s : State) {v : Nat} {n : Night} (h : (s.volume v).night = some n) : v < 16 := by
  simp only [State.volume] at h
  split at h
  · assumption
  · cases h
/-- A station whose record is not ABSENT is one of the sixteen (R58). -/
theorem State.peer_lt (s : State) {k : Nat} (h : (s.peer k).state ≠ .absent) : k < 16 := by
  simp only [State.peer, Peers.peer] at h
  split at h
  · assumption
  · exact absurd rfl h

end Sys2Proof.Machine
end

