-- ==== Sys2Proof/Laws/Ops.lean ====
section
/-! SUPPORT. One lemma for each shared operation, saying once what it can do. -/

namespace Sys2Proof.Machine

/-! ### Flags and event records -/

@[simp] theorem Port.setFlag_requestState (p : Port) (f : Flag) : (p.setFlag f).requestState = p.requestState := rfl
@[simp] theorem Port.setFlag_eventState (p : Port) (f : Flag) : (p.setFlag f).eventState = p.eventState := rfl
@[simp] theorem Port.setFlag_requestRing (p : Port) (f : Flag) : (p.setFlag f).requestRing = p.requestRing := rfl
@[simp] theorem Port.setFlag_eventRing (p : Port) (f : Flag) : (p.setFlag f).eventRing = p.eventRing := rfl
@[simp] theorem Port.setFlag_request (p : Port) (f : Flag) : (p.setFlag f).request = p.request := rfl
@[simp] theorem Port.setFlag_event (p : Port) (f : Flag) : (p.setFlag f).event = p.event := rfl
@[simp] theorem Port.setFlag_phase (p : Port) (f : Flag) : (p.setFlag f).phase = p.phase := rfl
@[simp] theorem Port.setFlag_heldAnswers (p : Port) (f : Flag) : (p.setFlag f).heldAnswers = p.heldAnswers := rfl
@[simp] theorem Port.setFlag_departed (p : Port) (f : Flag) : (p.setFlag f).departed = p.departed := rfl
@[simp] theorem Port.setFlag_posting (p : Port) (f : Flag) : (p.setFlag f).posting = p.posting := rfl
@[simp] theorem Port.setFlag_autoPoll (p : Port) (f : Flag) : (p.setFlag f).autoPoll = p.autoPoll := rfl
@[simp] theorem Port.setFlag_mask (p : Port) (f : Flag) : (p.setFlag f).mask = p.mask := rfl
@[simp] theorem Port.setFlag_written (p : Port) (f : Flag) : (p.setFlag f).written = p.written := rfl
@[simp] theorem Port.setFlag_events (p : Port) (f : Flag) : (p.setFlag f).events = p.events := rfl
@[simp] theorem Port.raise_requestState (p : Port) (e : EventRecord) : (p.raise e).requestState = p.requestState := by
  unfold Port.raise; split <;> rfl
@[simp] theorem Port.raise_eventState (p : Port) (e : EventRecord) : (p.raise e).eventState = p.eventState := by
  unfold Port.raise; split <;> rfl
@[simp] theorem Port.raise_requestRing (p : Port) (e : EventRecord) : (p.raise e).requestRing = p.requestRing := by
  unfold Port.raise; split <;> rfl
@[simp] theorem Port.raise_eventRing (p : Port) (e : EventRecord) : (p.raise e).eventRing = p.eventRing := by
  unfold Port.raise; split <;> rfl
@[simp] theorem Port.raise_request (p : Port) (e : EventRecord) : (p.raise e).request = p.request := by
  unfold Port.raise; split <;> rfl
@[simp] theorem Port.raise_event (p : Port) (e : EventRecord) : (p.raise e).event = p.event := by
  unfold Port.raise; split <;> rfl
@[simp] theorem Port.raise_phase (p : Port) (e : EventRecord) : (p.raise e).phase = p.phase := by
  unfold Port.raise; split <;> rfl
@[simp] theorem Port.raise_heldAnswers (p : Port) (e : EventRecord) : (p.raise e).heldAnswers = p.heldAnswers := by
  unfold Port.raise; split <;> rfl
@[simp] theorem Port.raise_departed (p : Port) (e : EventRecord) : (p.raise e).departed = p.departed := by
  unfold Port.raise; split <;> rfl
@[simp] theorem Port.raise_posting (p : Port) (e : EventRecord) : (p.raise e).posting = p.posting := by
  unfold Port.raise; split <;> rfl
@[simp] theorem Port.raise_autoPoll (p : Port) (e : EventRecord) : (p.raise e).autoPoll = p.autoPoll := by
  unfold Port.raise; split <;> rfl
@[simp] theorem Port.raise_mask (p : Port) (e : EventRecord) : (p.raise e).mask = p.mask := by
  unfold Port.raise; split <;> rfl
@[simp] theorem Port.raise_written (p : Port) (e : EventRecord) : (p.raise e).written = p.written := by
  unfold Port.raise; split <;> rfl

@[simp] theorem Port.raises_nil (p : Port) : p.raises [] = p := rfl
@[simp] theorem Port.raises_cons (p : Port) (e : EventRecord) (l : List EventRecord) :
    p.raises (e :: l) = (p.raise e).raises l := rfl
theorem Port.raises_append (p : Port) (l m : List EventRecord) : p.raises (l ++ m) = (p.raises l).raises m := by
  simp [Port.raises]

@[simp] theorem Port.raises_requestState (p : Port) (l : List EventRecord) : (p.raises l).requestState = p.requestState := by
  induction l generalizing p with
  | nil => rfl
  | cons e l ih => simp [ih]
@[simp] theorem Port.raises_eventState (p : Port) (l : List EventRecord) : (p.raises l).eventState = p.eventState := by
  induction l generalizing p with
  | nil => rfl
  | cons e l ih => simp [ih]
@[simp] theorem Port.raises_requestRing (p : Port) (l : List EventRecord) : (p.raises l).requestRing = p.requestRing := by
  induction l generalizing p with
  | nil => rfl
  | cons e l ih => simp [ih]
@[simp] theorem Port.raises_eventRing (p : Port) (l : List EventRecord) : (p.raises l).eventRing = p.eventRing := by
  induction l generalizing p with
  | nil => rfl
  | cons e l ih => simp [ih]
@[simp] theorem Port.raises_request (p : Port) (l : List EventRecord) : (p.raises l).request = p.request := by
  induction l generalizing p with
  | nil => rfl
  | cons e l ih => simp [ih]
@[simp] theorem Port.raises_event (p : Port) (l : List EventRecord) : (p.raises l).event = p.event := by
  induction l generalizing p with
  | nil => rfl
  | cons e l ih => simp [ih]
@[simp] theorem Port.raises_phase (p : Port) (l : List EventRecord) : (p.raises l).phase = p.phase := by
  induction l generalizing p with
  | nil => rfl
  | cons e l ih => simp [ih]
@[simp] theorem Port.raises_heldAnswers (p : Port) (l : List EventRecord) : (p.raises l).heldAnswers = p.heldAnswers := by
  induction l generalizing p with
  | nil => rfl
  | cons e l ih => simp [ih]
@[simp] theorem Port.raises_departed (p : Port) (l : List EventRecord) : (p.raises l).departed = p.departed := by
  induction l generalizing p with
  | nil => rfl
  | cons e l ih => simp [ih]
@[simp] theorem Port.raises_posting (p : Port) (l : List EventRecord) : (p.raises l).posting = p.posting := by
  induction l generalizing p with
  | nil => rfl
  | cons e l ih => simp [ih]
@[simp] theorem Port.raises_autoPoll (p : Port) (l : List EventRecord) : (p.raises l).autoPoll = p.autoPoll := by
  induction l generalizing p with
  | nil => rfl
  | cons e l ih => simp [ih]
@[simp] theorem Port.raises_mask (p : Port) (l : List EventRecord) : (p.raises l).mask = p.mask := by
  induction l generalizing p with
  | nil => rfl
  | cons e l ih => simp [ih]
@[simp] theorem Port.raises_written (p : Port) (l : List EventRecord) : (p.raises l).written = p.written := by
  induction l generalizing p with
  | nil => rfl
  | cons e l ih => simp [ih]

/-- What the port keeps of its queue: an arriving record joins at the tail or is dropped (R165). -/
theorem Port.raise_spec (p : Port) (e : EventRecord) :
    (p.events.length < 128 ∧ p.raise e = { p with events := p.events ++ [e] }) ∨
    (128 ≤ p.events.length ∧ p.raise e = p.setFlag .eventOverflow) := by
  unfold Port.raise
  split
  · exact .inl ⟨‹_›, rfl⟩
  · exact .inr ⟨by omega, rfl⟩

/-- Raising commutes with a change of the request process's phase. -/
theorem Port.raises_setPhase (p : Port) (l : List EventRecord) (x : RequestPhase) :
    { p with phase := x }.raises l = { p.raises l with phase := x } := by
  induction l generalizing p with
  | nil => rfl
  | cons e l ih =>
    have h : { p with phase := x }.raise e = { p.raise e with phase := x } := by
      unfold Port.raise; split <;> rfl
    show ({ p with phase := x }.raise e).raises l = _
    rw [h]
    exact ih _

/-- A state that raises records, with only its port changed. -/
theorem State.raise_eq (s : State) (e : EventRecord) : s.raise e = { s with port := s.port.raise e } := rfl

/-! ### Requests (R161, R163) -/

/-- A request that the process has fetched is executed and answered. -/
theorem State.serve_takes {s : State} {a : Nat} {r : Request} (h : s.serves a r) (execute : State → Reply) :
    s.serve r execute = .next (execute s).answered := by
  simp [State.serve, State.takes, h.1, h.2]

/-- A request that the process has not fetched is no step. -/
theorem State.serve_skips {s : State} {r : Request} (h : s.takes r = false) (execute : State → Reply) :
    s.serve r execute = .next s := by
  simp [State.serve, h]

/-- A reply is answered into the descriptor that was fetched, where its execution left the phase as it was. -/
theorem Reply.answered_eq {r : Reply} {a : Nat} {q : Request} (h : r.state.port.phase = .executing a q) :
    r.answered =
      { r.state with port := { r.state.port with phase := .returning a ⟨r.code, false, r.values⟩ } } := by
  simp [Reply.answered, State.respond, h]

/-! ### The principal table (R1) -/

theorem Quota.find_update_same (q : Quota) (id : Nat) (new : Principal) (h : new.id = id) {p : Principal}
    (hp : q.find id = some p) : (q.update id fun _ => new).find id = some new := by
  unfold Quota.find at hp
  unfold Quota.find Quota.update
  dsimp only
  generalize q.principals = m at hp ⊢
  induction m with
  | nil => simp at hp
  | cons x l ih =>
    by_cases hx : x.id = id
    · simp [hx, h]
    · have hp' : l.find? (fun p => p.id == id) = some p := by simpa [hx] using hp
      simpa [hx] using ih hp'

theorem Quota.find_update_ne (q : Quota) (id j : Nat) (f : Principal → Principal)
    (h : ∀ p, p.id = id → (f p).id = id) (hj : j ≠ id) : (q.update id f).find j = q.find j := by
  unfold Quota.find Quota.update
  simp only
  induction q.principals with
  | nil => rfl
  | cons x l ih =>
    simp only [List.map_cons, List.find?_cons, ih]
    by_cases hx : x.id = id
    · have h1 : (id == j) = false := by simpa using fun h => hj h.symm
      simp [hx, h x hx, h1]
    · simp [hx]

theorem Quota.find_id {q : Quota} {id : Nat} {p : Principal} (h : q.find id = some p) : p.id = id := by
  have := List.find?_some h
  simpa using this

theorem State.principal_id {s : State} {id : Nat} {p : Principal} (h : s.principal id = some p) : p.id = id :=
  Quota.find_id h

/-! ### Re-derivation (R10) -/

theorem State.rederive_none (s : State) {id : Nat} (cause : QuotaCause) (op : Principal → Principal)
    (h : s.principal id = none) : s.rederive id cause op = s := by
  simp [State.rederive, h]

/-- What re-derivation does to the state, with the record that it leaves (R8, R10). -/
theorem State.rederive_eq (s : State) {id : Nat} (cause : QuotaCause) (op : Principal → Principal) {p : Principal}
    (h : s.principal id = some p) :
    s.rederive id cause op =
      { s with
        quota := s.quota.update id fun _ => { op p with grace := (op p).graceAfter s.clock.minute }
        deadlines := graceDeadlines id (op p).grace ((op p).graceAfter s.clock.minute) s.deadlines
        port := s.port.raises
          (quotaRecords p { op p with grace := (op p).graceAfter s.clock.minute } cause) } := by
  simp only [State.rederive, h, quotaRecords, State.principal_id h]
  split <;> rfl

theorem State.principal_rederive_same (s : State) {id : Nat} (cause : QuotaCause) (op : Principal → Principal)
    {p : Principal} (h : s.principal id = some p) (hid : (op p).id = id) :
    (s.rederive id cause op).principal id = some { op p with grace := (op p).graceAfter s.clock.minute } := by
  rw [State.rederive_eq s cause op h]
  exact Quota.find_update_same s.quota id { op p with grace := (op p).graceAfter s.clock.minute } hid h

theorem State.principal_rederive_ne (s : State) {id j : Nat} (cause : QuotaCause) (op : Principal → Principal)
    {p : Principal} (h : s.principal id = some p) (hid : (op p).id = id) (hj : j ≠ id) :
    (s.rederive id cause op).principal j = s.principal j := by
  rw [State.rederive_eq s cause op h]
  exact Quota.find_update_ne s.quota id j _ (fun _ _ => hid) hj

/-! ### Wake-up (R11, R118) -/

/-- The RESTORE STATE record of one slot at a wake-up, if its job wakes. -/
theorem State.wakeJob_eq (s : State) (id k : Nat) :
    s.wakeJob id k =
      { s.setJob k ((s.job k).map fun j => j.wokenFor id) with
        port := s.port.raises (match s.job k with
          | none => []
          | some j =>
            if j.principal = id ∧ j.state = .quotaWait then
              [.restoreState k j.tag j.principal .quotaWait .running j.charged j.moved]
            else []) } := by
  unfold State.wakeJob
  split
  · rename_i h
    simp [h, s.setJob_self h]
  · rename_i j h
    split
    · rename_i hw
      simp [h, Job.wokenFor, hw, State.raise]
    · rename_i hw
      simp [h, Job.wokenFor, hw, s.setJob_self h]

/-- What a wake-up does: every QUOTA-WAIT job of the principal returns to RUNNING, with RESTORE STATE, in slot
order (R11, R118). -/
theorem State.wake_spec (s : State) (id : Nat) (n : Nat) (hn : n ≤ 8) :
    let t := (List.range n).foldl (fun s k => s.wakeJob id k) s
    (∀ k, t.job k = if k < n then (s.job k).map fun j => j.wokenFor id else s.job k) ∧
    t.port = s.port.raises ((List.range n).filterMap fun k =>
      match s.job k with
      | none => none
      | some j =>
        if j.principal = id ∧ j.state = .quotaWait then
          some (.restoreState k j.tag j.principal .quotaWait .running j.charged j.moved)
        else none) ∧
    Unchanged [.jobs, .port] s t := by
  induction n with
  | zero => simp [Unchanged, Block.same]; intro b; cases b <;> simp
  | succ n ih =>
    obtain ⟨hj, hp, hu⟩ := ih (by omega)
    simp only [List.range_succ, List.foldl_append, List.foldl_cons, List.foldl_nil]
    generalize (List.range n).foldl (fun s k => s.wakeJob id k) s = u at *
    rw [State.wakeJob_eq]
    have hun : u.job n = s.job n := by rw [hj]; simp
    refine ⟨fun k => ?_, ?_, ?_⟩
    · have step : ∀ p, State.job { u.setJob n ((u.job n).map fun j => j.wokenFor id) with port := p } k =
          (u.setJob n ((u.job n).map fun j => j.wokenFor id)).job k := fun _ => rfl
      rw [step]
      by_cases h : k = n
      · subst h
        rw [State.job_setJob_same _ _ (by omega), hun]; simp
      · rw [State.job_setJob_ne _ _ h, hj]
        have : (k < n + 1) = (k < n) := by simp; omega
        simp [this]
    · simp only [hun, hp, List.filterMap_append, Port.raises_append]
      cases hs : s.job n with
      | none => simp [hs]
      | some j => by_cases h : j.principal = id ∧ j.state = .quotaWait <;> simp [hs, h]
    · intro b hb
      have := hu b hb
      cases b <;> simp_all [Block.same]

theorem State.wake_eq (s : State) {id : Nat} {p : Principal} (h : s.principal id = some p)
    (hr : 0 < p.restoreJobs) :
    (∀ k < 8, (s.wake id).job k = (s.job k).map fun j => j.wokenFor id) ∧
    (s.wake id).port = s.port.raises (s.wakeRecords id) ∧ Unchanged [.jobs, .port] s (s.wake id) := by
  have e : s.wake id = (List.range 8).foldl (fun s k => s.wakeJob id k) s := by simp [State.wake, h, hr]
  have w := State.wake_spec s id 8 (Nat.le_refl 8)
  rw [e]
  exact ⟨fun k hk => by simp [w.1 k, hk], w.2.1, w.2.2⟩

theorem State.wake_idle (s : State) {id : Nat} {p : Principal} (h : s.principal id = some p)
    (hr : p.restoreJobs = 0) : s.wake id = s := by
  simp [State.wake, h, hr]

end Sys2Proof.Machine
end

