-- ==== Sys2Proof/Laws/Nights.lean ====
section
/-! SUPPORT. What the shared operations of the duplication engine, the restore engine and the arbiter can do. -/

namespace Sys2Proof.Machine

/-! ### Nights (R132, R139, R145, R147) -/

/-- One volume's night in one state takes another, with its NIGHT STATE. -/
theorem State.shiftNight_eq (s : State) (v : Nat) (old new : NightState) (cause : NightCause) :
    s.shiftNight v old new cause =
      { s.setVolume v ((s.volume v).shifted old new) with
        port := s.port.raises (match (s.volume v).night with
          | some n =>
            if n.state = old then
              [.nightState v n.generation (some old) (some new) n.remaining cause]
            else []
          | none => []) } := by
  unfold State.shiftNight
  split
  · rename_i h
    have : (s.volume v).shifted old new = s.volume v := by
      rcases hx : s.volume v with ⟨_, _, _, _, _⟩
      simp_all [Volume.shifted]
    simp [h, this, s.setVolume_self rfl]
  · rename_i n h
    split
    · rename_i hs
      simp [State.moveNight, State.raise, h, hs, Volume.shifted]
    · rename_i hs
      have : (s.volume v).shifted old new = s.volume v := by
        rcases hx : s.volume v with ⟨_, _, _, _, _⟩
        simp_all [Volume.shifted]
      simp [h, hs, this, s.setVolume_self rfl]

/-- Every night in one state takes another, in volume order, with NIGHT STATE for each (R145, R147). -/
theorem State.shiftNights_spec (s : State) (old new : NightState) (cause : NightCause) (m : Nat) (hm : m ≤ 16) :
    let t := (List.range m).foldl (fun s v => s.shiftNight v old new cause) s
    (∀ v, t.volume v = if v < m then (s.volume v).shifted old new else s.volume v) ∧
    t.port = s.port.raises (((List.range m).filterMap fun v =>
      match (s.volume v).night with
      | some n => if n.state = old then some (v, n) else none
      | none => none).map fun x =>
        .nightState x.1 x.2.generation (some old) (some new) x.2.remaining cause) ∧
    Unchanged [.volumes, .port] s t := by
  induction m with
  | zero => simp [Unchanged, Block.same]; intro b; cases b <;> simp
  | succ m ih =>
    obtain ⟨hv, hp, hu⟩ := ih (by omega)
    simp only [List.range_succ, List.foldl_append, List.foldl_cons, List.foldl_nil]
    generalize (List.range m).foldl (fun s v => s.shiftNight v old new cause) s = u at *
    rw [State.shiftNight_eq]
    have hum : u.volume m = s.volume m := by rw [hv]; simp
    refine ⟨fun v => ?_, ?_, ?_⟩
    · have step : ∀ p, State.volume { u.setVolume m ((u.volume m).shifted old new) with port := p } v =
          (u.setVolume m ((u.volume m).shifted old new)).volume v := fun _ => rfl
      rw [step]
      by_cases h : v = m
      · subst h
        rw [State.volume_setVolume_same _ _ (by omega), hum]; simp
      · rw [State.volume_setVolume_ne _ _ h, hv]
        have : (v < m + 1) = (v < m) := by simp; omega
        simp [this]
    · simp only [hum, hp, List.filterMap_append, List.map_append, Port.raises_append]
      cases hn : (s.volume m).night with
      | none => simp [hn]
      | some n => by_cases h : n.state = old <;> simp [hn, h]
    · intro b hb
      have := hu b hb
      cases b <;> simp_all [Block.same]

/-- What R145 and R147 do to the nights of all volumes. -/
theorem State.shiftNights_eq (s : State) (old new : NightState) (cause : NightCause) :
    (∀ v < 16, (s.shiftNights old new cause).volume v = (s.volume v).shifted old new) ∧
    (s.shiftNights old new cause).port = s.port.raises (s.shiftRecords old new cause) ∧
    Unchanged [.volumes, .port] s (s.shiftNights old new cause) := by
  have w := State.shiftNights_spec s old new cause 16 (Nat.le_refl 16)
  exact ⟨fun v hv => (w.1 v).trans (if_pos hv), w.2.1, w.2.2⟩

/-- A night that is not FINISHING or ABANDONING, or that has permits outstanding, does not end (R139). -/
theorem State.endNightIfDone_open (s : State) {v : Nat} {n : Night} (h : (s.volume v).night = some n)
    (ho : ¬ (n.state.closing = true ∧ n.permits = 0)) : s.endNightIfDone v = s := by
  unfold State.endNightIfDone
  simp only [h]
  cases hs : n.state <;> simp_all [NightState.closing]

/-- A FINISHING or ABANDONING night without a permit outstanding ends (R139, R104). -/
theorem State.endNightIfDone_done (s : State) {v : Nat} {n : Night} (h : (s.volume v).night = some n)
    (hc : n.state.closing = true) (hp : n.permits = 0) : NightEnds s (s.endNightIfDone v) v n := by
  have hv := State.night_lt s h
  have e : s.endNightIfDone v =
      (s.setVolume v ((s.volume v).endNight n)).raise
        (.nightState v n.generation (some n.state) none n.remaining .ended) := by
    unfold State.endNightIfDone
    simp only [h]
    cases hs : n.state <;> simp_all [NightState.closing]
  rw [e]
  refine ⟨?_, ?_, ?_, ?_⟩
  · simp [State.volume_setVolume_same _ _ hv, Volume.endNight, Volume.update]
  · intro w hw
    simp [State.volume_setVolume_ne _ _ hw]
  · simp
  · intro b hb; cases b <;> simp_all [Block.same]

/-! ### Restore jobs (R117) -/

theorem State.endJobIfDone_open (s : State) {k : Nat} {j : Job} (h : s.job k = some j)
    (ho : ¬ (j.state.closing = true ∧ j.permits = 0)) : s.endJobIfDone k = s := by
  unfold State.endJobIfDone
  simp only [h]
  cases hs : j.state <;> simp_all [JobState.closing]

/-- A FINISHING or CANCELLING job without a permit outstanding ends (R117). -/
theorem State.endJobIfDone_done (s : State) {k : Nat} {j : Job} (h : s.job k = some j)
    (hc : j.state.closing = true) (hp : j.permits = 0) : JobEnds s (s.endJobIfDone k) k j := by
  have hk := State.job_lt s h
  have e : s.endJobIfDone k = s.endJob k j := by
    unfold State.endJobIfDone
    simp only [h]
    cases hs : j.state <;> simp_all [JobState.closing]
  have retired : ∀ (u : State) (v : Nat) (r : Option Snapshot),
      u.raiseRetired v r =
        { u with port := u.port.raises (r.toList.map fun r => .snapRetired v r.generation r.created r.status) } := by
    intro u v r
    cases r <;> rfl
  rw [e, State.endJob, retired]
  refine ⟨?_, ?_, ?_, ?_, rfl, rfl, ?_, ?_⟩
  · exact State.job_setJob_same _ _ hk
  · intro m hm
    exact State.job_setJob_ne _ _ hm
  · show (s.setVolume j.volume ((s.volume j.volume).release j.generation)).volume j.volume = _
    by_cases hv : j.volume < 16
    · exact State.volume_setVolume_same _ _ hv
    · have : s.volume j.volume = {} := by simp [State.volume, hv]
      simp [State.volume, hv, Volume.release, Volume.retiredByRelease, Volume.snapshot, Volume.update]
  · intro v hv
    exact State.volume_setVolume_ne _ _ hv
  · simp
  · intro b hb; cases b <;> simp_all [Block.same]

/-- A RESTORE permit has left the table of a job that stands (R125 step 3, R127 step 4). -/
theorem State.jobPermitGone_eq (s : State) {k : Nat} {j : Job} (f : Job → Job) (h : s.job k = some j) :
    s.jobPermitGone k f =
      (s.setJob k (some { f j with permits := j.permits - 1 })).endJobIfDone k := by
  simp [State.jobPermitGone, h]

/-- A DUPLICATE permit has left the table of a night that stands (R126, R127 step 5). -/
theorem State.nightPermitGone_eq (s : State) {v : Nat} {n : Night} (moved : Nat)
    (h : (s.volume v).night = some n) :
    s.nightPermitGone v moved =
      (s.setVolume v { s.volume v with
        night := some { n with remaining := n.remaining - moved, permits := n.permits - 1 } }).endNightIfDone v := by
  simp [State.nightPermitGone, h]

/-! ### The arbiter (R120 to R123) -/

/-- Settling the precedence count changes nothing else, and leaves it as it was or at 0 (R120). -/
theorem State.settlePrecedence_spec (s : State) :
    s.settlePrecedence = { s with arbiter := { s.arbiter with precedence := s.settlePrecedence.arbiter.precedence } } ∧
    (s.settlePrecedence.arbiter.precedence = s.arbiter.precedence ∨
      s.settlePrecedence.arbiter.precedence = 0) := by
  unfold State.settlePrecedence
  split
  · exact ⟨rfl, .inl rfl⟩
  · exact ⟨rfl, .inr rfl⟩

/-- The first of `n` places after a pointer that meets a condition, where there is one (R121, R122). -/
theorem firstAfter_some {n pointer place : Nat} {p : Nat → Bool} (h : firstAfter n pointer p = some place) :
    FirstFrom n (pointer + 1) place fun k => p k = true := by
  unfold firstAfter at h
  rw [List.find?_eq_some_iff_append] at h
  obtain ⟨hp, as, bs, he, ha⟩ := h
  have hl : as.length < n := by
    have := congrArg List.length he
    simp at this
    omega
  refine ⟨as.length, hl, ?_, hp, ?_⟩
  · have := congrArg (fun l => l[as.length]?) he
    simp [hl] at this
    exact this.symm
  · intro i hi hq
    have := congrArg (fun l => l[i]?) he
    simp [show i < n by omega] at this
    have hm := ha as[i] (by simp)
    simp_all [List.getElem?_append_left hi]

/-- No place meets the condition where none is found. -/
theorem firstAfter_none {n pointer : Nat} {p : Nat → Bool} (h : firstAfter n pointer p = none) (hn : 0 < n) :
    ∀ k < n, p k = false := by
  unfold firstAfter at h
  rw [List.find?_eq_none] at h
  intro k hk
  have := h k (by
    simp only [List.mem_map, List.mem_range]
    refine ⟨(k + n - (pointer + 1) % n) % n, Nat.mod_lt _ hn, ?_⟩
    have h1 := Nat.mod_lt (pointer + 1) hn
    rw [Nat.add_mod, Nat.mod_mod, Nat.add_mod_mod]
    have : (pointer + 1) % n + (k + n - (pointer + 1) % n) = k + n := by omega
    rw [this]
    simp [Nat.mod_eq_of_lt hk])
  simpa using this

end Sys2Proof.Machine
end

