-- ==== Sys2Proof/Laws/Quota.lean ====
section
/-! SUPPORT. What the operations of the quota unit can do: grants, credits and contribution updates, the notice
queue, the contribution map and the deadline list. -/

namespace Sys2Proof.Machine

/-! ### Deadline list (R155, R156) -/

theorem mem_insertDeadline (d e : Deadline) (l : List Deadline) :
    e ∈ insertDeadline d l ↔ e = d ∨ e ∈ l := by
  induction l with
  | nil => simp [insertDeadline]
  | cons x l ih =>
    simp only [insertDeadline]
    split
    · simp only [List.mem_cons, ih]
      constructor
      · rintro (h | h | h) <;> simp [h]
      · rintro (h | h | h) <;> simp [h]
    · simp

/-- An insertion keeps the list in order of due minute (R155). -/
theorem pairwise_insertDeadline (d : Deadline) {l : List Deadline} (h : l.Pairwise fun a b => a.due ≤ b.due) :
    (insertDeadline d l).Pairwise fun a b => a.due ≤ b.due := by
  induction l with
  | nil => simp [insertDeadline]
  | cons x l ih =>
    rw [List.pairwise_cons] at h
    simp only [insertDeadline]
    split
    · rename_i hx
      refine List.pairwise_cons.2 ⟨fun y hy => ?_, ih h.2⟩
      rcases (mem_insertDeadline d y l).1 hy with rfl | hy
      · exact hx
      · exact h.1 y hy
    · rename_i hx
      refine List.pairwise_cons.2 ⟨fun y hy => ?_, List.pairwise_cons.2 h⟩
      rcases List.mem_cons.1 hy with rfl | hy
      · omega
      · have := h.1 y hy
        omega

theorem mem_removeDeadline (o : DeadlineObject) (e : Deadline) (l : List Deadline) :
    e ∈ removeDeadline o l ↔ e ∈ l ∧ e.object ≠ o := by
  simp [removeDeadline]

/-! ### Notice queue (R81 to R83) -/

theorem Notice.queueNormal_frame (n : Notice) (id : Nat) : (n.queueNormal id).frame = n.frame := by
  unfold Notice.queueNormal; split <;> rfl
theorem Notice.queueUrgent_frame (n : Notice) (id : Nat) : (n.queueUrgent id).frame = n.frame := by
  unfold Notice.queueUrgent; split <;> rfl

/-- Queueing NORMAL adds the principal to the queue and takes none away (R82). -/
theorem Notice.queueNormal_mem (n : Notice) (id x : Nat) :
    x ∈ (n.queueNormal id).urgent ++ (n.queueNormal id).normal ↔ x = id ∨ x ∈ n.urgent ++ n.normal := by
  unfold Notice.queueNormal
  split
  · rename_i h
    simp only [Notice.queued, Bool.or_eq_true, List.contains_iff_mem] at h
    constructor
    · exact fun hx => .inr hx
    · rintro (rfl | hx)
      · simpa using h
      · exact hx
  · simp only [List.mem_append, List.mem_singleton]
    constructor
    · rintro (h | h | h) <;> simp [h]
    · rintro (h | h | h) <;> simp [h]

/-- A principal queued URGENT stands in URGENT, and no principal leaves URGENT by it (R82). -/
theorem Notice.queueUrgent_urgent (n : Notice) (id x : Nat) :
    x ∈ (n.queueUrgent id).urgent ↔ x = id ∨ x ∈ n.urgent := by
  unfold Notice.queueUrgent
  split
  · rename_i h
    have h : id ∈ n.urgent := by simpa using h
    constructor
    · exact fun hx => .inr hx
    · rintro (rfl | hx)
      · exact h
      · exact hx
  · simp only [List.mem_append, List.mem_singleton]
    exact Or.comm

theorem Notice.queueNormal_urgent (n : Notice) (id : Nat) : (n.queueNormal id).urgent = n.urgent := by
  unfold Notice.queueNormal; split <;> rfl

/-! ### Contribution map (R4, R5) -/

theorem insertContribution_perm (c : Contribution) (l : List Contribution) :
    (insertContribution c l).Perm (c :: l) := by
  induction l with
  | nil => exact .refl _
  | cons x l ih =>
    simp only [insertContribution]
    split
    · exact (ih.cons x).trans (.swap c x l)
    · exact .refl _

theorem find_insertContribution_ne (c : Contribution) (l : List Contribution) (j k : Nat)
    (h : ¬ (c.principal = j ∧ c.station = k)) :
    (insertContribution c l).find? (fun e => e.principal == j && e.station == k) =
      l.find? (fun e => e.principal == j && e.station == k) := by
  have hc : (c.principal == j && c.station == k) = false := by simpa using h
  induction l with
  | nil => simp [insertContribution, hc]
  | cons x l ih =>
    simp only [insertContribution]
    split
    · simp only [List.find?_cons, ih]
    · simp [List.find?_cons, hc]

/-- What setting an entry does to what is read for every pair (R5 step 2). -/
theorem contribution_setContribution (q : Quota) (id station value j k : Nat) :
    ({ q with contributions := setContribution id station value q.contributions } : Quota).contribution j k =
      if j = id ∧ k = station then value else q.contribution j k := by
  have others : ¬ (j = id ∧ k = station) →
      (q.contributions.filter fun c => !(c.principal == id && c.station == station)).find?
        (fun e => e.principal == j && e.station == k) =
      q.contributions.find? (fun e => e.principal == j && e.station == k) := by
    intro h
    rw [List.find?_filter]
    congr 1
    funext e
    by_cases he : e.principal = j ∧ e.station = k
    · obtain ⟨rfl, rfl⟩ := he
      have : (e.principal == id && e.station == station) = false := by simpa using h
      simp [this]
    · have : (e.principal == j && e.station == k) = false := by simpa using he
      simp [this]
  have none_left : (q.contributions.filter fun c => !(c.principal == id && c.station == station)).find?
      (fun e => e.principal == id && e.station == station) = none := by
    rw [List.find?_eq_none]
    intro e he
    have := (List.mem_filter.1 he).2
    simp at this ⊢
    grind
  unfold Quota.contribution setContribution
  dsimp only
  by_cases hv : value = 0
  · rw [if_pos hv]
    split
    · rename_i h
      obtain ⟨rfl, rfl⟩ := h
      rw [none_left, hv]
      rfl
    · rename_i h
      rw [others h]
  · rw [if_neg hv]
    split
    · rename_i h
      obtain ⟨rfl, rfl⟩ := h
      generalize q.contributions.filter (fun c => !(c.principal == j && c.station == k)) = l at none_left ⊢
      have : (insertContribution ⟨j, k, value⟩ l).find? (fun e => e.principal == j && e.station == k) =
          some ⟨j, k, value⟩ := by
        induction l with
        | nil => simp [insertContribution]
        | cons x l ih =>
          simp only [insertContribution]
          rw [List.find?_cons] at none_left
          split at none_left
          · cases none_left
          · rename_i hx
            split
            · simp [hx, ih none_left]
            · simp
      simp [this]
    · rename_i h
      rw [find_insertContribution_ne _ _ _ _ (fun e => h ⟨e.1.symm, e.2.symm⟩), others h]

/-- Whether there is an entry for a pair after it has been set (R5 step 2). -/
theorem contributes_setContribution (q : Quota) (id station value : Nat) :
    ({ q with contributions := setContribution id station value q.contributions } : Quota).contributes id station =
      decide (0 < value) := by
  unfold Quota.contributes setContribution
  dsimp only
  by_cases hv : value = 0
  · rw [if_pos hv]
    simp only [hv, List.any_filter]
    simp
    grind
  · rw [if_neg hv, (insertContribution_perm _ _).any_eq]
    simp
    omega

/-! ### Grants, credits and contribution updates (R26, R27, R19, R5) -/

/-- What a grant does to the state (R26, R27). -/
theorem State.grant_eq (s : State) {id : Nat} (n : Nat) (cause : QuotaCause) {p : Principal}
    (h : s.principal id = some p) :
    let q := { p.charged n with grace := (p.charged n).graceAfter s.clock.minute }
    s.grant id n cause =
      if s.config.reportStep ≤ q.unannounced ∨ p.quotaState ≠ q.quotaState then
        (s.rederive id cause fun p => p.charged n).queueNormal id
      else s.rederive id cause fun p => p.charged n := by
  have hid : (p.charged n).id = id := by
    have := State.principal_id h
    unfold Principal.charged; split <;> exact this
  have := State.principal_rederive_same s cause (fun p => p.charged n) h hid
  simp only [State.grant, h, this, Option.getD_some]

/-- What a credit does to the state (R19). -/
theorem State.credit_eq (s : State) {id : Nat} (n : Nat) (cause : QuotaCause) {p : Principal}
    (h : s.principal id = some p) :
    let p' := { p with lc := p.lc - n }
    let q := { p' with grace := p'.graceAfter s.clock.minute }
    let derived := s.rederive id cause fun p => { p with lc := p.lc - n }
    let queued := if p.quotaState ≠ q.quotaState ∨ s.config.reportStep ≤ absDiff q.lc q.la then
      derived.queueNormal id else derived
    s.credit id n cause = if q.lc < p.lc then queued.wake id else queued := by
  have hid := State.principal_id h
  have := State.principal_rederive_same s cause (fun p => { p with lc := p.lc - n }) h hid
  simp only [State.credit, h, this, Option.getD_some]

theorem State.credit_none (s : State) {id : Nat} (n : Nat) (cause : QuotaCause) (h : s.principal id = none) :
    s.credit id n cause = s := by
  simp [State.credit, h]

theorem State.grant_none (s : State) {id : Nat} (n : Nat) (cause : QuotaCause) (h : s.principal id = none) :
    s.grant id n cause = s := by
  simp [State.grant, h]

/-! ### Frames -/

/-- Re-derivation touches the quota unit, the deadline list and the event queue only (R8, R10). -/
theorem State.rederive_frame (s : State) (id : Nat) (cause : QuotaCause) (op : Principal → Principal) :
    Unchanged [.quota, .deadlines, .port] s (s.rederive id cause op) := by
  intro b hb
  unfold State.rederive
  split <;> cases b <;> first | rfl | simp_all

/-- A wake-up touches the restore table and the event queue only (R11). -/
theorem State.wake_frame (s : State) (id : Nat) : Unchanged [.jobs, .port] s (s.wake id) := by
  cases h : s.principal id with
  | none => intro b _; cases b <;> simp [Block.same, State.wake, h]
  | some p =>
    by_cases hp : 0 < p.restoreJobs
    · exact (State.wake_eq s h hp).2.2
    · rw [State.wake_idle s h (by omega)]
      intro b _; cases b <;> rfl

theorem Unchanged.trans {l m : List Block} {s t u : State} (h : Unchanged l s t) (k : Unchanged m t u) :
    Unchanged (l ++ m) s u := by
  intro b hb
  have hb' : b ∉ l ∧ b ∉ m := by simpa using hb
  have h1 := h b hb'.1
  have h2 := k b hb'.2
  cases b <;> simp_all [Block.same]

theorem Unchanged.mono {l m : List Block} {s t : State} (h : Unchanged l s t) (hm : ∀ b ∈ l, b ∈ m) :
    Unchanged m s t := fun b hb => h b fun hl => hb (hm b hl)

/-- A contribution update touches the quota unit, the deadline list, the restore table and the event queue only
(R5). -/
theorem State.contribute_frame (s : State) (id station value : Nat) (cause : QuotaCause) :
    Unchanged [.quota, .deadlines, .port, .jobs] s (s.contribute id station value cause) := by
  unfold State.contribute
  split
  · intro b _; cases b <;> rfl
  · split
    · intro b _; cases b <;> rfl
    · dsimp only
      generalize hu : ({ s with quota := { s.quota with
        contributions := setContribution id station value s.quota.contributions } } : State) = u
      have hs : Unchanged [.quota] s u := by subst hu; intro b hb; cases b <;> simp_all [Block.same]
      split
      · refine ((hs.trans (State.rederive_frame u id cause _)).trans (State.wake_frame _ id)).mono ?_
        simp
      · refine (hs.trans (State.rederive_frame u id cause _)).mono ?_
        simp

/-- A grant touches the quota unit, the deadline list, the notice queue and the event queue only (R26, R27). -/
theorem State.grant_frame (s : State) (id n : Nat) (cause : QuotaCause) :
    Unchanged [.quota, .deadlines, .port, .notice] s (s.grant id n cause) := by
  cases h : s.principal id with
  | none => rw [State.grant_none s n cause h]; intro b _; cases b <;> rfl
  | some p =>
    rw [State.grant_eq s n cause h]
    dsimp only
    have := State.rederive_frame s id cause fun p => p.charged n
    split
    · refine (this.trans (m := [.notice]) ?_).mono (by simp)
      intro b hb; cases b <;> simp_all [Block.same]
    · exact this.mono (by simp)

/-- A credit touches the quota unit, the deadline list, the notice queue, the restore table and the event queue
only (R19). -/
theorem State.credit_frame (s : State) (id n : Nat) (cause : QuotaCause) :
    Unchanged [.quota, .deadlines, .port, .notice, .jobs] s (s.credit id n cause) := by
  cases h : s.principal id with
  | none => rw [State.credit_none s n cause h]; intro b _; cases b <;> rfl
  | some p =>
    rw [State.credit_eq s n cause h]
    dsimp only
    generalize hd : s.rederive id cause (fun p => { p with lc := p.lc - n }) = d
    have h1 : Unchanged [.quota, .deadlines, .port] s d := hd ▸ State.rederive_frame s id cause _
    have h2 : ∀ b : Bool, Unchanged [.quota, .deadlines, .port, .notice] s
        (if b = true then d.queueNormal id else d) := by
      intro b
      cases b
      · exact h1.mono (by simp)
      · refine (h1.trans (m := [.notice]) ?_).mono (by simp)
        intro b hb; cases b <;> simp_all [Block.same]
    have h3 := h2 (decide (p.quotaState ≠
      ({ p with lc := p.lc - n, grace := ({ p with lc := p.lc - n } : Principal).graceAfter s.clock.minute } :
        Principal).quotaState ∨ s.config.reportStep ≤ absDiff (p.lc - n) p.la))
    simp only [decide_eq_true_eq] at h3
    split
    · exact (h3.trans (State.wake_frame _ id)).mono (by simp)
    · exact h3.mono (by simp)

end Sys2Proof.Machine
end

