-- ==== Sys2Proof/Laws/Deadlines.lean ====
section
/-! SUPPORT. What the expiry of deadlines can do: one expiry, the run, and the test at the end of an operation. -/

namespace Sys2Proof.Machine

/-! ### The test at the end of an operation (R155, R157) -/

/-- An operation that left the deadline list as it was ends without a test. -/
theorem State.insertionTest_of_eq {s before : State} (h : s.deadlines = before.deadlines) :
    s.insertionTest before = s := by
  simp [State.insertionTest, State.hasInserted, h]

/-- An operation that inserted an entry ends with the test. -/
theorem State.insertionTest_of_mem {s before : State} {d : Deadline} (h : d ∈ s.deadlines)
    (hn : d ∉ before.deadlines) : s.insertionTest before = s.takeRun := by
  have : s.hasInserted before = true := by
    simp only [State.hasInserted, List.any_eq_true]
    exact ⟨d, h, by simpa using hn⟩
  simp [State.insertionTest, this]

/-- A request that the process has fetched is executed and answered, and its operation ends with the test. -/
theorem State.serveInserting_takes {s : State} {a : Nat} {r : Request} (h : s.serves a r)
    (execute : State → Reply) : s.serveInserting r execute = .next ((execute s).answered.insertionTest s) := by
  simp [State.serveInserting, State.takes, h.1, h.2]

/-- A request that the process has not fetched is no step. -/
theorem State.serveInserting_skips {s : State} {r : Request} (h : s.takes r = false) (execute : State → Reply) :
    s.serveInserting r execute = .next s := by
  simp [State.serveInserting, h]

/-! ### What an expiry can change -/

/-- A night without its state. -/
def Night.stateless (n : Night) : Night := { n with state := .suspended }

/-- A principal without its grace. -/
def Principal.graceless (p : Principal) : Principal := { p with grace := .absent }

/-- All that expiries can change: the deadline list, graces, the states of nights, the event queue and the
precedence count. -/
def OnlyExpired (s t : State) : Prop :=
  Unchanged [.deadlines, .quota, .volumes, .port, .arbiter] s t ∧
  t.quota.held = s.quota.held ∧ t.quota.contributions = s.quota.contributions ∧
  (∀ id, (t.principal id).map (·.graceless) = (s.principal id).map (·.graceless)) ∧
  (∀ v, { t.volume v with night := none } = { s.volume v with night := none } ∧
    (t.volume v).night.map (·.stateless) = (s.volume v).night.map (·.stateless)) ∧
  (∃ l, t.port = s.port.raises l) ∧
  t.arbiter = { s.arbiter with precedence := t.arbiter.precedence } ∧
  (t.arbiter.precedence = s.arbiter.precedence ∨ t.arbiter.precedence = 0)

theorem OnlyExpired.refl (s : State) : OnlyExpired s s :=
  ⟨fun b _ => by cases b <;> rfl, rfl, rfl, fun _ => rfl, fun _ => ⟨rfl, rfl⟩, ⟨[], rfl⟩, rfl, .inl rfl⟩

theorem OnlyExpired.trans {s t u : State} (h : OnlyExpired s t) (k : OnlyExpired t u) : OnlyExpired s u := by
  obtain ⟨h1, h2, h3, h4, h5, ⟨l, h6⟩, h7, h8⟩ := h
  obtain ⟨k1, k2, k3, k4, k5, ⟨m, k6⟩, k7, k8⟩ := k
  refine ⟨(h1.trans k1).mono (by simp), k2.trans h2, k3.trans h3, fun id => (k4 id).trans (h4 id),
    fun v => ⟨(k5 v).1.trans (h5 v).1, (k5 v).2.trans (h5 v).2⟩, ⟨l ++ m, by rw [k6, h6, Port.raises_append]⟩, ?_, ?_⟩
  · rw [k7, h7]
  · rcases k8 with k8 | k8
    · rw [k8]; exact h8
    · exact .inr k8

/-- Re-derivation after a grace has become EXPIRED (R9). -/
theorem State.rederive_expired (s : State) (id : Nat) :
    OnlyExpired s (s.rederive id .grace fun p => { p with grace := .expired }) := by
  cases h : s.principal id with
  | none => rw [State.rederive_none s _ _ h]; exact .refl s
  | some p =>
    have hid := State.principal_id h
    refine ⟨(State.rederive_frame s id _ _).mono (by simp), ?_, ?_, fun j => ?_, ?_, ?_, ?_, ?_⟩
    · rw [State.rederive_eq s _ _ h]; rfl
    · rw [State.rederive_eq s _ _ h]; rfl
    · by_cases hj : j = id
      · subst hj
        rw [State.principal_rederive_same s _ _ h hid, h]; rfl
      · rw [State.principal_rederive_ne s _ _ h hid hj]
    · rw [State.rederive_eq s _ _ h]; exact fun v => ⟨rfl, rfl⟩
    · rw [State.rederive_eq s _ _ h]; exact ⟨_, rfl⟩
    · rw [State.rederive_eq s _ _ h]
    · rw [State.rederive_eq s _ _ h]; exact .inl rfl

/-- A night's dawn (R135). -/
theorem State.suspendNight_expired (s : State) (v : Nat) : OnlyExpired s (s.suspendNight v) := by
  have moved (n : Night) (h : (s.volume v).night = some n) : OnlyExpired s (s.moveNight v n .suspended .dawn) := by
    refine ⟨fun b hb => ?_, rfl, rfl, fun _ => rfl, fun w => ?_, ⟨[_], rfl⟩, rfl, .inl rfl⟩
    · cases b <;> simp_all [Block.same, State.moveNight, State.raise, State.setVolume]
    · have step : (s.moveNight v n .suspended .dawn).volume w =
          (s.setVolume v { s.volume v with night := some { n with state := .suspended } }).volume w := rfl
      rw [step]
      by_cases hw : w = v
      · subst hw
        by_cases hv : w < 16
        · rw [State.volume_setVolume_same _ _ hv]; simp [h, Night.stateless]
        · simp [State.volume, hv] at h
      · rw [State.volume_setVolume_ne _ _ hw]; simp
  unfold State.suspendNight
  split
  · exact .refl s
  · rename_i n h
    split
    · exact moved n h
    · exact moved n h
    · exact .refl s
    · exact .refl s
    · exact .refl s

/-- One expiry (R157). -/
theorem State.expire_expired (s : State) (d : Deadline) : OnlyExpired s (s.expire d) := by
  unfold State.expire
  split
  · exact s.rederive_expired _
  · exact s.suspendNight_expired _

/-- The expiry run, with what it means for the sides that wait (R157, R120). -/
theorem State.takeRun_expired (s : State) : OnlyExpired s s.takeRun := by
  have fold (l : List Deadline) (t : State) : OnlyExpired t (l.foldl State.expire t) := by
    induction l generalizing t with
    | nil => exact .refl t
    | cons d l ih => exact (t.expire_expired d).trans (ih _)
  have run : OnlyExpired s s.expiryRun := by
    refine OnlyExpired.trans ?_ (fold _ _)
    exact ⟨fun b hb => by cases b <;> simp_all [Block.same], rfl, rfl, fun _ => rfl, fun _ => ⟨rfl, rfl⟩,
      ⟨[], rfl⟩, rfl, .inl rfl⟩
  refine run.trans ?_
  have h := State.settlePrecedence_spec s.expiryRun
  unfold State.takeRun
  refine ⟨fun b hb => ?_, ?_, ?_, fun id => ?_, fun v => ?_, ⟨[], ?_⟩, ?_, h.2⟩ <;> rw [h.1]
  · cases b <;> simp_all [Block.same]
  · rfl
  · simp [State.volume]
  · rfl

/-- The end of an operation changes nothing but what expiries change (R157). -/
theorem State.insertionTest_expired (s before : State) : OnlyExpired s (s.insertionTest before) := by
  unfold State.insertionTest
  split
  · exact s.takeRun_expired
  · exact .refl s

end Sys2Proof.Machine
end

