-- ==== Sys2Proof/Tests/Slice0.lean ====
section
/-! SUPPORT. The model's own tests: ill-formed commands refused, the manual's worked sequences one step at a time,
and for each obligation with hypotheses a state and operands that meet them, clause by clause. -/

open Sys2Proof Sys2Proof.Machine

namespace Sys2Proof.Tests

/-! ### Ill-formed commands, one for each check of WellFormed -/

theorem test_wf_strap : (Instr.hardwareReset 15 true).wellFormed = true ∧
    (Instr.hardwareReset 16 true).wellFormed = false := by decide
theorem test_wf_image : (Instr.configLoadEnd (.image (List.replicate 39 0))).wellFormed = true ∧
    (Instr.configLoadEnd (.image (List.replicate 38 0))).wellFormed = false := by decide
theorem test_wf_load_steps : (Instr.configLoadEnd (.noAck 3)).wellFormed = true ∧
    (Instr.configLoadEnd (.noAck 4)).wellFormed = false := by decide
theorem test_wf_places : (Instr.holdTimeout 32).wellFormed = false ∧ (Instr.peerLapse 16).wellFormed = false ∧
    (Instr.permitTimeout 256).wellFormed = false := by decide
theorem test_wf_descriptors : (Instr.requestDescriptorFetch (List.replicate 63 0)).wellFormed = false ∧
    (Instr.autoPoll (.request (List.replicate 65 0))).wellFormed = false := by decide
theorem test_wf_control_bits : (Instr.requestStart 0x02).wellFormed = false ∧
    (Instr.requestStop 0x01).wellFormed = false ∧ (Instr.eventStart 0x08).wellFormed = false ∧
    (Instr.eventStop 0x04).wellFormed = false ∧ (Instr.pollDemand 0x0F).wellFormed = false ∧
    (Instr.portReset 0x7F).wellFormed = false := by decide
theorem test_wf_other_write : (Instr.otherRegisterWrite 0x30 4 0).wellFormed = true ∧
    (Instr.otherRegisterWrite 0x18 2 0).wellFormed = true ∧ (Instr.otherRegisterWrite 0x18 4 0).wellFormed = false ∧
    (Instr.otherRegisterWrite 64 4 0).wellFormed = false ∧ (Instr.otherRegisterWrite 0x30 8 0).wellFormed = false := by
  decide
theorem test_wf_operands : (Instr.principalAdd 4294967296 0 0 1 0 0).wellFormed = false ∧
    (Instr.principalAdd 1 256 0 1 0 0).wellFormed = false ∧ (Instr.principalAdd 1 0 0 1 65536 0).wellFormed = false ∧
    (Instr.principalLimits 1 0 4294967296 0).wellFormed = false ∧ (Instr.principalRemove 4294967296).wellFormed = false ∧
    (Instr.principalQuery 4294967296).wellFormed = false ∧ (Instr.credit 1 4294967296).wellFormed = false ∧
    (Instr.charge 4294967296 1).wellFormed = false ∧ (Instr.peerEvict 256).wellFormed = false ∧
    (Instr.peerQuery 256).wellFormed = false := by decide
theorem test_wf_catalogue_operands : (Instr.volumeDeclare 0 256).wellFormed = false ∧
    (Instr.snapCreate 256 0).wellFormed = false ∧ (Instr.snapRetire 0 4294967296).wellFormed = false ∧
    (Instr.catalogueQuery 256 0).wellFormed = false ∧ (Instr.restoreStart 0 256 0 1).wellFormed = false ∧
    (Instr.restoreEnd 256 0).wellFormed = false ∧ (Instr.restoreCancel 0 4294967296).wellFormed = false ∧
    (Instr.permitDone 256 0).wellFormed = false ∧ (Instr.nightOpen 0 0 0 4294967296).wellFormed = false ∧
    (Instr.nightResume 256 0).wellFormed = false ∧ (Instr.nightDone 256).wellFormed = false ∧
    (Instr.nightAbandon 256).wellFormed = false ∧ (Instr.nightQuery 256).wellFormed = false ∧
    (Instr.clockSet 4294967296).wellFormed = false := by decide

/-! ### Small states -/

/-- Station 3, JOINED and switched on, with both rings set. -/
def joined : State :=
  { straps := { station := 3 }
    peers := { station := .joined }
    bus := { tx := { state := .idle }, listening := true }
    port := { requestRing := { size := 16 }, eventRing := { size := 16 } } }

/-- A state whose request process executes a request next. -/
def serving (r : Request) (s : State) : State :=
  { s with port := { s.port with requestState := .running, phase := .executing 0 r } }

/-- The state after a command; a request row is first fetched. -/
def after (i : Instr) (s : State) : State :=
  match exec i (match i.request? with
    | some r => serving r s
    | none => s) with
  | .next t => t
  | .fault r => nomatch r
  | .refused _ => s

/-- The result code being returned. -/
def answer (s : State) : Option ResultCode :=
  match s.port.phase with
  | .returning _ x => some x.code
  | .idle | .executing _ _ => none

/-- The result values being returned, in order. -/
def answerValues (s : State) : List Nat :=
  match s.port.phase with
  | .returning _ x => x.values.map (·.value)
  | .idle | .executing _ _ => []

/-- The hypothesis that every request statement shares is met. -/
theorem serving_serves (r : Request) (s : State) : (serving r s).serves 0 r := ⟨rfl, rfl⟩

def livePeer : Peer := { state := .live, capability := some .base, age := some 0 }
def lapsedPeer : Peer := { state := .lapsed, capability := some .base, age := some 3000 }

/-- The principal of chapter 1's worked sequence after its first USAGE entry: peers 7 and 11 are LIVE. -/
def accounted : State :=
  { (joined.setPeer 7 livePeer).setPeer 11 livePeer with
    clock := { minute := 1000020 }
    quota :=
      { principals := [{ slot := 0, id := 70215, cls := .limited, soft := 200000, hard := 250000, period := 1440,
                         lc := 150000, remote := 40000 }]
        contributions := [⟨70215, 7, 40000⟩] } }

/-- The same principal in SOFT after the frame carrying 150,000 completed. -/
def softened : State :=
  { accounted with
    quota :=
      { principals := [{ slot := 0, id := 70215, cls := .limited, soft := 200000, hard := 250000, period := 1440,
                         lc := 150000, la := 150000, remote := 65000, grace := .running 1001460 }]
        contributions := [⟨70215, 7, 40000⟩, ⟨70215, 11, 25000⟩] }
    deadlines := [⟨.grace 70215, 1001460⟩] }

/-- The principal of chapter 2's first worked sequence: SOFT, with two LIVE holders. -/
def charged : State :=
  { (joined.setPeer 7 livePeer).setPeer 11 livePeer with
    quota :=
      { principals := [{ slot := 0, id := 9, cls := .limited, soft := 2097152, hard := 2621440, period := 60,
                         lc := 1930000, la := 1900000, remote := 500000, grace := .running 60 }]
        contributions := [⟨9, 7, 300000⟩, ⟨9, 11, 200000⟩] }
    deadlines := [⟨.grace 9, 60⟩] }

/-- The start of chapter 2's sequence of the limit, with V's restore job in slot 0. -/
def limited : State :=
  { ((joined.setPeer 4 livePeer).setPeer 9 livePeer).setJob 0
      (some { tag := 1, volume := 0, generation := 1, principal := 22 }) with
    quota :=
      { principals := [{ slot := 0, id := 22, cls := .limited, soft := 0, hard := 100000, period := 0,
                         lc := 60008, la := 60000, remote := 39990, restoreJobs := 1 }]
        contributions := [⟨22, 4, 20000⟩, ⟨22, 9, 19990⟩] } }

/-! ### Chapter 1: principals -/

-- The worked sequence of chapter 1, row by row.
theorem test_principal_add :
    let s := after (.principalAdd 70215 0 200000 250000 1440 150000) joined
    answer s = some .done ∧ s.notice.normal = [70215] ∧
      (s.principal 70215).map (fun p => (p.slot, p.la, p.quotaState)) = some (0, 0, .under) := by decide
theorem test_usage_entry_starts_grace :
    let s := after .usageEntryUpdate { accounted with bus := { accounted.bus with
      fifo := [{ frame := .usage 11 .base [⟨70215, 25000⟩] }], delivery := some [⟨70215, 25000⟩] } }
    (s.principal 70215).map (fun p => (p.remote, p.grace)) = some (65000, .running 1001460) ∧
      s.port.events = [.quotaState 70215 .under .soft 215000 .peer] ∧ s.bus.fifo = [] ∧
      s.deadlines = [⟨.grace 70215, 1001460⟩] := by decide +kernel
theorem test_credit :
    let s := after (.credit 70215 20000) softened
    answer s = some .done ∧ (s.principal 70215).map (·.lc) = some 130000 ∧ s.deadlines = [] ∧
      s.notice.normal = [70215] ∧ s.port.events = [.quotaState 70215 .soft .under 195000 .credit] := by decide
theorem test_credit_clamped : answer (after (.credit 70215 150001) softened) = some .clamped := by decide
theorem test_grace_expires :
    let s := after .deadlineExpiryRun { softened with clock := { minute := 1001460 } }
    s.port.events = [.quotaState 70215 .soft .expired 215000 .grace] ∧ s.deadlines = [] := by decide
theorem test_principal_limits :
    let s := after (.principalLimits 70215 240000 300000 2880) softened
    answer s = some .done ∧ s.deadlines = [] ∧
      s.port.events = [.quotaState 70215 .soft .under 215000 .limits] := by decide
theorem test_principal_remove_in_use : answer (after (.principalRemove 70215) softened) = some .inUse := by decide
theorem test_principal_remove_unannounced :
    let s := after (.principalRemove 70215) { softened with
      quota := softened.quota.update 70215 fun p => { p with lc := 0, remote := 95000, grace := .absent }
      notice := { normal := [70215] }, deadlines := [] }
    answer s = some .unannounced ∧ s.notice.urgent = [70215] ∧ s.notice.normal = [] := by decide
-- R155: a grace that starts in the last minute is due at insertion, and expires as the operation ends.
theorem test_principal_add_due_at_insertion :
    let s := after (.principalAdd 5 0 10 100 60 40) { joined with clock := { minute := 4294967295 } }
    answer s = some .done ∧ s.deadlines = [] ∧ s.port.events = [.quotaState 5 .soft .expired 40 .grace] := by
  decide +kernel
theorem test_usage_entry_due_at_insertion :
    let s := after .usageEntryUpdate { accounted with
      clock := { minute := 4294967295 }
      bus := { accounted.bus with
        fifo := [{ frame := .usage 11 .base [⟨70215, 25000⟩] }], delivery := some [⟨70215, 25000⟩] } }
    s.deadlines = [] ∧ s.port.events =
      [.quotaState 70215 .under .soft 215000 .peer, .quotaState 70215 .soft .expired 215000 .grace] := by decide +kernel
-- R18: the values in order, here the derived D, U and state.
theorem test_principal_query :
    answerValues (after (.principalQuery 9) charged) =
      [0, 0, 2097152, 2621440, 60, 1930000, 1900000, 500000, 1, 60, 0, 0, 0, 30000, 2430000, 1, 2, 2, 0] := by
  decide

/-! ### Chapter 2: charging -/

-- The worked sequence "a grant, a hold and the sync".
theorem test_charge_granted_soft :
    let s := after (.charge 9 40000) charged
    answer s = some .grantedSoft ∧ (s.principal 9).map (·.lc) = some 1970000 ∧ s.notice.normal = [9] ∧
      s.port.events = [] := by decide
theorem test_charge_held :
    let s := after (.charge 9 10000) { charged with
      quota := charged.quota.update 9 fun p => { p with lc := 1970000 }
      notice := { normal := [9] } }
    answer s = none ∧ s.quota.held.map (fun e => (e.principal, e.amount)) = [(9, 10000)] ∧
      s.notice.urgent = [9] ∧ s.notice.normal = [] ∧ s.port.requestRing.position = 1 := by decide
-- The worked sequence "two held charges across two syncs", first sync.
theorem test_sync_resolves_first_only :
    let s := after .transmitCompletion
      { ((joined.setPeer 1 livePeer).setPeer 2 livePeer).setPeer 4 livePeer with
        quota :=
          { principals := [{ slot := 0, id := 17, cls := .limited, soft := 0, hard := 1000000, period := 0,
                             lc := 400000, la := 400000, remote := 590000 }]
            contributions := [⟨17, 1, 500000⟩, ⟨17, 2, 80000⟩, ⟨17, 4, 10000⟩]
            held := [{ origin := .charge 64, principal := 17, amount := 3000 },
                     { origin := .charge 128, principal := 17, amount := 4000 }] }
        bus := { joined.bus with tx := { state := .sending, frame := some (.usage 3 .base [⟨17, 400000⟩]) } }
        notice := { frame := some ⟨.base, [⟨17, 400000, true⟩]⟩ } }
    (s.principal 17).map (fun p => (p.lc, p.la)) = some (403000, 400000) ∧ s.notice.urgent = [17] ∧
      s.quota.held.map (·.amount) = [4000] ∧ s.port.heldAnswers = [⟨64, ⟨.granted, true, []⟩⟩] := by decide
-- The worked sequence "the limit, the allowance and a timeout".
theorem test_charge_over_limit : answer (after (.charge 22 4) limited) = some .overQuota := by decide
theorem test_charge_reaches_limit :
    let s := after (.charge 22 2) limited
    answer s = some .granted ∧ s.port.events = [.quotaState 22 .under .hard 100000 .charge] ∧
      s.notice.normal = [22] := by decide
theorem test_restore_chunk_within_allowance :
    let s := after .arbiterChoice { limited with
      quota := limited.quota.update 22 fun p => { p with lc := 60010 } }
    (s.principal 22).map (·.lc) = some 60266 ∧ (s.job 0).map (fun j => (j.charged, j.permits)) = some (256, 1) ∧
      s.port.events = [.permitIssued 0 256 (.restore 0 1 0 1)] := by decide
theorem test_hold_timeout :
    let s := after (.holdTimeout 0) { limited with quota := { limited.quota with
      held := [{ origin := .charge 64, principal := 22, amount := 12000, age := 50 }] } }
    s.quota.held = [] ∧ s.port.heldAnswers = [⟨64, ⟨.busySync, true, []⟩⟩] := by decide
-- The worked sequence "a small request ring", step 4.
theorem test_blocked_charge_is_executed_again :
    let s := after .blockedChargeReexecution { serving (.charge 9 80000) charged with
      port := { (serving (.charge 9 80000) charged).port with
        requestState := .blocked, departed := true, requestRing := { size := 16, position := 15 } } }
    s.port.requestState = .running ∧ s.port.requestRing.position = 0 ∧ s.quota.held.length = 1 := by decide

/-! ### Chapter 3: the station bus -/

-- R180's example: the nine bytes 31h to 39h give 29B1h.
theorem test_check_of_nine_bytes :
    crc16 [0x31#8, 0x32#8, 0x33#8, 0x34#8, 0x35#8, 0x36#8, 0x37#8, 0x38#8, 0x39#8] = 0x29B1#16 := by decide +kernel
-- The worked sequence "two stations meet": the gap, the collision, the second attempt, completion.
theorem test_gap_starts_sending :
    (after .interframeGapComplete { joined with bus := { joined.bus with
      tx := { state := .deferring, frame := some (.presence 3 false 0 none), attempt := 1, gapRunning := true } } }
      ).bus.tx.state = .sending := by decide
theorem test_collision_jams :
    (after .collision { joined with bus := { joined.bus with
      tx := { state := .sending, frame := some (.presence 3 false 0 none), attempt := 1 } } }).bus.tx.state =
      .jamming := by decide
theorem test_backoff_end_is_attempt_two :
    let s := after .backoffEnd { joined with bus := { joined.bus with
      tx := { state := .backoff, frame := some (.presence 3 false 0 none), attempt := 1 } } }
    s.bus.tx.state = .deferring ∧ s.bus.tx.attempt = 2 ∧ s.bus.tx.gapRunning = true := by decide
-- R46, R48: after the own jam the line stays busy while another station jams, and the gap starts when it falls quiet.
theorem test_gap_waits_for_the_other_jam :
    let s := after .backoffEnd (after .jamEnd (after .collision { joined with bus := { joined.bus with
      tx := { state := .sending, frame := some (.presence 3 false 0 none), attempt := 1 }, line := { echo := true } } }))
    (s.bus.tx.state, s.bus.tx.gapRunning) = (.deferring, false) ∧
      (after .interframeGapComplete s).bus.tx.state = .deferring ∧
      (after (.burstReceived []) s).bus.tx.gapRunning = true := by decide
theorem test_busy_line_discards_gap :
    (after .lineBecomesBusy { joined with bus := { joined.bus with
      tx := { state := .deferring, gapRunning := true } } }).bus.tx.gapRunning = false := by decide
theorem test_holdoff_lasts_ten_ticks :
    (after .holdoffEnd { joined with bus := { joined.bus with tx := { state := .holdoff, holdoffTicks := 9 } } }
      ).bus.tx.state = .holdoff ∧
    (after .holdoffEnd { joined with bus := { joined.bus with tx := { state := .holdoff, holdoffTicks := 10 } } }
      ).bus.tx.state = .idle := by decide
/-- A PRESENCE of a station, as it stands on the line. -/
def presenceBytes (sender : Nat) : List Byte := (Frame.presence sender true 7 none).bytes
-- The worked sequence "a clash while a frame is backing off".
theorem test_own_number_is_a_clash :
    let s := after (.burstReceived (presenceBytes 3)) { joined with
      bus := { joined.bus with
        tx := { state := .backoff, frame := some (.usage 3 .base [⟨1, 10⟩, ⟨2, 20⟩]), attempt := 1 } }
      notice := { frame := some ⟨.base, [⟨1, 10, true⟩, ⟨2, 20, false⟩]⟩ } }
    s.bus.tx.state = .silenced ∧ s.bus.tx.frame = none ∧ s.notice = { urgent := [1], normal := [2] } ∧
      s.port.events = [.stationState .joined .clash] := by decide +kernel
theorem test_ninth_frame_is_dropped :
    (after (.burstReceived (presenceBytes 5)) { joined with bus := { joined.bus with
      fifo := List.replicate 8 { frame := .presence 5 true 7 none } } }).bus.fifo.length = 8 := by decide +kernel

/-! ### Chapter 4: peers and station states -/

theorem test_presence_delivery_makes_a_peer :
    let s := after .frameDelivery { joined with bus := { joined.bus with
      fifo := [{ frame := .presence 5 true 6 (some ⟨10, 20, false⟩), age := 4 }] } }
    s.peer 5 = { state := .live, capability := some .extended, age := some 4, claim := some ⟨10, 20, false⟩,
                 skew := true } ∧
      s.port.events = [.peerState 5 .absent .live, .clockSkew 5 6 0] ∧ s.peers.format = .extended := by decide
theorem test_lapse :
    let s := after (.peerLapse 7) (joined.setPeer 7 { livePeer with age := some 3000 })
    (s.peer 7).state = .lapsed ∧ s.port.events = [.peerState 7 .live .lapsed] := by decide
-- The worked sequence "evicting a departed server".
theorem test_evict_live_peer : answer (after (.peerEvict 7) (joined.setPeer 7 livePeer)) = some .peerLive := by decide
theorem test_evict_lapsed_peer :
    let s := after (.peerEvict 11) (joined.setPeer 11 lapsedPeer)
    answer s = some .done ∧ s.peers.eviction = some { station := 11 } ∧
      s.port.events = [.peerState 11 .lapsed .evicting] := by decide
/-- The sweep at slot 2, with one step given. -/
def sweeping : State :=
  { joined.setPeer 11 { lapsedPeer with state := .evicting } with
    quota :=
      { principals := [{ slot := 2, id := 50, cls := .limited, soft := 0, hard := 500000, period := 0,
                         lc := 100000, remote := 410000 }]
        contributions := [⟨50, 11, 410000⟩] } }
theorem test_sweep_step :
    let s := sweeping
    let t := after .evictionSweepStep { s with peers := { s.peers with
      eviction := some { station := 11, pointer := 2, owed := 1 } } }
    t.peers.eviction = some { station := 11, pointer := 3, removed := 1 } ∧ t.quota.contributions = [] ∧
      t.port.events = [.quotaState 50 .hard .under 100000 .evict] := by decide
theorem test_sweep_end :
    let s := after .evictionSweepStep { sweeping with peers := { sweeping.peers with
      eviction := some { station := 11, pointer := 65535, removed := 3, owed := 1 } } }
    (s.peer 11).state = .absent ∧ s.peers.eviction = none ∧
      s.port.events = [.peerState 11 .evicting .absent, .evictDone 11 3] := by decide
theorem test_isolation_needs_peers :
    (after .isolation { joined with peers := { joined.peers with silenceAge := 5000 } }).peers.station = .isolated ∧
    (after .isolation { joined with
      loader := { config := { stationCount := 1 } }
      peers := { joined.peers with silenceAge := 5000 } }).peers.station = .joined := by decide
theorem test_learning_time_reached :
    (after .learningTimeReached { joined with
      peers := { station := .learning, learningCount := 1100000, silenceAge := 9 } }).peers.station = .joined := by decide
theorem test_presence_due :
    (after .presenceDue { joined with peers := { joined.peers with presenceCount := 1000 } }).peers.presenceDue =
      true := by decide
theorem test_peer_query_self : answerValues (after (.peerQuery 3) joined) =
    [4, 3, 0, 0, 0, 0, 0, 0, 0, 3, 2, 0, 0, 0, 0, 0, 0, 0, 0, 0, 0, 1, 0] := by decide

/-! ### Chapter 5: usage notices -/

/-- The principals of chapter 5's worked sequence: A to E are 1 to 5. -/
def noticed : State :=
  { joined with quota := { principals :=
    [{ slot := 9, id := 1, cls := .limited, soft := 0, hard := 900000, period := 0, lc := 70000, la := 70000 },
     { slot := 10, id := 2, cls := .limited, soft := 0, hard := 900000, period := 0, lc := 31000, la := 24000 },
     { slot := 11, id := 4, cls := .limited, soft := 0, hard := 900000, period := 0, lc := 20000, la := 20000 },
     { slot := 12, id := 5, cls := .limited, soft := 0, hard := 900000, period := 0, lc := 9000, la := 9000 },
     { slot := 14, id := 3, cls := .limited, soft := 0, hard := 900000, period := 0, lc := 50000, la := 44000 }] } }
-- Step 4 at slot 12, and at the free slot 13.
theorem test_refresh_sweep :
    let s := { noticed with notice := { urgent := [4, 1], normal := [2, 3], refreshPointer := 12, sweepCredit := 1000 } }
    (after .refreshSweepStep s).notice.normal = [2, 3, 5] ∧
    (after .refreshSweepStep { s with notice := { s.notice with refreshPointer := 13 } }).notice.normal = [2, 3] := by
  decide
-- Step 5: the frame takes URGENT, then NORMAL.
theorem test_usage_frame_built :
    let s := after .transmitterTakeFrame { noticed with notice := { urgent := [4, 1], normal := [2, 3, 5] } }
    s.notice = { frame := some ⟨.base, [⟨4, 20000, true⟩, ⟨1, 70000, true⟩, ⟨2, 31000, false⟩, ⟨3, 50000, false⟩,
      ⟨5, 9000, false⟩]⟩ } ∧ s.bus.tx.attempt = 1 := by decide
-- Step 9: the 16th attempt fails.
theorem test_abandoned_frame_returns :
    let entries : List NoticeEntry :=
      [⟨4, 20000, true⟩, ⟨1, 70000, true⟩, ⟨2, 31000, false⟩, ⟨3, 50000, false⟩, ⟨5, 9000, false⟩]
    let carried : Frame := .usage 3 .base (entries.map fun e => ⟨e.principal, e.value⟩)
    let s := after .jamEnd { noticed with
      quota := { noticed.quota with held := [{ origin := .charge 0, principal := 4, amount := 5000 },
        { origin := .charge 64, principal := 1, amount := 2000 }, { origin := .charge 128, principal := 2, amount := 6000 }] }
      notice := { urgent := [2], normal := [3, 4], frame := some ⟨.base, entries⟩ }
      bus := { joined.bus with tx := { state := .jamming, attempt := 16, frame := some carried } } }
    s.notice = { urgent := [1, 2, 4], normal := [5, 3] } ∧ s.bus.tx.state = .holdoff ∧
      s.port.events = [.busExcessCollision (some (.base, 5))] := by decide
theorem test_notice_query : answerValues (after .noticeQuery { noticed with notice := { urgent := [2], normal := [3, 4] } }) =
    [1, 2, 1, 2, 1, 3, 0, 0, 0, 0, 0] := by decide

/-! ### Chapter 6: the catalogue -/

/-- Volume 2 with two snapshots, generation 5 the base, and generation 6 held once. -/
def catalogued : State :=
  joined.setVolume 2
    { declared := true, offsite := true, base := some 5
      snapshots := [{ generation := 5, created := 1, status := .offsite }, { generation := 6, created := 2, holds := 1 }] }
theorem test_volume_declare : answer (after (.volumeDeclare 2 1) joined) = some .done ∧
    answer (after (.volumeDeclare 2 0) catalogued) = some .exists_ := by decide
theorem test_snap_create : answerValues (after (.snapCreate 2 7) catalogued) = [3] ∧
    answer (after (.snapCreate 2 6) catalogued) = some .outOfOrder := by decide
theorem test_snap_retire : answer (after (.snapRetire 2 5) catalogued) = some .isBase ∧
    answer (after (.snapRetire 2 6) catalogued) = some .pending ∧
    answer (after (.snapRetire 2 9) catalogued) = some .notFound := by decide
theorem test_catalogue_query : (answerValues (after (.catalogueQuery 2 6) catalogued)).length > 8 ∧
    answer (after (.catalogueQuery 3 0) catalogued) = some .notDeclared := by decide

/-! ### Chapter 7: restores and permits -/

/-- The job of chapter 7's sequence, for W in slot 2. -/
def jobW (state : JobState) (permits charged moved expired : Nat) : Job :=
  { tag := 41, volume := 0, generation := 1, principal := 23, state := state, permits := permits
    charged := charged, moved := moved, expired := expired }
/-- W of chapter 7's sequence after step 4: three permits outstanding, the job in QUOTA-WAIT. -/
def restoring : State :=
  { (joined.setJob 2 (some (jobW .quotaWait 3 768 0 0))).setVolume 0
      { declared := true, snapshots := [{ generation := 1, created := 0, holds := 1 }] } with
    quota := { principals := [{ slot := 0, id := 23, cls := .limited, soft := 0, hard := 100000, period := 0,
                                lc := 104768, la := 104000, restoreJobs := 1 }] }
    arbiter := { joined.arbiter with
      nextId := 20
      permits := [{ id := 17, owner := .job 2 23, chunk := 256 },
                  { id := 18, owner := .job 2 23, chunk := 256, age := 60000 },
                  { id := 19, owner := .job 2 23, chunk := 256 }] } }
/-- The same job FINISHING with permit 20 alone, one permit having expired (step 12). -/
def finishing : State :=
  { restoring.setJob 2 (some (jobW .finishing 1 868 612 1)) with
    arbiter := { restoring.arbiter with permits := [{ id := 20, owner := .job 2 23, chunk := 256 }] } }
-- Step 4: the fourth chunk passes the restore limit.
theorem test_refused_chunk_waits :
    let s := after .arbiterChoice (restoring.setJob 2 (some (jobW .running 3 768 0 0)))
    (s.job 2).map (·.state) = some .quotaWait ∧ s.slotsInUse = 3 ∧
      s.port.events = [.restoreState 2 41 23 .running .quotaWait 768 0] := by decide
-- Step 5: 156 credited back, and the job wakes.
theorem test_permit_done :
    let s := after (.permitDone 17 100) restoring
    answer s = some .done ∧ (s.principal 23).map (·.lc) = some 104612 ∧
      (s.job 2).map (fun j => (j.state, j.permits, j.charged, j.moved)) = some (.running, 2, 612, 100) := by decide
-- Step 12: the last permit ends the job.
theorem test_last_permit_ends_job :
    let s := after (.permitDone 20 200) finishing
    s.job 2 = none ∧ (s.principal 23).map (fun p => (p.lc, p.restoreJobs)) = some (104712, 0) ∧
      s.port.events = [.restoreDone 2 41 0 1 23 812 812 1 false] := by decide
-- Step 8: the charge is kept.
theorem test_permit_timeout :
    let s := after (.permitTimeout 18) restoring
    (s.job 2).map (fun j => (j.permits, j.charged, j.expired)) = some (2, 768, 1) ∧
      s.arbiter.expired = [{ id := 18, owner := .job 2 23, chunk := 256 }] ∧
      s.port.events = [.permitExpired 18 256 (.restore 2 41 0 1)] := by decide
-- Step 10.
theorem test_restore_end :
    let s := after (.restoreEnd 2 41) restoring
    answer s = some .done ∧ (s.job 2).map (·.state) = some .finishing ∧
      s.port.events = [.restoreState 2 41 23 .quotaWait .finishing 768 0] := by decide
theorem test_restore_cancel : answer (after (.restoreCancel 2 41) finishing) = some .done ∧
    answer (after (.restoreEnd 2 41) finishing) = some .busy ∧
    answer (after (.restoreCancel 2 40) finishing) = some .notFound := by decide
theorem test_restore_start :
    let s := after (.restoreStart 7 0 1 23) restoring
    answerValues s = [0] ∧ (s.volume 0).snapshots.map (·.holds) = [2] ∧
      (s.principal 23).map (·.restoreJobs) = some 2 := by decide

/-! ### Chapter 8: offsite duplication -/

/-- Station 3 of chapter 8's worked case at reload 1, 120 minutes before dawn. -/
def duplicating : State :=
  { ((joined.setPeer 1 { livePeer with claim := some ⟨3000000, 10800, false⟩ }).setPeer 2
      { livePeer with claim := some ⟨600000, 3600, false⟩ }).setVolume 0
      { declared := true, offsite := true, snapshots := [{ generation := 1, created := 0, holds := 1, status := .sending }]
        night := some { state := .sending, generation := 1, remaining := 1800000, dawn := 1120 } } with
    loader := { config := { linkCapacity := 2500 } }
    clock := { minute := 1000, reloadsDue := 1 }
    deadlines := [⟨.dawn 0, 1120⟩] }
theorem test_first_reload :
    let s := after .reload duplicating
    s.dup = { tokens := 899, rate := 899, lastW := 695, lastSelf := 250 } ∧ s.clock.reloadsDue = 0 := by decide
-- Step 2: a duplication choice takes one chunk of tokens.
theorem test_duplication_choice :
    let s := after .arbiterChoice { duplicating with dup := { tokens := 899, rate := 899 } }
    s.dup.tokens = 643 ∧ s.arbiter.volumePointer = 0 ∧ s.port.events = [.permitIssued 0 256 (.duplicate 0 1)] := by
  decide
-- Step 11.
theorem test_offhold_rise :
    let s := after .offholdRise { duplicating with dup := { tokens := 1183, rate := 1183 } }
    s.dup = { tokens := 0, rate := 1183 } ∧ (s.volume 0).night.map (·.state) = some .paused ∧
      s.port.events = [.nightState 0 1 (some .sending) (some .paused) 1800000 .hold] := by decide
theorem test_offhold_fall_waits_for_reload :
    let s := after .offholdFall { joined with pins := { offhold := true } }
    s.pins.offhold = false ∧ s.holdInForce = false := by decide
theorem test_night_open :
    let s := after (.nightOpen 2 6 1000 7) catalogued
    answer s = some .done ∧ s.deadlines = [⟨.dawn 2, 7⟩] ∧ (s.volume 2).snapshots.map (·.holds) = [0, 2] := by decide
theorem test_night_open_refused : answer (after (.nightOpen 2 5 1000 7) catalogued) = some .notNewer ∧
    answer (after (.nightOpen 2 6 1000 0) catalogued) = some .tooLate := by decide
theorem test_night_done :
    let s := after (.nightDone 0) duplicating
    (s.volume 0).base = some 1 ∧ s.deadlines = [] ∧
      s.port.events = [.nightState 0 1 (some .finishing) none 1800000 .ended] := by decide
theorem test_night_abandon :
    let s := after (.nightAbandon 0) duplicating
    (s.volume 0).base = none ∧ (s.volume 0).snapshots.map (·.status) = [.localOnly] := by decide
theorem test_night_query : (answerValues (after (.nightQuery 0) duplicating)).take 6 = [1, 1, 1, 1800000, 1120, 0] := by
  decide

/-! ### Chapter 9: clock and deadlines -/

/-- Chapter 9's worked sequence at step 1: P1 to P3 are 1 to 3, volume 1's night is SENDING. -/
def deadlined : State :=
  { joined.setVolume 1
      { declared := true, offsite := true, snapshots := [{ generation := 1, created := 0, holds := 1, status := .sending }]
        night := some { state := .sending, generation := 1, remaining := 5, dawn := 2000060 } } with
    clock := { minute := 2000000 }
    quota := { principals :=
      [{ slot := 0, id := 1, cls := .limited, soft := 10, hard := 100, period := 1, lc := 50, grace := .running 2000030 },
       { slot := 1, id := 2, cls := .limited, soft := 10, hard := 100, period := 1, lc := 100, grace := .running 2000060 },
       { slot := 2, id := 3, cls := .limited, soft := 10, hard := 100, period := 1, lc := 50, grace := .running 2000500 }] }
    deadlines := [⟨.grace 1, 2000030⟩, ⟨.dawn 1, 2000060⟩, ⟨.grace 2, 2000060⟩, ⟨.grace 3, 2000500⟩] }
theorem test_forward_clock_set :
    let s := after (.clockSet 2000060) deadlined
    answer s = some .done ∧ s.deadlines = [⟨.grace 3, 2000500⟩] ∧
      s.port.events = [.quotaState 1 .soft .expired 50 .grace, .nightState 1 1 (some .sending) (some .suspended) 5 .dawn] ∧
      (s.principal 2).map (·.grace) = some .expired := by decide
-- Step 5: the resumed night's entry joins in order of due minute.
theorem test_night_resume :
    let s := after (.nightResume 1 1999300) { deadlined.setVolume 1 { deadlined.volume 1 with
        night := some { state := .suspended, generation := 1, remaining := 5, dawn := 2000060 } } with
      clock := { minute := 1999000 }, deadlines := [⟨.grace 4, 1999060⟩, ⟨.grace 3, 2000500⟩] }
    answer s = some .done ∧ s.deadlines = [⟨.grace 4, 1999060⟩, ⟨.dawn 1, 1999300⟩, ⟨.grace 3, 2000500⟩] := by decide
theorem test_clock_query : answerValues (after .clockQuery deadlined) = [2000000, 0, 0, 3, 1, 1, 0, 1, 2000030] := by decide
theorem test_tick_wraps_minute :
    (after .stationTick { joined with clock := { millis := 999, seconds := 59, minute := 7 } }).clock =
      { millis := 0, seconds := 0, minute := 8, reloadsDue := 1 } := by decide

/-! ### Chapter 10: the host request port -/

/-- A request that is being returned at position 14 (the small request ring, step 1). -/
def returning : State :=
  { joined with port := { joined.port with
    requestState := .running, phase := .returning 896 ⟨.done, false, []⟩, requestRing := { size := 16, position := 14 } } }
theorem test_request_writeback_done :
    let s := after (.requestWritebackDone false) returning
    s.port.requestRing.position = 15 ∧ s.port.flags = 0x01 ∧ s.port.written.map (·.address) = [898, 896] := by decide
-- Step 8: the answer of a held charge is returned to its own descriptor.
theorem test_held_writeback_done :
    let s := after (.requestWritebackDone true) { returning with port := { returning.port with
      heldAnswers := [⟨960, ⟨.granted, true, []⟩⟩] } }
    s.port.requestRing.position = 14 ∧ s.port.written.map (·.address) = [962, 960] := by decide
-- Step 5: position 0 is HOST-owned.
theorem test_request_fetch_suspends :
    let s := after (.requestDescriptorFetch (List.replicate 64 0)) { joined with
      port := { joined.port with requestState := .running, mask := 0x3B } }
    s.port.requestState = .suspended ∧ s.port.flags = 0x04 ∧ s.port.messages = 1 := by decide
-- R177, R179: CHARGE is kind 06h, with its operands least significant byte first.
theorem test_request_fetch_reads_operands :
    (after (.requestDescriptorFetch ([0x01, 0x06, 0, 0, 0x47, 0x12, 0x01, 0, 0x40, 0x9C, 0, 0] ++ List.replicate 52 0))
      { joined with port := { joined.port with requestState := .running } }).port.phase =
      .executing 0 (.charge 70215 40000) := by decide
-- Step 6.
theorem test_poll_demand_resumes :
    (after (.pollDemand 0x10) { joined with port := { joined.port with requestState := .suspended } }
      ).port.requestState = .running := by decide
-- R182: with both its start and its stop bit set a process stays as it was, and the other is served.
theorem test_poll_demand_spares_a_process :
    let s := after (.pollDemand 0x13) { joined with port := { joined.port with
      requestState := .suspended, eventState := .stalled } }
    s.port.requestState = .suspended ∧ s.port.eventState = .running := by decide
/-- An event process that is running with one record. -/
def eventful : State :=
  { joined with port := { joined.port with eventState := .running, events := [.stationState .isolated .learning] } }
-- R178, R179: STATION STATE is 09h, and its states are coded in order.
theorem test_event_fetch_posts :
    ((after (.eventDescriptorFetch 0x01 0x00) eventful).port.posting.getD []).map (·.bytes.take 5) =
      [[0x09, 0x00, 0x03, 0x01, 0x00], [0x00]] := by decide
theorem test_event_fetch_stalls :
    let s := after (.eventDescriptorFetch 0x00 0x01) eventful
    s.port.eventState = .stalled ∧ s.port.flags = 0x08 := by decide
theorem test_event_post_done :
    let s := after .eventPostDone { eventful with port := { eventful.port with posting := some [⟨0, [0]⟩] } }
    s.port.events = [] ∧ s.port.eventRing.position = 1 ∧ s.port.flags = 0x02 := by decide
theorem test_link_error :
    let s := after (.linkError .requestWriteback) returning
    s.port.requestState = .fault ∧ s.port.eventState = .fault ∧ s.port.flags = 0x10 := by decide
theorem test_auto_poll :
    (after (.autoPoll (.request ([0x01, 0x18] ++ List.replicate 62 0))) { joined with port := { joined.port with
      requestState := .suspended, request := { waitInterval := 5, waitTicks := 5 } } }).port.phase =
      .executing 0 .clockQuery := by decide
theorem test_start_needs_a_ring :
    (after (.requestStart 0x01) joined).port.requestState = .running ∧
    (after (.requestStart 0x01) { joined with port := {} }).port.requestState = .stopped := by decide
theorem test_request_stop :
    (after (.requestStop 0x02) { joined with port := { joined.port with requestState := .suspended } }
      ).port.requestState = .stopped := by decide
theorem test_event_start : (after (.eventStart 0x04) joined).port.eventState = .running := by decide
theorem test_event_stop : (after (.eventStop 0x08) eventful).port.eventState = .stopped := by decide
theorem test_port_reset :
    let s := after (.portReset 0x80) { returning with quota := { returning.quota with
      held := [{ origin := .charge 0, principal := 1, amount := 1 }, { origin := .restore 0, principal := 1, amount := 16 }] } }
    s.port = { requestRing := { size := 16 }, eventRing := { size := 16 } } ∧
      s.quota.held.map (·.origin) = [.restore 0] := by decide
-- R160, R182: the base is rounded down to the descriptor size.
theorem test_ring_base_write :
    (after (.ringBaseWrite .request false 0x1000007F) joined).port.requestRing.base = 0x10000040 ∧
    (after (.ringBaseWrite .event true 0x2) joined).port.eventRing.base = 0x200000000 := by decide
theorem test_ring_size_write :
    (after (.ringSizeWrite .request 15) joined).port.requestRing.size = 16 ∧
    (after (.ringSizeWrite .event 5000) joined).port.eventRing.size = 4096 := by decide
theorem test_flags_clear :
    (after (.flagsClear 0x05) { joined with port := { joined.port with flags := 0x0F } }).port.flags = 0x0A := by decide
theorem test_mask_write :
    let s := after (.maskWrite 0xFFFFFF3E) { joined with port := { joined.port with flags := 0x01 } }
    s.port.mask = 0x3E ∧ s.port.messages = 0 := by decide
theorem test_auto_poll_interval_write : (after (.autoPollIntervalWrite 0x1FF) joined).port.autoPoll = 255 := by decide
-- R182: a narrower read gives the addressed bytes; byte 1 of the status word is the event process's state.
theorem test_narrow_reads : eventful.windowRead 0x1D 1 = [0x01#8] ∧ eventful.windowRead 0x08 2 = [0x10#8, 0x00#8] ∧
    eventful.windowRead 0x30 4 = [0, 0, 0, 0] := by decide
theorem test_narrow_write_is_ignored : after (.otherRegisterWrite 0x18 1 0x80) joined = joined := by decide

/-! ### Chapter 11: configuration and start-up -/

/-- The image of chapter 11's worked sequence, with its check. -/
def image : List Byte :=
  withCheck ([0x5A, 0x16, 0x00, 0x27] ++ [16] ++ bigEndian 2 5000 ++ [10] ++ bigEndian 2 8000 ++ bigEndian 2 1100 ++
    bigEndian 2 64 ++ bigEndian 4 4096 ++ bigEndian 2 256 ++ [8] ++ bigEndian 2 256 ++ [3] ++ bigEndian 2 50 ++
    bigEndian 2 1000 ++ bigEndian 2 1500 ++ bigEndian 2 60 ++ [1, 1, 5] ++ bigEndian 2 50)
theorem test_configuration_load :
    let s := after (.configLoadEnd (.image image)) { State.reset with straps := { station := 9 } }
    s.config = { presenceInterval := 5000, lapseCount := 8, isolationTime := 40000, linkCapacity := 1000,
                 minimumRate := 1000 } ∧
      s.port.events = [.configLoaded .image .none 3 9, .stationState .configuring .learning] := by decide +kernel
theorem test_bus_held :
    (after .configLoadBusHeld State.reset).port.events =
      [.configLoaded .defaults .busHeld 0 0, .stationState .configuring .learning] := by decide
theorem test_recorded_start :
    (after (.configLoadEnd (.noAck 0)) { State.reset with port := { State.reset.port with
      requestRing := { size := 16 }, request := { startRecorded := true } } }).port.requestState = .running := by decide
-- R172: the memory address is one byte with EEAW low and two with it high, and a failure releases the lines.
theorem test_loader_addresses_the_memory :
    loadDriven false (.noAck 1) = [.start, .deviceForWriting 0x50, .memoryAddress 0x00#8, .release] ∧
    loadDriven true (.noAck 3) = [.start, .deviceForWriting 0x50, .memoryAddress 0x00#8, .memoryAddress 0x00#8,
      .repeatedStart, .deviceForReading 0x50, .release] ∧
    ((loadDriven false (.image image)).filter fun x => x = .readAcknowledged ∨ x = .readLast).length = 39 := by
  decide +kernel
theorem test_hardware_reset : after (.hardwareReset 0 false) joined = State.reset := by decide
theorem test_config_query : (answerValues (after .configQuery joined)).take 5 = [16, 1000, 3, 5000, 1100] := by decide

/-! ### States and operands that meet the hypotheses of the obligations

Each theorem is named after its obligation and meets the hypotheses of each of its clauses. Every request statement
also assumes State.serves, which serving_serves gives for each of these states. -/

theorem witness_StepTakesFrontCommand :
    ({ joined with pending := [.isolation, .collision] } : State).pending = .isolation :: [.collision] ∧
    joined.pending = [] := by decide
theorem witness_EveryCommandAnswersAndKeepsTheQueue :
    Instr.request? .noticeQuery = some .noticeQuery ∧ joined.takes .noticeQuery = false := by decide
theorem witness_ConfigurationLoadEnds :
    State.reset.peers.station = .configuring ∧
    (∃ read, Instr.configLoadEnd (.image image) = .configLoadEnd read ∧
      { loadOutcome (.image image) with driven := loadDriven State.reset.straps.wideAddress (.image image) } =
        { loadOutcome read with driven := loadDriven State.reset.straps.wideAddress read }) ∧
    Instr.configLoadBusHeld = .configLoadBusHeld := ⟨rfl, ⟨_, rfl, rfl⟩, rfl⟩
theorem witness_ImageIsTestedAndClamped :
    (image.length = 39 ∧ image.take 4 = [0x5A#8, 0x16#8, 0x00#8, 0x27#8] ∧
      image.drop 37 = bigEndian 2 (crc16 (image.take 37)).toNat) ∧
    (let bad := image.take 37 ++ [0, 0]
     bad.length = 39 ∧ bad.take 4 = [0x5A#8, 0x16#8, 0x00#8, 0x27#8] ∧
      bad.drop 37 ≠ bigEndian 2 (crc16 (bad.take 37)).toNat) ∧
    ((List.replicate 39 0x5A#8).length = 39 ∧ (List.replicate 39 0x5A#8).take 4 ≠ [0x5A#8, 0x16#8, 0x00#8, 0x27#8]) ∧
    (1 ≤ 16 ∧ 0 < 1 ∧ 16 < 17) ∧ (1 < 2 ∧ 2 < 3) := by decide +kernel
theorem witness_OffholdRiseAndFall :
    (joined.pins.offhold = false ∧ joined.config.holdHonoured = true ∧ joined.peers.station ≠ .configuring ∧
      0 < joined.config.chunk) ∧
    ({ joined with loader := { config := { holdHonoured := false } } } : State).config.holdHonoured = false ∧
    State.reset.peers.station = .configuring := by decide
theorem witness_TickCountsInEveryBlock :
    (998 < 999 ∧ (999 : Nat) = 999 ∧ 58 < 59 ∧ (59 : Nat) = 59) ∧
    ({ joined with clock := { millis := 999, seconds := 58 } } : State).clock.seconds < 59 := by decide
theorem witness_ReloadComputesRateAndTokens :
    duplicating.clock.reloadsDue ≠ 0 ∧ duplicating.holdInForce = false ∧
    ({ duplicating with pins := { offhold := true } } : State).holdInForce = true := by decide
theorem witness_OwnClaimOfTheClaimingNights :
    let nights (s : State) := (List.range 16).filterMap fun v => (s.volume v).night.filter fun n =>
      n.state = .sending ∨ n.state = .paused ∨ n.state = .finishing
    (nights joined = [] ∧ nights duplicating ≠ []) ∧ joined.ownClaim = none ∧
    duplicating.ownClaim = some ⟨1800000, 7200, false⟩ := by decide
theorem deadlined_law : DeadlineLaw deadlined := by unfold DeadlineLaw; decide
theorem witness_ExpiryRunAndClockSet : DeadlineLaw deadlined ∧
    DeadlineLaw (serving (.clockSet 2000060) deadlined) ∧
    (serving (.clockSet 2000060) deadlined).serves 0 (.clockSet 2000060) ∧
    (∀ d ∈ deadlined.deadlines, d ∈ deadlined.deadlines) ∧
    let s : State := { deadlined with clock := { minute := 2000030 } }
    DeadlineLaw s ∧ ∃ d ∈ s.deadlines, d ∉ joined.deadlines ∧ d.due = s.clock.minute :=
  ⟨deadlined_law, deadlined_law, ⟨rfl, rfl⟩, fun _ h => h, deadlined_law, ⟨.grace 1, 2000030⟩, by decide, by decide, rfl⟩

/-- A state with one held entry of an age. -/
def holding (origin : HeldOrigin) (age : Nat) (s : State) : State :=
  { s with quota := { s.quota with held := [{ origin := origin, principal := 22, amount := 12, age := age }] } }
theorem witness_HoldTimeoutExpiresEntry :
    (let s := holding (.charge 64) 49 limited
     ∃ e, s.quota.held[0]? = some e ∧ e.age < s.config.holdTimeout) ∧
    (let s := holding (.charge 64) 50 { limited with port := { requestState := .fault } }
     ∃ e, s.quota.held[0]? = some e ∧ s.frozen e = true) ∧
    (let s := holding (.charge 64) 50 limited
     ∃ e, s.quota.held[0]? = some e ∧ s.frozen e = false ∧ s.config.holdTimeout ≤ e.age ∧ e.origin = .charge 64) ∧
    (let s := holding (.restore 0) 50 limited
     ∃ e j, s.quota.held[0]? = some e ∧ s.frozen e = false ∧ s.config.holdTimeout ≤ e.age ∧ e.origin = .restore 0 ∧
       s.job 0 = some j) :=
  ⟨⟨_, rfl, by decide⟩, ⟨_, rfl, by decide⟩, ⟨_, rfl, by decide, by decide, rfl⟩,
    ⟨_, _, rfl, by decide, by decide, rfl, rfl⟩⟩
theorem witness_PeerAndStationTimers :
    (let s := joined.setPeer 7 { livePeer with age := some 3000 }
     (s.peer 7).state = .live ∧ (s.peer 7).age = some 3000 ∧ s.config.lapseTime ≤ 3000) ∧
    (let s : State := { joined with peers := { joined.peers with silenceAge := 5000 } }
     s.peers.station = .joined ∧ 1 < s.config.stationCount ∧ s.config.isolationTime ≤ s.peers.silenceAge) ∧
    (let s : State := { joined with peers := { station := .learning, learningCount := 1100000 } }
     s.peers.station = .learning ∧ s.config.learningTime * 1000 ≤ s.peers.learningCount) ∧
    (let s : State := { joined with peers := { joined.peers with presenceCount := 1000 } }
     s.peers.station.running = true ∧ s.config.presenceInterval ≤ s.peers.presenceCount) := by decide
theorem witness_QueueingByWhereAPrincipalStands :
    let n : Notice := { urgent := [1], normal := [2] }
    (3 ∉ n.urgent ∧ 3 ∉ n.normal) ∧ (2 ∉ n.urgent ∧ 2 ∈ n.normal) ∧ 1 ∈ n.urgent := by decide
theorem witness_RefreshSweepStepExaminesOneSlot :
    let s (pointer : Nat) : State := { noticed with notice := { refreshPointer := pointer, sweepCredit := 1000 } }
    ((s 65535).peers.station.running = true ∧ 1000 ≤ (s 65535).notice.sweepCredit ∧
      (s 65535).notice.refreshPointer ≤ 65535) ∧ (s 0).notice.refreshPointer ≤ 65535 := by decide
theorem witness_EvictionSweepStepAndEnd :
    let e (pointer : Nat) : Eviction := { station := 11, pointer := pointer, owed := 1 }
    let s (pointer : Nat) : State := { sweeping with peers := { sweeping.peers with eviction := some (e pointer) } }
    ((s 65534).peers.eviction = some (e 65534) ∧ (e 65534).owed ≠ 0 ∧ (e 65534).pointer < 65535) ∧
    ((s 65535).peers.eviction = some (e 65535) ∧ (e 65535).owed ≠ 0 ∧ (e 65535).pointer = 65535) := by decide

/-- Chapter 8's night with one permit outstanding, due, in a state. -/
def permitted (state : NightState) : State :=
  { duplicating.setVolume 0 { duplicating.volume 0 with
      night := some { state := state, generation := 1, remaining := 1800000, dawn := 1120, permits := 1 } } with
    arbiter := { permits := [{ id := 3, owner := .night 0 1, chunk := 256, age := 60000 }] } }
/-- The job of `finishing`, whose last permit is due. -/
def finishingDue : State :=
  { finishing with arbiter := { finishing.arbiter with
      permits := [{ id := 20, owner := .job 2 23, chunk := 256, age := 60000 }] } }
theorem witness_PermitTimeoutReclaims :
    (∃ p j, (restoring.arbiter.permits.find? fun q => q.id == 18) = some p ∧
      restoring.config.permitTimeout * 1000 ≤ p.age ∧ p.owner = .job 2 23 ∧ restoring.job 2 = some j ∧
      ¬ (j.state.closing = true ∧ j.permits ≤ 1)) ∧
    (∃ p j, (finishingDue.arbiter.permits.find? fun q => q.id == 20) = some p ∧
      finishingDue.config.permitTimeout * 1000 ≤ p.age ∧ p.owner = .job 2 23 ∧ finishingDue.job 2 = some j ∧
      j.state.closing = true ∧ j.permits ≤ 1) ∧
    (∃ p n, ((permitted .sending).arbiter.permits.find? fun q => q.id == 3) = some p ∧
      (permitted .sending).config.permitTimeout * 1000 ≤ p.age ∧ p.owner = .night 0 1 ∧
      ((permitted .sending).volume 0).night = some n ∧ ¬ (n.state.closing = true ∧ n.permits ≤ 1)) ∧
    (∃ p n, ((permitted .abandoning).arbiter.permits.find? fun q => q.id == 3) = some p ∧
      (permitted .abandoning).config.permitTimeout * 1000 ≤ p.age ∧ p.owner = .night 0 1 ∧
      ((permitted .abandoning).volume 0).night = some n ∧ n.state.closing = true ∧ n.permits ≤ 1) :=
  ⟨⟨_, _, rfl, by decide, rfl, rfl, by decide⟩, ⟨_, _, rfl, by decide, rfl, rfl, by decide, by decide⟩,
    ⟨_, _, rfl, by decide, rfl, rfl, by decide⟩, ⟨_, _, rfl, by decide, rfl, rfl, by decide, by decide⟩⟩

/-- A station whose transmitter holds a frame at an attempt. -/
def transmitting (state : TxState) (f : Frame) (attempt : Nat) (s : State) : State :=
  { s with bus := { s.bus with tx := { state := state, frame := some f, attempt := attempt, gapRunning := true
                                       holdoffTicks := 10 } } }
def aPresence : Frame := .presence 3 false 0 none
def aUsage : Frame := .usage 3 .base [⟨22, 60008⟩]
/-- The frame record of `aUsage`, carried by V of chapter 2. -/
def aRecord : FrameRecord := ⟨.base, [⟨22, 60008, true⟩]⟩
def carrying (s : State) : State := { s with notice := { frame := some aRecord } }
theorem witness_TransmitterTimersAndCollision :
    ((transmitting .holdoff aPresence 1 joined).bus.tx.state = .holdoff ∧
      10 ≤ (transmitting .holdoff aPresence 1 joined).bus.tx.holdoffTicks) ∧
    (transmitting .backoff aPresence 1 joined).bus.tx.state = .backoff ∧
    ((transmitting .deferring aPresence 1 joined).bus.tx.state = .deferring ∧
      (transmitting .deferring aPresence 1 joined).bus.tx.gapRunning = true ∧
      (transmitting .deferring aPresence 1 joined).bus.tx.frame = some aPresence) ∧
    (transmitting .sending aPresence 1 joined).bus.tx.state = .sending := by decide
theorem witness_JamEndBacksOffOrAbandons :
    let s := transmitting .jamming aUsage 15 (carrying limited)
    let t := transmitting .jamming aUsage 16 (carrying limited)
    let u := transmitting .jamming aPresence 16 limited
    (s.bus.tx.state = .jamming ∧ s.bus.tx.frame = some aUsage ∧ s.bus.tx.attempt < 16) ∧
    (t.bus.tx.frame = some aUsage ∧ 16 ≤ t.bus.tx.attempt ∧ t.notice.frame = some aRecord) ∧
    (u.bus.tx.frame = some (.presence 3 false 0 none) ∧ 16 ≤ u.bus.tx.attempt) := by decide
theorem witness_TransmitCompletionIsTheSync :
    let s := transmitting .sending aUsage 1 (carrying limited)
    let u := transmitting .sending aPresence 1 limited
    (s.bus.tx.state = .sending ∧ s.bus.tx.frame = some (.usage 3 .base [⟨22, 60008⟩]) ∧
      s.notice.frame = some aRecord ∧ (s.principal 22).isSome = true ∧
      ∀ e ∈ s.quota.held, ∀ x ∈ aRecord.entries, e.principal ≠ x.principal) ∧
    (u.bus.tx.state = .sending ∧ u.bus.tx.frame = some (.presence 3 false 0 none)) := by decide
theorem witness_FirstHeldChargeAtSync :
    let s := transmitting .sending aUsage 1 (carrying (holding (.charge 64) 7 limited))
    let beyond := { s with quota := s.quota.update 22 fun p => { p with lc := 60010 } }
    let e : HeldEntry := { origin := .charge 64, principal := 22, amount := 12, age := 7 }
    (s.bus.tx.state = .sending ∧ s.notice.frame = some aRecord ∧ aRecord.entries = [⟨22, 60008, true⟩] ∧
      s.quota.held = [e] ∧ e.principal = 22 ∧ s.port.requestState ≠ .fault ∧
      (s.principal 22).any fun p => p.cls = .limited ∧ p.quotaState = .under ∧ p.hard < p.campus + e.amount) ∧
    ((beyond.principal 22).any fun p => p.cls = .limited ∧ p.quotaState = .hard) ∧
    ((s.quota.update 22 fun p => { p with hard := 100010 }).find 22).any
      (fun p => p.quotaState = .under ∧ p.campus + e.amount = p.hard) ∧
    ({ s with port := { s.port with requestState := .fault } } : State).port.requestState = .fault := by decide
/-- V of chapter 2 carried by the frame being sent, with three held entries of its own: two charges, and the chunk of
its restore job, which is in SYNC-WAIT. -/
def severalHeld : State :=
  let s := transmitting .sending aUsage 1 (carrying limited)
  { s.setJob 0 (some { tag := 1, volume := 0, generation := 1, principal := 22, state := .syncWait }) with
    quota := { s.quota with held :=
      [{ origin := .charge 64, principal := 22, amount := 2 }, { origin := .charge 128, principal := 22, amount := 4 },
       { origin := .restore 0, principal := 22, amount := 256 }] } }
theorem witness_FirstHeldChargeAtSync_general :
    severalHeld.bus.tx.state = .sending ∧ severalHeld.bus.tx.frame = some (.usage 3 .base [⟨22, 60008⟩]) ∧
      severalHeld.notice.frame = some aRecord ∧
      severalHeld.quota.held.map (·.verdict true severalHeld) = [.granted, .overQuota, .granted] := by decide
theorem witness_TransmitterTakesFrame :
    (let s : State := { joined with peers := { joined.peers with presenceDue := true } }
     s.bus.tx.state = .idle ∧ s.peers.presenceDue = true) ∧
    (let s : State := { noticed with notice := { urgent := [4], normal := [2] } }
     s.bus.tx.state = .idle ∧ s.peers.presenceDue = false ∧ s.notice.frame = none ∧
       s.notice.urgent ++ s.notice.normal ≠ []) ∧
    (noticed.peers.presenceDue = false ∧ noticed.notice.urgent = [] ∧ noticed.notice.normal = []) := by decide

/-- A burst is on the line of a state. -/
def bursting (s : State) : State := { s with bus := { s.bus with line := { busy := true } } }
theorem witness_BurstIsCheckedAndQueued :
    (joined.bus.line.busy = false ∧ joined.bus.tx.state.driving = false) ∧
    ((bursting joined).bus.tx.state.driving = false ∧ (bursting joined).bus.line.busy = true ∧
      (bursting joined).bus.line.echo = false ∧ (bursting joined).bus.line.ignored = false ∧
      (bursting joined).bus.listening = true) ∧
    parseFrame [0x01#8] = none ∧ parseFrame (presenceBytes 3) = some (.presence 3 true 7 none) ∧
    joined.peers.station.running = true ∧ StationState.clash.running = false ∧
    parseFrame (presenceBytes 15) = some (.presence 15 true 7 none) ∧ joined.bus.fifo.length < 8 ∧
    ({ joined with bus := { joined.bus with fifo := List.replicate 8 { frame := aPresence } } } : State).bus.fifo.length =
      8 := by decide +kernel
theorem witness_BurstIsCheckedAndQueued_isolated :
    let s : State := { bursting joined with peers := { joined.peers with station := .isolated } }
    let t : State := { s with loader := { config := { learningTime := 0 } } }
    (s.bus.tx.state.driving = false ∧ s.bus.line.busy = true ∧ s.bus.line.echo = false ∧ s.bus.line.ignored = false ∧
      s.bus.listening = true ∧ s.bus.fifo.length < 8 ∧ s.peers.station = .isolated ∧ s.config.learningTime ≠ 0) ∧
    (t.bus.line.busy = true ∧ t.peers.station = .isolated ∧ t.config.learningTime = 0) := by decide
/-- The own frame has been sent and its echo is still on the line. -/
def echoing : State := { joined with bus := { joined.bus with line := { echo := true } } }
theorem witness_BurstIsCheckedAndQueued_echo :
    (echoing.bus.tx.state.driving = false ∧ echoing.bus.line.busy = false ∧ echoing.bus.line.echo = true) ∧
    (transmitting .jamming aPresence 1 joined).bus.tx.state.driving = true ∧
    (joined.bus.tx.state.driving = false ∧ joined.bus.line.busy = false ∧ joined.bus.line.echo = false) := by decide
theorem witness_BurstIsCheckedAndQueued_clash :
    let s := transmitting .backoff aUsage 1 (carrying (bursting limited))
    s.bus.tx.state.driving = false ∧ s.notice.frame = some aRecord ∧
      s.bus.tx.frame = some (.usage 3 .base [⟨22, 60008⟩]) ∧
      ({ s with peers := { s.peers with station := .isolated } } : State).peers.station = .isolated := by decide

/-- A frame stands at the head of the FIFO of a state whose sender 15 has a record. -/
def received (f : Frame) (p : Peer) : State :=
  { joined.setPeer 15 p with bus := { joined.bus with fifo := [{ frame := f, age := 2999 }] } }
theorem witness_FrameDeliveryActsOnTheSender :
    let usage : Frame := .usage 15 .base [⟨1, 2⟩]
    let presence : Frame := .presence 15 true 6 none
    (∀ f ∈ [usage, presence], ∀ p : Peer, (received f p).bus.fifo = { frame := f, age := 2999 } :: [] ∧
      (received f p).bus.delivery = none ∧ f.sender = 15 ∧ 15 < 16) ∧
    ((received usage { livePeer with state := .evicting }).peer 15).state = .evicting ∧
    ((received usage livePeer).peer 15).state = .live ∧ ((received presence livePeer).peer 15).state = .live ∧
    (joined.config.skewTolerance < absDiff 6 joined.clock.minute ∧ ¬ joined.config.skewTolerance < absDiff 5 0) ∧
    (((received usage {}).peer 15).state = .absent ∧ (received usage {}).bus.latestAge 15 < joined.config.lapseTime) ∧
    (((received presence lapsedPeer).peer 15).state = .lapsed ∧
      joined.config.lapseTime ≤ ((received presence lapsedPeer).peer 15).age.getD 0) := by
  refine ⟨?_, by decide⟩
  intro f hf p
  simp only [List.mem_cons, List.not_mem_nil, or_false] at hf
  rcases hf with rfl | rfl <;> exact ⟨rfl, rfl, rfl, by decide⟩
theorem witness_FrameDeliveryActsOnTheSender_format :
    (joined.config.extendedFormat = true ∧ ∀ k < 16, ((joined.setPeer 15 { livePeer with capability := some .extended }).peer
      k).state = .live → ((joined.setPeer 15 { livePeer with capability := some .extended }).peer k).capability =
        some .extended) ∧
    ({ joined with loader := { config := { extendedFormat := false } } } : State).config.extendedFormat = false ∧
    (((joined.setPeer 15 livePeer).peer 15).state = .live ∧
      ((joined.setPeer 15 livePeer).peer 15).capability ≠ some .extended) := by decide
theorem witness_UsageEntryIsOneContributionUpdate :
    (let s : State := { accounted with bus := { accounted.bus with
       fifo := [{ frame := .usage 11 .base [⟨70215, 25000⟩] }], delivery := some [⟨70215, 25000⟩] } }
     s.bus.fifo = { frame := .usage 11 .base [⟨70215, 25000⟩] } :: [] ∧
       s.bus.delivery = some (⟨70215, 25000⟩ :: []) ∧ (s.peer 11).state ≠ .evicting ∧
       ((s.setPeer 11 { livePeer with state := .evicting }).peer 11).state = .evicting) ∧
    (accounted.principal 1 = none ∧ accounted.straps.station = 3) ∧
    (limited.principal 22).any (fun p => 0 < p.restoreJobs ∧ p.lc + 19990 < p.campus) ∧
    (accounted.principal 70215).any (fun p => p.restoreJobs = 0) ∧ 7 ≠ accounted.straps.station := by decide

theorem witness_RederivationMaintainsGraceAndState :
    let p : Principal :=
      { slot := 0, id := 1, cls := .limited, soft := 10, hard := 20, period := 5, lc := 4, remote := 6 }
    ((p.cls = .limited ∧ p.lc + p.remote < p.hard ∧ p.grace = .absent) ∧
      p.hard ≤ ({ p with lc := 14 } : Principal).lc + p.remote) ∧
    (p.soft ≠ 0 ∧ p.soft ≤ p.lc + p.remote ∧ p.period ≠ 0 ∧ ({ p with lc := 3 } : Principal).lc + p.remote < p.soft) ∧
    (softened.principal 70215).any (fun q => q.grace = .running 1001460 ∧ q.id = 70215) ∧
    (limited.principal 22).any (fun q => q.grace = .absent) := by decide

/-- `charged` in a station state. -/
def chargedIn (station : StationState) : State := { charged with peers := { charged.peers with station := station } }
theorem witness_EvaluationOfACharge :
    (charged.peers.station ≠ .configuring ∧ charged.principal 1 = none ∧ charged.straps.station < 16 ∧
      1 ≤ charged.config.stationCount ∧ charged.config.stationCount ≤ 16) ∧
    (charged.quota.update 9 fun p => { p with cls := .exempt }).find 9 ≠ none ∧
    (charged.principal 9).any (fun p => p.cls = .limited ∧ p.quotaState = .soft ∧ p.campus + 191440 = p.hard ∧
      p.hard < p.campus + 191441 ∧ p.lc - p.la + 43813 = charged.share p p.hard) ∧
    (charged.principal 9).any (fun p => p.campus + 322512 = 2752512 ∧ 2752512 < p.campus + 322513 ∧
      p.lc - p.la + 87504 = 117504) ∧
    (charged.evaluateChunk 9 322513 = .overQuota ∧ charged.evaluateChunk 9 87504 = .granted ∧
      charged.evaluateChunk 9 87505 = .held ∧ (chargedIn .clash).evaluateChunk 9 87505 = .shareLimit) ∧
    charged.divisor 9 = 3 ∧ (chargedIn .isolated).divisor 9 = 3 ∧ (chargedIn .learning).divisor 9 = 16 ∧
    joined.divisor 9 = 1 := by decide
theorem witness_GrantRaisesLocalUsageAndQueues :
    (charged.principal 9).isSome = true ∧ (limited.principal 22).isSome = true := by decide

/-- A state with a number of held entries. -/
def heldUp (n : Nat) (s : State) : State :=
  { s with quota := { s.quota with held := List.replicate n { origin := .charge 64, principal := 9, amount := 1 } } }
theorem witness_ChargeIsAnsweredHeldOrBlocks :
    (1 ≤ 9 ∧ 9 ≤ max32 ∧ 1 ≤ 1048575 ∧ 1048575 < 1048576) ∧
    charged.evaluate 1 5 = .unknown ∧ charged.evaluate 9 191441 = .overQuota ∧
    (chargedIn .isolated).evaluate 9 43814 = .shareLimit ∧ charged.evaluate 9 43813 = .granted ∧
    ((heldUp 31 charged).evaluate 9 43814 = .held ∧ (heldUp 31 charged).quota.held.length < 32) ∧
    ((heldUp 32 charged).evaluate 9 43814 = .held ∧ 32 ≤ (heldUp 32 charged).quota.held.length) ∧
    (let s := serving (.charge 9 5) charged
     let t : State := { s with port := { s.port with requestState := .blocked, departed := true } }
     t.port.requestState = .blocked ∧ t.port.departed = true ∧ t.port.phase = .executing 0 (.charge 9 5)) := by decide
theorem witness_GrantsStayWithinTheLimits :
    PrincipalRanges (serving (.charge 9 40000) charged) ∧
    (∃ t, exec (.charge 9 40000) (serving (.charge 9 40000) charged) = .next t ∧ ∃ p q,
      (serving (.charge 9 40000) charged).principal 9 = some p ∧ t.principal 9 = some q ∧ p.cls = .limited ∧
        p.lc < q.lc) ∧
    PrincipalRanges limited ∧
    ∃ t, exec .arbiterChoice limited = .next t ∧ ∃ p q,
      limited.principal 22 = some p ∧ t.principal 22 = some q ∧ p.cls = .limited ∧ p.lc < q.lc :=
  ⟨⟨(by decide : Request.wellFormed (.charge 9 40000) = true), trivial, by decide⟩,
    ⟨_, rfl, _, _, rfl, rfl, rfl, by decide⟩, ⟨trivial, trivial, by decide⟩, _, rfl, _, _, rfl, rfl, rfl, by decide⟩

/-- Every slot of the principal table is occupied. -/
def fullTable : State :=
  { joined with quota := { principals := (List.range 65536).map fun k =>
      { slot := k, id := k + 1, cls := .limited, soft := 0, hard := 1, period := 0, lc := 0 } } }
theorem fullTable_slots (k : Nat) (h : k ≤ 65535) : (fullTable.quota.atSlot k).isSome = true := by
  simp only [fullTable, Quota.atSlot, List.find?_isSome, List.mem_map, List.mem_range]
  exact ⟨_, ⟨k, by omega, rfl⟩, by simp⟩
theorem fullTable_tables : QuotaTables fullTable := by
  refine ⟨?_, ?_, ?_, List.Pairwise.nil, fun c hc => absurd hc List.not_mem_nil, ?_⟩
  · simp only [fullTable, List.pairwise_map]
    exact List.pairwise_lt_range
  · intro p hp
    simp only [fullTable, List.mem_map, List.mem_range] at hp
    obtain ⟨k, hk, rfl⟩ := hp
    simp only; omega
  · simp only [fullTable, List.map_map, List.Nodup, List.pairwise_map]
    exact List.pairwise_lt_range.imp fun h => by simp only [Function.comp]; omega
  · intro p hp
    simp only [fullTable, List.mem_map, List.mem_range] at hp
    obtain ⟨k, hk, rfl⟩ := hp
    rfl
theorem witness_PrincipalAddCreatesTheRecord :
    (QuotaTables fullTable ∧ fullTable.principal 4294967295 = none ∧ ∀ k ≤ 65535, (fullTable.quota.atSlot k).isSome = true) ∧
    (QuotaTables accounted ∧ accounted.principal 1 = none ∧ (accounted.principal 70215).isSome = true ∧
      accounted.quota.atSlot 1 = none ∧ ∀ k < 1, (accounted.quota.atSlot k).isSome = true) ∧
    1 ≤ 4294967295 ∧ 4294967295 ≤ max32 := by
  refine ⟨⟨fullTable_tables, ?_, fullTable_slots⟩, ⟨?_, by decide⟩, by decide⟩
  · simp only [State.principal, Quota.find, fullTable, List.find?_eq_none, List.mem_map, List.mem_range]
    rintro p ⟨k, hk, rfl⟩
    simp only [beq_iff_eq]; omega
  · unfold QuotaTables; decide
theorem witness_PrincipalLimitsReplacesTheLimits :
    (1 ≤ 4294967295 ∧ 4294967295 ≤ max32) ∧ limited.principal 1 = none ∧
    (limited.principal 22).any (fun p => 0 < p.restoreJobs) ∧
    (charged.principal 9).any (fun p => p.restoreJobs = 0) := by decide
theorem witness_PrincipalRemoveRefusesOrRemovesWhole :
    let p : Principal := { slot := 0, id := 9, cls := .limited, soft := 0, hard := 1, period := 0, lc := 0 }
    let s (p : Principal) (n : Notice) : State := { joined with quota := { principals := [p] }, notice := n }
    (s p {}).principal 9 = some p ∧ (s p {}).principal 1 = none ∧
    (0 < ({ p with lc := 1 } : Principal).lc ∨ 0 < p.restoreJobs) ∧
    (¬ (0 < p.lc ∨ 0 < p.restoreJobs ∨ ∃ e ∈ (s p {}).quota.held, e.principal = 9)) ∧
    0 < ({ p with la := 1 } : Principal).la ∧ (s p { frame := some ⟨.base, [⟨9, 0, true⟩]⟩ }).inFrame 9 = true ∧
    p.la = 0 ∧ (s p {}).inFrame 9 = false := by decide
theorem witness_CreditReturnsLocalUsage :
    (1 ≤ 4294967295 ∧ 4294967295 ≤ max32) ∧ limited.principal 1 = none ∧
    (limited.principal 22).any (fun p => 0 < p.lc ∧ 0 < p.restoreJobs) ∧
    ((limited.quota.update 22 fun p => { p with lc := 0 }).find 22).any (fun p => p.lc = 0) := by decide
theorem witness_QueriesAnswerAndChangeNothing :
    (15 < 16 ∧ 15 ≤ 15) ∧ charged.principal 1 = none ∧ (charged.principal 9).isSome = true ∧
    (catalogued.volume 2).declared = true ∧ (catalogued.volume 15).declared = false := by decide
theorem witness_PeerEvictStartsTheSweep :
    (15 < 16 ∧ 3 = joined.straps.station ∧ (joined.peer 15).state = .absent) ∧
    ((joined.setPeer 15 livePeer).peer 15).state = .live ∧
    (((joined.setPeer 15 lapsedPeer).peer 15).state = .lapsed ∧ (joined.setPeer 15 lapsedPeer).peers.eviction = none ∧
      15 ≠ joined.straps.station ∧ joined.bus.delivery = none) ∧
    ((received aUsage lapsedPeer).peer 15).state = .lapsed ∧
    (let s : State := { joined with bus := { joined.bus with
       fifo := [{ frame := .usage 15 .base [⟨1, 2⟩] }], delivery := some [⟨1, 2⟩] } }
     s.bus.delivery ≠ none ∧ ∃ x ∈ s.bus.fifo.head?, x.frame.sender = 15) ∧
    ((sweeping.peer 11).state = .evicting ∧
      ({ sweeping.peers with eviction := some { station := 11 } } : Peers).eviction.isSome = true) := by
  refine ⟨by decide, by decide, by decide, by decide, ⟨by decide, _, rfl, rfl⟩, by decide⟩

/-- A volume with a number of snapshots. -/
def snapshots (n : Nat) : Volume :=
  { declared := true, snapshots := (List.range n).map fun k => { generation := k, created := 0 } }
theorem witness_VolumeAndSnapshotRequests :
    ((joined.volume 15).declared = false ∧ (catalogued.volume 2).declared = true ∧ 1 ≤ 1 ∧ 1 < 2 ∧ 15 < 16) ∧
    ((∃ newest ∈ (catalogued.volume 2).newest, 6 ≤ newest) ∧ (∀ newest ∈ (catalogued.volume 2).newest, newest < 7)) ∧
    ((snapshots 64).snapshots.length = 64 ∧ (∀ newest ∈ (snapshots 64).newest, newest < 64) ∧
      (snapshots 63).snapshots.length < 64 ∧ ∀ newest ∈ (snapshots 0).newest, newest < 0) ∧
    ((catalogued.volume 2).snapshot 9 = none ∧ (catalogued.volume 2).base = some 5 ∧
      ((catalogued.volume 2).snapshot 5).isSome = true) ∧
    ((catalogued.volume 2).snapshot 6).any (fun r => r.status ≠ .sending ∧ r.retirePending = false ∧ 0 < r.holds) ∧
    ((duplicating.volume 0).snapshot 1).any (fun r => r.status = .sending) ∧
    ((snapshots 1).snapshot 0).any (fun r => r.retirePending = false ∧ r.holds = 0) ∧
    ((({ snapshots := [{ generation := 0, created := 0, holds := 1, retirePending := true }] } : Volume).snapshot 0).any
      fun r => r.retirePending) := by decide +kernel
theorem witness_RestoreStartTakesAHoldAndASlot :
    (∀ k < 8, (({ joined with jobs := Vector.replicate 8 (some (jobW .running 0 0 0 0)) } : State).job k).isSome = true) ∧
    (let s : State := { restoring with jobs := (Vector.replicate 8 (some (jobW .running 0 0 0 0))).set 7 none }
     s.job 7 = none ∧ (∀ k < 7, (s.job k).isSome = true) ∧ (s.principal 23).isSome = true ∧ s.principal 1 = none) ∧
    ((restoring.job 0 = none ∧ (restoring.volume 0).declared = true) ∧
      ((restoring.volume 0).snapshot 1).any (fun r => r.retirePending = false) ∧ (restoring.volume 0).snapshot 2 = none ∧
      (restoring.volume 15).declared = false) ∧
    (({ snapshots := [{ generation := 0, created := 0, holds := 1, retirePending := true }] } : Volume).snapshot 0).any
      (fun r => r.retirePending) := by decide
theorem witness_RestoreEndAndCancelCloseTheJob :
    (7 < 8 ∧ restoring.job 7 = none) ∧
    (restoring.job 2).any (fun j => j.tag = 41 ∧ j.tag ≠ 40 ∧ j.state = .quotaWait ∧ j.permits ≠ 0) ∧
    (finishing.job 2).any (fun j => j.state = .finishing) ∧
    (limited.job 0).any (fun j => j.tag = 1 ∧ j.state = .running ∧ j.permits = 0) := by decide

/-- An expired permit 18 of an owner, answered late. -/
def lately (owner : ExpiredOwner) (s : State) : State :=
  { s with arbiter := { s.arbiter with permits := [], expired := [{ id := 18, owner := owner, chunk := 256 }] } }
theorem witness_PermitDoneReturnsThePermit :
    (restoring.arbiter.permits.find? fun q => q.id == 17).any (fun p => p.owner = .job 2 23 ∧ p.chunk = 256) ∧
    ((restoring.credit 23 156 .restore).job 2).any (fun j => ¬ (j.state.closing = true ∧ j.permits ≤ 1)) ∧
    (finishing.arbiter.permits.find? fun q => q.id == 20).any (fun p => p.owner = .job 2 23) ∧
    ((finishing.credit 23 56 .restore).job 2).any (fun j => j.state.closing = true ∧ j.permits ≤ 1) ∧
    (((permitted .sending).arbiter.permits.find? fun q => q.id == 3).any (fun p => p.owner = .night 0 1) ∧
      ((permitted .sending).volume 0).night.any (fun n => n.state = .sending) ∧
      ((permitted .finishing).volume 0).night.any (fun n => n.state.closing = true ∧ n.permits ≤ 1)) ∧
    (let s := lately (.job 2 23) restoring
     (∀ p ∈ s.arbiter.permits, p.id ≠ 18) ∧ (s.arbiter.expired.find? fun q => q.id == 18).isSome = true ∧
       ((s.credit 23 1 .restore).job 2).isSome = true ∧ ∀ e ∈ s.arbiter.expired, e.id ≠ 19) ∧
    ((lately (.formerJob 23) restoring).principal 23 ≠ none ∧ (lately (.formerJob 1) restoring).principal 1 = none) ∧
    ((lately (.night 0 1) duplicating).volume 0).night.any (fun n => n.generation = 1) ∧
    ((lately (.night 0 2) duplicating).volume 0).night.any (fun n => n.generation ≠ 2) := by decide

/-- Both sides wait: a job of V in slot 0 beside chapter 8's night. -/
def contended (count : Nat) : State :=
  { limited with
    volumes := duplicating.volumes
    arbiter := { precedence := count }
    dup := { tokens := 256, rate := 899 } }
theorem witness_ArbiterChoosesASide :
    (joined.restoreWaiting = false ∧ joined.duplicationReady = false) ∧
    (let s : State := { contended 0 with loader := { config := { readSlots := 1 } }
                                         arbiter := { permits := [{ id := 0, owner := .job 0 22, chunk := 256 }] } }
     s.config.readSlots ≤ s.slotsInUse) ∧
    ((contended 3).slotsInUse < (contended 3).config.readSlots ∧ (contended 3).duplicationReady = true ∧
      (contended 3).restoreWaiting = true ∧ (contended 3).config.restoreWeight ≤ (contended 3).arbiter.precedence) ∧
    ((contended 2).restoreWaiting = true ∧ (contended 2).arbiter.precedence < (contended 2).config.restoreWeight) ∧
    (limited.restoreWaiting = true ∧ limited.duplicationReady = false ∧ limited.evaluateChunk 22 256 = .granted) ∧
    (let s : State := { limited with quota := limited.quota.update 22 fun p => { p with hard := 104756 } }
     s.evaluateChunk 22 4096 = .held ∧ (heldUp 31 s).quota.held.length < 32 ∧ 32 ≤ (heldUp 32 s).quota.held.length) ∧
    limited.evaluateChunk 22 5003 = .overQuota ∧
    (let a : Arbiter := { nextId := 255, permits := [{ id := 255, owner := .job 0 22, chunk := 256 }]
                          expired := [{ id := 0, owner := .formerJob 22, chunk := 256 }] }
     a.nextId < 256 ∧ a.permits.length + a.expired.length < 256) := by decide
theorem witness_NightOpenAndResume :
    ((catalogued.volume 15).declared = false ∧ (catalogued.volume 2).declared = true ∧
      (catalogued.volume 2).offsite = true ∧ (restoring.volume 0).offsite = false ∧ (catalogued.volume 2).night = none ∧
      (duplicating.volume 0).night ≠ none) ∧
    ((catalogued.volume 2).snapshot 9 = none ∧
      ((catalogued.volume 2).snapshot 5).any (fun r => r.status ≠ .localOnly) ∧
      ((catalogued.volume 2).snapshot 6).any (fun r => r.status = .localOnly ∧ r.retirePending = false) ∧
      (catalogued.volume 2).base = some 5 ∧ ¬ 6 ≤ 5) ∧
    (0 ≤ catalogued.clock.minute ∧ catalogued.clock.minute < 1) ∧
    ((permitted .suspended).volume 0).night.any (fun n => n.state = .suspended) := by decide
theorem witness_NightDoneAndAbandonCloseTheNight :
    ((catalogued.volume 2).night = none ∧ (catalogued.volume 15).declared = false) ∧
    ((permitted .finishing).volume 0).night.any (fun n => n.state = .finishing) ∧
    ((permitted .sending).volume 0).night.any (fun n => n.state = .sending ∧ n.permits ≠ 0) ∧
    (duplicating.volume 0).night.any (fun n => n.state = .sending ∧ n.permits = 0) := by decide

/-- Station `joined` with a running request process. -/
def fetching (marks : ProcessMarks) : State :=
  { joined with port := { joined.port with requestState := .running, request := marks } }
/-- A PART-owned CLOCK QUERY, as the host writes it. -/
def clockDescriptor : List Byte := [0x01, 0x18] ++ List.replicate 62 0
theorem witness_RequestFetchTakesDescriptor :
    ((fetching {}).port.requestState = .running ∧ (fetching {}).port.phase = .idle ∧ (fetching {}).port.request.poll = false ∧
      (fetching { poll := true }).port.request.poll = true) ∧
    (clockDescriptor.head? = some 0x01#8 ∧ decodeRequest clockDescriptor = some .clockQuery ∧
      ¬ ∃ e ∈ (fetching {}).quota.held, e.origin = .charge 0) ∧
    decodeRequest (0x01#8 :: List.replicate 63 0x00#8) = none ∧ (List.replicate 64 0x00#8).head? ≠ some 0x01#8 ∧
    (0x02#8 :: List.replicate 63 0x00#8).head? ≠ some 0x01#8 ∧
    ∃ e ∈ (holding (.charge 0) 1 (fetching {})).quota.held, e.origin = .charge 0 := by decide
theorem witness_WritebackDoneReturnsTheDescriptor :
    (returning.port.requestState = .running ∧ returning.port.phase = .returning 896 ⟨.done, false, []⟩) ∧
    ({ returning.port with heldAnswers := [⟨960, ⟨.granted, true, []⟩⟩] } : Port).heldAnswers =
      ⟨960, ⟨.granted, true, []⟩⟩ :: [] := by decide
theorem witness_EventRecordsArePosted :
    (eventful.port.eventState = .running ∧ eventful.port.posting = none ∧
      eventful.port.events = .stationState .isolated .learning :: [] ∧
      (EventRecord.stationState .isolated .learning).parts.length = 1) ∧
    (EventRecord.restoreDone 2 41 0 1 23 812 812 1 false).parts.length = 2 ∧
    eventful.port.event.poll = false ∧ ({ eventful.port.event with poll := true } : ProcessMarks).poll = true ∧
    ({ eventful.port with posting := some [⟨0, [0]⟩] } : Port).posting = some [⟨0, [0]⟩] := by decide
theorem witness_LinkErrorFaultsBothProcesses :
    returning.accessing .requestWriteback = true ∧ (fetching {}).accessing .requestFetch = true := by decide
theorem witness_AutoPollFetchesAgain :
    (let s : State := { joined with port := { joined.port with
       requestState := .suspended, request := { waitInterval := 255, waitTicks := 255 } } }
     s.port.requestState = .suspended ∧ s.port.request.waitInterval ≠ 0 ∧
       s.port.request.waitInterval ≤ s.port.request.waitTicks ∧ s.partOwned clockDescriptor = true ∧
       decodeRequest clockDescriptor = some .clockQuery ∧ s.partOwned (List.replicate 64 0) = false) ∧
    (let s : State := { eventful with port := { eventful.port with
       eventState := .stalled, event := { waitInterval := 1, waitTicks := 1 } } }
     s.port.eventState = .stalled ∧ s.port.events = .stationState .isolated .learning :: [] ∧
       s.port.event.waitInterval ≠ 0 ∧ s.port.event.waitInterval ≤ s.port.event.waitTicks ∧
       (EventRecord.stationState .isolated .learning).parts.length = 1) ∧
    (EventRecord.restoreDone 2 41 0 1 23 812 812 1 false).parts.length = 2 ∧ (0x00#8 : Byte) ≠ 0x01#8 ∧
    (decodeRequest (0x01#8 :: List.replicate 63 0x00#8) = none ∧ ∃ e ∈ (holding (.charge 0) 1 joined).quota.held,
      e.origin = .charge (joined.port.requestRing.base.toNat + 64 * joined.port.requestRing.position)) := by decide
theorem test_auto_poll_posts_one_part :
    ((after (.autoPoll (.event 0x01 0x00)) { eventful with port := { eventful.port with
      eventState := .stalled, event := { waitInterval := 1, waitTicks := 1 } } }).port.posting.getD []).length = 2 := by
  decide
theorem witness_StartsStopsAndPollDemands :
    ((0x01 : Word).getLsbD 0 = true ∧ (0x01 : Word).getLsbD 1 = false ∧ (0x01 : Word).getLsbD 7 = false) ∧
    ((0x02 : Word).getLsbD 1 = true ∧ (0x02 : Word).getLsbD 0 = false) ∧
    ((0x04 : Word).getLsbD 2 = true ∧ (0x04 : Word).getLsbD 3 = false) ∧
    ((0x08 : Word).getLsbD 3 = true ∧ (0x08 : Word).getLsbD 2 = false) ∧
    ((0x10 : Word).getLsbD 4 = true ∧ (0x10 : Word).getLsbD 7 = false) ∧
    ((0x1F : Word).getLsbD 0 = true ∧ (0x1F : Word).getLsbD 1 = true ∧ (0x1F : Word).getLsbD 2 = true ∧
      (0x1F : Word).getLsbD 3 = true ∧ (0x1F : Word).getLsbD 4 = true ∧ (0x1F : Word).getLsbD 7 = false) ∧
    (0x9F : Word).getLsbD 7 = true ∧
    joined.port.requestState = .stopped ∧ (fetching {}).port.requestState ≠ .stopped ∧
    joined.port.eventState = .stopped ∧ eventful.port.eventState ≠ .stopped := by decide
theorem witness_PortResetActsOnThePortAlone :
    (0x80 : Word).getLsbD 7 = true ∧
    (∃ e ∈ (holding (.charge 64) 1 limited).quota.held, ∃ a, e.origin = .charge a) ∧
    ¬ ∃ e ∈ limited.quota.held, ∃ a, e.origin = .charge a :=
  ⟨by decide, ⟨_, List.mem_cons_self, 64, rfl⟩, fun ⟨_, h, _⟩ => absurd h List.not_mem_nil⟩
theorem witness_RingWritesWhileStopped :
    joined.port.requestState = .stopped ∧ (fetching {}).port.requestState ≠ .stopped ∧
    joined.port.eventState = .stopped ∧ eventful.port.eventState ≠ .stopped ∧
    (15 < 16 ∧ joined.port.requestRing.position < 16) := by decide
theorem witness_FlagsMaskAndOtherWrites :
    ((Instr.otherRegisterWrite 0x1C 4 0).wellFormed = true ∧ (Instr.otherRegisterWrite 0x19 4 0).wellFormed = true ∧
      (Instr.otherRegisterWrite 0x3F 1 0).wellFormed = true) ∧
    (joined.port.flagSet .portFault = false ∧ (joined.port.setFlag .portFault).flagSet .portFault = true) ∧
    (joined.port.flagMasked .portFault = true ∧ ({ joined.port with mask := 0 } : Port).flagMasked .portFault = false) ∧
    joined.port.events.length < 128 ∧
    128 ≤ ({ joined.port with events := List.replicate 128 (.evictDone 0 0) } : Port).events.length := by decide +kernel
theorem witness_FramesParseBack :
    (Frame.usage 15 .base (List.replicate 8 ⟨max32, max32⟩)).legal ∧
    (Frame.usage 0 .extended (List.replicate 30 ⟨0, 0⟩)).legal ∧ (Frame.presence 15 true max32 none).legal ∧
    (Frame.presence 0 false 0 (some ⟨max32, 65535, true⟩)).legal := by
  refine ⟨⟨by decide, by decide, by decide, ?_⟩, ⟨by decide, by decide, by decide, ?_⟩, ⟨by decide, by decide, trivial⟩,
    ⟨by decide, by decide, by decide, by decide⟩⟩
  all_goals intro e h; rw [List.mem_replicate] at h; obtain ⟨_, rfl⟩ := h; decide
theorem witness_RequestsDecodeBack :
    (Request.principalAdd 4294967295 255 4294967295 4294967295 65535 4294967295).wellFormed = true ∧
    Request.configQuery.wellFormed = true := by decide

/-- A station with something in every block: chapter 2's V with its restore job, a night, a frame in flight, a
held charge and a command waiting. -/
def populated : State :=
  { (limited.setVolume 0
      { declared := true, offsite := true, base := some 0
        snapshots := [{ generation := 0, created := 0, status := .offsite },
                      { generation := 1, created := 0, holds := 2, status := .sending }]
        night := some { state := .sending, generation := 1, remaining := 900, dawn := 7, permits := 1 } }).setJob 0
      (some { tag := 1, volume := 0, generation := 1, principal := 22, permits := 1, charged := 256 }) with
    quota := { limited.quota with held := [{ origin := .charge 64, principal := 22, amount := 12 }] }
    notice := { frame := some aRecord }
    bus := { (transmitting .sending aUsage 1 limited).bus with fifo := [{ frame := .presence 4 true 0 none }] }
    deadlines := [⟨.dawn 0, 7⟩]
    arbiter := { permits := [{ id := 0, owner := .job 0 22, chunk := 256 }, { id := 1, owner := .night 0 1, chunk := 256 }]
                 nextId := 2, precedence := 2 }
    dup := { tokens := 600, rate := 899 }
    pending := [.transmitCompletion, .charge 22 5] }
theorem populated_steps : (∀ i ∈ populated.pending, i.wellFormed = true) ∧ ∃ t, step populated = .next t :=
  ⟨by decide, _, rfl⟩
theorem witness_StepKeepsCapacitiesAndRanges :
    Capacities populated ∧ LoaderLaw populated ∧ RingLaw populated ∧ ClockLaw populated := by
  refine ⟨by unfold Capacities; decide, by unfold LoaderLaw legalConfig; decide, by unfold RingLaw RingRegs.legal; decide,
    trivial, by decide⟩
theorem witness_StepKeepsQuotaTablesAndRanges : QuotaTables populated ∧ PrincipalRanges populated :=
  ⟨by unfold QuotaTables; decide, trivial, (by decide : ∀ e ∈ aRecord.entries, e.value ≤ max32), by decide⟩
theorem witness_StepKeepsNoticeTransmitterAndHeldLaws :
    NoticeQueueLaw populated ∧ TransmitterLaw populated ∧ HeldLaw populated :=
  ⟨⟨by decide, by decide, by decide, by decide, by decide, by decide⟩, ⟨by decide, by decide, rfl⟩,
    by unfold HeldLaw; decide⟩
theorem witness_StepKeepsDeadlineLaw : DeadlineLaw populated := by unfold DeadlineLaw; decide
theorem witness_StepKeepsCatalogueLaw : CatalogueLaw populated := by unfold CatalogueLaw State.catalogueLaw; decide
theorem populated_owners : populated.ownersStand := by
  refine ⟨?_, ?_, fun e h => absurd h List.not_mem_nil⟩
  · intro p h
    have h : p = { id := 0, owner := .job 0 22, chunk := 256 } ∨ p = { id := 1, owner := .night 0 1, chunk := 256 } := by
      simpa [populated] using h
    rcases h with rfl | rfl <;> decide
  · intro e h
    have h : e = { origin := .charge 64, principal := 22, amount := 12 } := by
      simpa [populated, limited] using h
    subst h; trivial
theorem populated_jobs : ∀ k < 8, populated.jobLaw k := by
  intro k h
  match k, h with
  | 0, _ => exact ⟨by decide, by decide, by decide, by decide, by decide⟩
  | 1, _ => trivial
  | 2, _ => trivial
  | 3, _ => trivial
  | 4, _ => trivial
  | 5, _ => trivial
  | 6, _ => trivial
  | 7, _ => trivial
  | n + 8, h => omega
theorem witness_StepKeepsReadSlotsTokensAndPrecedence :
    ReadSlotLaw populated ∧ TokenLaw populated ∧ PrecedenceLaw populated := by
  have idle : ConfiguringIdle populated := fun h => absurd h (by decide)
  refine ⟨⟨idle, by unfold legalConfig; decide, by decide, by decide, by decide, by decide, by decide, by decide,
    populated_owners, populated_jobs, by decide, by decide⟩, ⟨idle, by decide, by decide⟩, by unfold PrecedenceLaw; decide⟩

end Sys2Proof.Tests
end

section
/-! PROOFS. The rules and facts that the statements about principals and quota records rest on: the answers of
request rows, operand ranges, the quota state and grace maintenance, the slots and lookups of the principal table,
and the outcomes of PRINCIPAL ADD and PRINCIPAL REMOVE. -/

namespace Sys2Proof.Machine

/-! ### Answers of request rows (R161, R163) -/

/-- A reply that leaves the port to its answer is written back into the descriptor that was fetched. -/
theorem Reply.answered_of_port {s : State} {a : Nat} {q : Request} (h : s.serves a q) {r : Reply}
    (hport : r.state.port = s.port) :
    r.answered = { r.state with port := { s.port with phase := .returning a ⟨r.code, false, r.values⟩ } } := by
  have hphase : r.state.port.phase = .executing a q := by rw [hport]; exact h.2
  rw [Reply.answered_eq hphase, hport]

/-- A refusal changes nothing but the phase, which holds its result code (R177). -/
theorem State.refuse_answered {s : State} {a : Nat} {q : Request} (h : s.serves a q) (code : ResultCode) :
    (s.refuse code).answered =
      { s with port := { s.port with phase := .returning a ⟨code, false, []⟩ } } :=
  Reply.answered_of_port h rfl

/-- A step that ends by writing the port changes the port besides what it changed before. -/
theorem Unchanged.setPort {l : List Block} {s t : State} (h : Unchanged l s t) (p : Port) :
    Unchanged (l ++ [.port]) s { t with port := p } :=
  h.trans fun b hb => by cases b <;> simp_all [Block.same]

/-- PRINCIPAL ADD, fetched and executed, with the expiry test that R157 puts at its end. -/
theorem exec_principalAdd {s : State} {a id cls soft hard period initial : Nat}
    (h : s.serves a (.principalAdd id cls soft hard period initial)) :
    exec (.principalAdd id cls soft hard period initial) s =
      .next ((s.addPrincipal id cls soft hard period initial).answered.insertionTest s) :=
  State.serveInserting_takes h fun s => s.addPrincipal id cls soft hard period initial

/-- PRINCIPAL REMOVE, fetched and executed. -/
theorem exec_principalRemove {s : State} {a id : Nat} (h : s.serves a (.principalRemove id)) :
    exec (.principalRemove id) s = .next (s.removePrincipal id).answered :=
  State.serve_takes h fun s => s.removePrincipal id

/-- A PRINCIPAL ADD whose checks refuse it inserts no entry, so no expiry test follows. -/
theorem principalAdd_refuses {s : State} {a id cls soft hard period initial : Nat}
    (h : s.serves a (.principalAdd id cls soft hard period initial)) {code : ResultCode}
    (hcode : s.addPrincipal id cls soft hard period initial = s.refuse code) :
    Refuses (.principalAdd id cls soft hard period initial) s a code := by
  unfold Refuses
  rw [exec_principalAdd h, hcode, State.refuse_answered h]
  exact congrArg _ (State.insertionTest_of_eq rfl)

theorem principalRemove_refuses {s : State} {a id : Nat} (h : s.serves a (.principalRemove id)) {code : ResultCode}
    (hcode : s.removePrincipal id = s.refuse code) : Refuses (.principalRemove id) s a code := by
  unfold Refuses
  rw [exec_principalRemove h, hcode, State.refuse_answered h]

/-! ### Operand ranges (R2, R179) -/

theorem validId_iff {id : Nat} : validId id = true ↔ 1 ≤ id ∧ id ≤ max32 := by simp [validId]

theorem validId_eq_false_iff {id : Nat} : validId id = false ↔ id = 0 ∨ max32 < id := by
  rw [← Bool.not_eq_true, validId_iff]; omega

theorem validHard_iff {hard : Nat} : validHard hard = true ↔ 1 ≤ hard ∧ hard ≤ max32 := by simp [validHard]

theorem validHard_eq_false_iff {hard : Nat} : validHard hard = false ↔ hard = 0 ∨ max32 < hard := by
  rw [← Bool.not_eq_true, validHard_iff]; omega

theorem decodeClass_of_le_one {cls : Nat} (h : cls ≤ 1) :
    decodeClass cls = some (if cls = 0 then .limited else .exempt) := by
  match cls, h with
  | 0, _ => rfl
  | 1, _ => rfl

theorem decodeClass_of_one_lt {cls : Nat} (h : 1 < cls) : decodeClass cls = none := by
  match cls, h with
  | _ + 2, _ => rfl

/-! ### The quota state (R7) -/

theorem Principal.quotaState_exempt {p : Principal} (hc : p.cls = .exempt) : p.quotaState = .under := by
  simp [Principal.quotaState, hc]

theorem Principal.quotaState_hard {p : Principal} (hc : p.cls = .limited) (hu : p.hard ≤ p.campus) :
    p.quotaState = .hard := by
  simp [Principal.quotaState, hc, hu]

theorem Principal.quotaState_expired {p : Principal} (hc : p.cls = .limited) (hu : p.campus < p.hard)
    (hg : p.grace = .expired) : p.quotaState = .expired := by
  simp [Principal.quotaState, hc, Nat.not_le.2 hu, hg]

theorem Principal.quotaState_soft {p : Principal} (hc : p.cls = .limited) (hu : p.campus < p.hard) {d : Nat}
    (hg : p.grace = .running d) : p.quotaState = .soft := by
  simp [Principal.quotaState, hc, Nat.not_le.2 hu, hg]

theorem Principal.quotaState_under {p : Principal} (hc : p.cls = .limited) (hu : p.campus < p.hard)
    (hg : p.grace = .absent) : p.quotaState = .under := by
  simp [Principal.quotaState, hc, Nat.not_le.2 hu, hg]

/-! ### Grace maintenance (R8) -/

theorem Principal.graceAfter_exempt {p : Principal} (minute : Nat) (hc : p.cls = .exempt) :
    p.graceAfter minute = p.grace := by
  simp [Principal.graceAfter, hc]

/-- Without a soft limit, or with U below it, no grace stands. -/
theorem Principal.graceAfter_below {p : Principal} (minute : Nat) (hc : p.cls = .limited)
    (hs : p.soft = 0 ∨ p.campus < p.soft) : p.graceAfter minute = .absent := by
  have : ¬ (0 < p.soft ∧ p.soft ≤ p.campus) := by omega
  simp [Principal.graceAfter, hc, this]

/-- With U at the soft limit, a grace that stands is kept. -/
theorem Principal.graceAfter_keeps {p : Principal} (minute : Nat) (hc : p.cls = .limited) (h0 : p.soft ≠ 0)
    (hs : p.soft ≤ p.campus) (hg : p.grace ≠ .absent) : p.graceAfter minute = p.grace := by
  have : 0 < p.soft ∧ p.soft ≤ p.campus := ⟨by omega, hs⟩
  cases h : p.grace with
  | absent => exact absurd h hg
  | running d => simp [Principal.graceAfter, hc, this, h]
  | expired => simp [Principal.graceAfter, hc, this, h]

/-- With U at the soft limit and a grace period of 0, the grace has expired as it starts. -/
theorem Principal.graceAfter_expires {p : Principal} (minute : Nat) (hc : p.cls = .limited) (h0 : p.soft ≠ 0)
    (hs : p.soft ≤ p.campus) (hg : p.grace = .absent) (hp : p.period = 0) : p.graceAfter minute = .expired := by
  have : 0 < p.soft ∧ p.soft ≤ p.campus := ⟨by omega, hs⟩
  simp [Principal.graceAfter, hc, this, hg, hp]

/-- With U at the soft limit, a grace starts and runs for its period. -/
theorem Principal.graceAfter_starts {p : Principal} (minute : Nat) (hc : p.cls = .limited) (h0 : p.soft ≠ 0)
    (hs : p.soft ≤ p.campus) (hg : p.grace = .absent) (hp : p.period ≠ 0) :
    p.graceAfter minute = .running (satAdd minute p.period) := by
  have : 0 < p.soft ∧ p.soft ≤ p.campus := ⟨by omega, hs⟩
  simp [Principal.graceAfter, hc, this, hg, Nat.pos_of_ne_zero hp]

/-! ### The GRACE entry (R8, R155, R156) -/

theorem graceDeadlines_started (id d : Nat) (l : List Deadline) :
    graceDeadlines id .absent (.running d) l = insertDeadline ⟨.grace id, d⟩ l := rfl

theorem graceDeadlines_ended (id d : Nat) (l : List Deadline) :
    graceDeadlines id (.running d) .absent l = removeDeadline (.grace id) l := rfl

theorem graceDeadlines_of_not_started (id : Nat) {g : Grace} (h : ∀ d, g ≠ .running d) (l : List Deadline) :
    graceDeadlines id .absent g l = l := by
  cases g with
  | absent => rfl
  | running d => exact absurd rfl (h d)
  | expired => rfl

theorem graceDeadlines_self (id : Nat) (g : Grace) (l : List Deadline) : graceDeadlines id g g l = l := by
  cases g <;> rfl

theorem graceDeadlines_of_expired (id : Nat) (g : Grace) (l : List Deadline) :
    graceDeadlines id .expired g l = l := rfl

/-! ### Slots of the principal table (R1) -/

theorem Quota.atSlot_isSome_iff {q : Quota} {k : Nat} :
    (q.atSlot k).isSome = true ↔ ∃ p ∈ q.principals, p.slot = k := by
  simp [Quota.atSlot, List.find?_isSome]

theorem Quota.atSlot_eq_none_iff {q : Quota} {k : Nat} :
    q.atSlot k = none ↔ ∀ p ∈ q.principals, p.slot ≠ k := by
  simp [Quota.atSlot]

theorem le_lowestFreeSlot (l : List Principal) (n : Nat) : n ≤ lowestFreeSlot l n := by
  induction l generalizing n with
  | nil => exact Nat.le_refl n
  | cons p l ih =>
    simp only [lowestFreeSlot]
    split
    · exact Nat.le_of_succ_le (ih (n + 1))
    · exact Nat.le_refl n

/-- Every slot that the search passes over is held. -/
theorem held_of_lt_lowestFreeSlot {l : List Principal} {n k : Nat} (hn : n ≤ k) (hk : k < lowestFreeSlot l n) :
    ∃ p ∈ l, p.slot = k := by
  induction l generalizing n with
  | nil => simp only [lowestFreeSlot] at hk; omega
  | cons p l ih =>
    simp only [lowestFreeSlot] at hk
    split at hk
    case isTrue hp =>
      by_cases h : k = n
      · exact ⟨p, List.mem_cons_self, hp.trans h.symm⟩
      · obtain ⟨q, hq, hslot⟩ := ih (by omega) hk
        exact ⟨q, List.mem_cons_of_mem p hq, hslot⟩
    case isFalse => omega

/-- In a list in slot order, the slot at which the search ends is free. -/
theorem slot_ne_lowestFreeSlot {l : List Principal} (hl : l.Pairwise fun p q => p.slot < q.slot) {n : Nat}
    (hn : ∀ p ∈ l, n ≤ p.slot) : ∀ p ∈ l, p.slot ≠ lowestFreeSlot l n := by
  induction l generalizing n with
  | nil => simp
  | cons p l ih =>
    obtain ⟨hp, hl⟩ := List.pairwise_cons.1 hl
    simp only [lowestFreeSlot, List.forall_mem_cons] at hn ⊢
    split
    case isTrue hs =>
      have := le_lowestFreeSlot l (n + 1)
      exact ⟨by omega, ih hl fun q hq => by have := hp q hq; omega⟩
    case isFalse hs =>
      exact ⟨hs, fun q hq => by have := hp q hq; omega⟩

/-- In a table in slot order the search finds the slot that is free while every lower one is occupied. -/
theorem Quota.lowestFreeSlot_eq {q : Quota} (hq : q.principals.Pairwise fun p r => p.slot < r.slot) {slot : Nat}
    (hfree : q.atSlot slot = none) (hbelow : ∀ k < slot, (q.atSlot k).isSome = true) :
    lowestFreeSlot q.principals 0 = slot := by
  have found_free := slot_ne_lowestFreeSlot hq (n := 0) fun _ _ => Nat.zero_le _
  rcases Nat.lt_trichotomy (lowestFreeSlot q.principals 0) slot with hlt | heq | hgt
  · obtain ⟨p, hp, hslot⟩ := Quota.atSlot_isSome_iff.1 (hbelow _ hlt)
    exact absurd hslot (found_free p hp)
  · exact heq
  · obtain ⟨p, hp, hslot⟩ := held_of_lt_lowestFreeSlot (Nat.zero_le slot) hgt
    exact absurd hslot (Quota.atSlot_eq_none_iff.1 hfree p hp)

/-- In a full table in slot order the search ends past the last slot. -/
theorem Quota.lowestFreeSlot_of_full {q : Quota} (hq : q.principals.Pairwise fun p r => p.slot < r.slot)
    {last : Nat} (hfull : ∀ k ≤ last, (q.atSlot k).isSome = true) : last < lowestFreeSlot q.principals 0 := by
  refine Nat.lt_of_not_le fun hle => ?_
  obtain ⟨p, hp, hslot⟩ := Quota.atSlot_isSome_iff.1 (hfull _ hle)
  exact slot_ne_lowestFreeSlot hq (n := 0) (fun _ _ => Nat.zero_le _) p hp hslot

/-! ### A record joins the table (R1, R14) -/

/-- What PRINCIPAL ADD does with the record it has made (R14, R8, R82): the record joins the table, its grace its
GRACE entry, and with an initial Lc above zero the principal the notice queue. -/
def State.addRecord (s : State) (p : Principal) : State :=
  { s with
    quota := { s.quota with principals := insertPrincipal p s.quota.principals }
    deadlines := graceDeadlines p.id .absent p.grace s.deadlines
    notice := if 0 < p.lc then s.notice.queueNormal p.id else s.notice }

theorem find_insertPrincipal_same {p : Principal} {l : List Principal}
    (h : l.find? (fun x => x.id == p.id) = none) :
    (insertPrincipal p l).find? (fun x => x.id == p.id) = some p := by
  induction l with
  | nil => simp [insertPrincipal]
  | cons x l ih =>
    obtain ⟨hx, hl⟩ : x.id ≠ p.id ∧ l.find? (fun y => y.id == p.id) = none := by simpa using h
    simp only [insertPrincipal]
    split
    · simp [hx, ih hl]
    · simp

theorem find_insertPrincipal_ne {p : Principal} {j : Nat} (h : j ≠ p.id) (l : List Principal) :
    (insertPrincipal p l).find? (fun x => x.id == j) = l.find? fun x => x.id == j := by
  induction l with
  | nil => simp [insertPrincipal, h.symm]
  | cons x l ih =>
    simp only [insertPrincipal]
    split
    · simp only [List.find?_cons, ih]
    · simp [List.find?_cons, h.symm]

theorem State.principal_addRecord_same {s : State} {p : Principal} (h : s.principal p.id = none) :
    (s.addRecord p).principal p.id = some p :=
  find_insertPrincipal_same h

theorem State.principal_addRecord_ne (s : State) {p : Principal} {j : Nat} (h : j ≠ p.id) :
    (s.addRecord p).principal j = s.principal j :=
  find_insertPrincipal_ne h s.quota.principals

theorem State.addRecord_frame (s : State) (p : Principal) :
    Unchanged [.quota, .deadlines, .notice] s (s.addRecord p) := by
  intro b hb; cases b <;> simp_all [Block.same, State.addRecord]

/-! ### PRINCIPAL ADD (R13, R14) -/

section AddPrincipal

variable {s : State} {id cls soft hard period initial : Nat}

theorem State.addPrincipal_badRequest (h : id = 0 ∨ max32 < id ∨ 1 < cls ∨ hard = 0 ∨ max32 < hard) :
    s.addPrincipal id cls soft hard period initial = s.refuse .badRequest := by
  unfold State.addPrincipal
  by_cases hid : validId id = true
  · by_cases hcls : cls ≤ 1
    · have hid' := validId_iff.1 hid
      have hhard : validHard hard = false := validHard_eq_false_iff.2 (by omega)
      simp [hid, decodeClass_of_le_one hcls, hhard]
    · simp [hid, decodeClass_of_one_lt (Nat.lt_of_not_le hcls)]
  · simp [hid]

theorem State.addPrincipal_exists (hid : 1 ≤ id ∧ id ≤ max32) (hcls : cls ≤ 1) (hhard : 1 ≤ hard ∧ hard ≤ max32)
    (h : (s.principal id).isSome = true) :
    s.addPrincipal id cls soft hard period initial = s.refuse .exists_ := by
  simp [State.addPrincipal, validId_iff.2 hid, decodeClass_of_le_one hcls, validHard_iff.2 hhard, h]

theorem State.addPrincipal_tableFull (hid : 1 ≤ id ∧ id ≤ max32) (hcls : cls ≤ 1)
    (hhard : 1 ≤ hard ∧ hard ≤ max32) (hnew : s.principal id = none)
    (hfull : 65535 < lowestFreeSlot s.quota.principals 0) :
    s.addPrincipal id cls soft hard period initial = s.refuse .tableFull := by
  simp [State.addPrincipal, validId_iff.2 hid, decodeClass_of_le_one hcls, validHard_iff.2 hhard, hnew, hfull]

/-- The record that PRINCIPAL ADD makes for a slot, before grace maintenance (R2, R14). -/
def freshPrincipal (slot id cls soft hard period initial : Nat) : Principal :=
  { slot := slot, id := id, cls := if cls = 0 then .limited else .exempt, soft := min soft hard, hard := hard,
    period := period, lc := initial }

/-- A PRINCIPAL ADD that passes its checks adds the record with its grace maintained (R14). -/
theorem State.addPrincipal_creates (hid : 1 ≤ id ∧ id ≤ max32) (hcls : cls ≤ 1)
    (hhard : 1 ≤ hard ∧ hard ≤ max32) (hnew : s.principal id = none)
    (hroom : lowestFreeSlot s.quota.principals 0 ≤ 65535) :
    let p := freshPrincipal (lowestFreeSlot s.quota.principals 0) id cls soft hard period initial
    let q := { p with grace := p.graceAfter s.clock.minute }
    s.addPrincipal id cls soft hard period initial =
      ⟨s.addRecord q, limitsCode soft hard, [u16 q.slot, u8 q.quotaState.code]⟩ := by
  simp only [State.addPrincipal, validId_iff.2 hid, decodeClass_of_le_one hcls, validHard_iff.2 hhard, hnew,
    Nat.not_lt.2 hroom, Bool.not_true, Bool.false_eq_true, if_false, Option.isSome_none]
  split
  case isTrue hpos => simp [State.addRecord, freshPrincipal, State.queueNormal, hpos]
  case isFalse hpos => simp [State.addRecord, freshPrincipal, hpos]

end AddPrincipal

/-! ### PRINCIPAL REMOVE (R16, R17) -/

theorem State.inUse_iff {s : State} {id : Nat} {p : Principal} (h : s.principal id = some p) :
    s.inUse p = true ↔ 0 < p.lc ∨ 0 < p.restoreJobs ∨ ∃ e ∈ s.quota.held, e.principal = id := by
  simp [State.inUse, State.principal_id h, or_assoc]

theorem State.queueUrgent_frame (s : State) (id : Nat) : Unchanged [.notice] s (s.queueUrgent id) := by
  intro b hb; cases b <;> simp_all [Block.same]

theorem State.dropPrincipal_frame (s : State) (id : Nat) :
    Unchanged [.quota, .deadlines, .notice] s (s.dropPrincipal id) := by
  intro b hb; cases b <;> simp_all [Block.same, State.dropPrincipal]

section RemovePrincipal

variable {s : State} {id : Nat} {p : Principal}

theorem State.removePrincipal_badRequest (h : id = 0 ∨ max32 < id) :
    s.removePrincipal id = s.refuse .badRequest := by
  simp [State.removePrincipal, validId_eq_false_iff.2 h]

theorem State.removePrincipal_unknown (hid : 1 ≤ id ∧ id ≤ max32) (h : s.principal id = none) :
    s.removePrincipal id = s.refuse .unknownPrincipal := by
  simp [State.removePrincipal, validId_iff.2 hid, h]

theorem State.removePrincipal_inUse (hid : 1 ≤ id ∧ id ≤ max32) (h : s.principal id = some p)
    (hused : s.inUse p = true) : s.removePrincipal id = s.refuse .inUse := by
  simp [State.removePrincipal, validId_iff.2 hid, h, hused]

/-- A principal whose spend other stations may still count is queued URGENT and stays (R16 check 4). -/
theorem State.removePrincipal_unannounced (hid : 1 ≤ id ∧ id ≤ max32) (h : s.principal id = some p)
    (hused : s.inUse p = false) (hla : 0 < p.la ∨ s.inFrame id = true) :
    s.removePrincipal id = ⟨s.queueUrgent id, .unannounced, []⟩ := by
  simp [State.removePrincipal, validId_iff.2 hid, h, hused, hla]

theorem State.removePrincipal_drops (hid : 1 ≤ id ∧ id ≤ max32) (h : s.principal id = some p)
    (hused : s.inUse p = false) (hla : p.la = 0) (hframe : s.inFrame id = false) :
    s.removePrincipal id = ⟨s.dropPrincipal id, .done, []⟩ := by
  simp [State.removePrincipal, validId_iff.2 hid, h, hused, hla, hframe]

end RemovePrincipal

end Sys2Proof.Machine
end

section
/-! PROOFS. The statements about principals and quota records: re-derivation, PRINCIPAL ADD and PRINCIPAL
REMOVE. -/

namespace Sys2Proof.Machine

/-- Settles O25: one lemma for each branch of the quota state and of grace maintenance, and the equation of
re-derivation. -/
theorem rederivationMaintainsGraceAndState : Obligations.RederivationMaintainsGraceAndState := by
  refine ⟨fun p => ⟨Principal.quotaState_exempt, fun hc => ⟨Principal.quotaState_hard hc, fun hu => ?_⟩⟩,
    fun p minute => ⟨Principal.graceAfter_exempt minute, fun hc => ?_⟩, ?_⟩
  · exact ⟨Principal.quotaState_expired hc hu, fun _ => Principal.quotaState_soft hc hu,
      Principal.quotaState_under hc hu⟩
  · exact ⟨Principal.graceAfter_below minute hc, fun h0 hs => ⟨Principal.graceAfter_keeps minute hc h0 hs,
      Principal.graceAfter_expires minute hc h0 hs, Principal.graceAfter_starts minute hc h0 hs⟩⟩
  · intro s id cause op p hp hid q t
    have ht : t = { s with
        quota := s.quota.update id fun _ => q
        deadlines := graceDeadlines id (op p).grace q.grace s.deadlines
        port := s.port.raises (quotaRecords p q cause) } := State.rederive_eq s cause op hp
    have hdeadlines : t.deadlines = graceDeadlines id (op p).grace q.grace s.deadlines := by rw [ht]
    refine ⟨State.principal_rederive_same s cause op hp hid,
      fun j hj => State.principal_rederive_ne s cause op hp hid hj, by rw [ht]; rfl, by rw [ht]; rfl,
      ?notStarted, ?started, ?ended, ?kept, by rw [ht], State.rederive_frame s id cause op⟩
    case notStarted =>
      intro hg hq
      rw [hdeadlines, hg, graceDeadlines_of_not_started id hq]
    case started =>
      intro d hg hq
      rw [hdeadlines, hg, hq, graceDeadlines_started]
    case ended =>
      intro d hg hq
      rw [hdeadlines, hg, hq, graceDeadlines_ended]
      rfl
    case kept =>
      rintro (hg | hg)
      · rw [hdeadlines, hg, graceDeadlines_self]
      · rw [hdeadlines, hg, graceDeadlines_of_expired]

/-- Settles O30, by the checks in their order and the lowest free slot of a table in slot order. -/
theorem principalAddCreatesTheRecord : Obligations.PrincipalAddCreatesTheRecord := by
  intro s a id cls soft hard period initial ⟨hsorted, _⟩ hs i
  refine ⟨fun h => principalAdd_refuses hs (State.addPrincipal_badRequest h), fun h1 h2 hcls h3 h4 => ?_⟩
  have hid : 1 ≤ id ∧ id ≤ max32 := ⟨h1, h2⟩
  have hhard : 1 ≤ hard ∧ hard ≤ max32 := ⟨h3, h4⟩
  refine ⟨fun h => principalAdd_refuses hs (State.addPrincipal_exists hid hcls hhard h),
    fun hnew hfull => principalAdd_refuses hs
      (State.addPrincipal_tableFull hid hcls hhard hnew (Quota.lowestFreeSlot_of_full hsorted hfull)),
    ?creates⟩
  intro slot hnew hslot hfree hbelow p q
  have hlowest : lowestFreeSlot s.quota.principals 0 = slot := Quota.lowestFreeSlot_eq hsorted hfree hbelow
  have hadd : s.addPrincipal id cls soft hard period initial =
      ⟨s.addRecord q, limitsCode soft hard, [u16 slot, u8 q.quotaState.code]⟩ := by
    subst hlowest
    exact State.addPrincipal_creates hid hcls hhard hnew hslot
  refine ⟨_, exec_principalAdd hs, ?_⟩
  rw [hadd, Reply.answered_of_port hs rfl]
  refine ⟨State.principal_addRecord_same hnew, fun j hj => State.principal_addRecord_ne s hj, rfl, rfl, rfl, rfl,
    rfl, (State.addRecord_frame s q).setPort _⟩

/-- Settles O32, by the checks in their order. -/
theorem principalRemoveRefusesOrRemovesWhole : Obligations.PrincipalRemoveRefusesOrRemovesWhole := by
  intro s a id hs i
  refine ⟨fun h => principalRemove_refuses hs (State.removePrincipal_badRequest h), fun h1 h2 => ?_⟩
  have hid : 1 ≤ id ∧ id ≤ max32 := ⟨h1, h2⟩
  refine ⟨fun h => principalRemove_refuses hs (State.removePrincipal_unknown hid h), ?known⟩
  intro p hp used
  have hused : s.inUse p = true ↔ used := State.inUse_iff hp
  have hunused (h : ¬ used) : s.inUse p = false := Bool.eq_false_iff.2 fun hu => h (hused.1 hu)
  refine ⟨fun h => principalRemove_refuses hs (State.removePrincipal_inUse hid hp (hused.2 h)),
    fun hnot hla => ?unannounced, fun hnot hla hframe => ?drops⟩
  case unannounced =>
    refine ⟨_, exec_principalRemove hs, ?_⟩
    rw [State.removePrincipal_unannounced hid hp (hunused hnot) hla, Reply.answered_of_port hs rfl]
    exact ⟨rfl, rfl, (State.queueUrgent_frame s id).setPort _⟩
  case drops =>
    refine ⟨_, exec_principalRemove hs, ?_⟩
    rw [State.removePrincipal_drops hid hp (hunused hnot) hla hframe, Reply.answered_of_port hs rfl]
    exact ⟨rfl, rfl, rfl, rfl, rfl, rfl, (State.dropPrincipal_frame s id).setPort _⟩

end Sys2Proof.Machine
end

section
/-! PROOFS. The rules of charging that the statements about evaluations and grants rest on: the holders and the
divisor, headroom and share, the share test, the evaluation of a CHARGE and of a restore chunk, and the effects of a
grant. -/

namespace Sys2Proof.Machine

/-! ### The holders and the divisor (R6, R23) -/

section Divisor

variable {s : State} (id : Nat)

/-- The own station is no holder, so at most 15 peers are. -/
theorem State.anyHolders_lt (h : s.straps.station < 16) : s.anyHolders id < 16 := by
  have hle : s.anyHolders id ≤ (List.range 16).length := List.countP_le_length
  have hne : s.anyHolders id ≠ (List.range 16).length := by
    intro hall
    have hown := List.countP_eq_length.1 hall s.straps.station (List.mem_range.2 h)
    simp only [ne_eq, not_true_eq_false, decide_false, Bool.false_and, Bool.false_eq_true] at hown
  rw [List.length_range] at hle hne
  exact Nat.lt_of_le_of_ne hle hne

theorem State.liveHolders_le_anyHolders : s.liveHolders id ≤ s.anyHolders id :=
  List.countP_mono_left fun _ _ hk => (Bool.and_eq_true_iff.1 hk).1

theorem State.divisor_joined (h : s.peers.station = .joined) : s.divisor id = s.liveHolders id + 1 := by
  simp [State.divisor, h]

theorem State.divisor_learning (h : s.peers.station = .learning) : s.divisor id = s.config.stationCount := by
  simp [State.divisor, h]

theorem State.divisor_isolated (h : s.peers.station = .isolated) : s.divisor id = s.anyHolders id + 1 := by
  simp [State.divisor, h]

theorem State.divisor_clash (h : s.peers.station = .clash) : s.divisor id = s.anyHolders id + 1 := by
  simp [State.divisor, h]

/-- The divisor is from 1 to 16 in every station state, with the station number and count in their ranges. -/
theorem State.divisor_bounds (hs : s.straps.station < 16) (h1 : 1 ≤ s.config.stationCount)
    (h16 : s.config.stationCount ≤ 16) : 1 ≤ s.divisor id ∧ s.divisor id ≤ 16 := by
  have hany := State.anyHolders_lt id hs
  have hlive := State.liveHolders_le_anyHolders (s := s) id
  unfold State.divisor
  split <;> omega

/-- The divisor outside CONFIGURING, where R23 gives none, with the holders counted as the peers of a list. -/
theorem State.divisor_eq_length (h : s.peers.station ≠ .configuring) :
    let holders (only : Bool) := ((List.range 16).filter fun k =>
      k ≠ s.straps.station && s.quota.contributes id k && (!only || (s.peer k).state = .live)).length
    s.divisor id =
      if s.peers.station = .learning then s.config.stationCount
      else if s.peers.station = .joined then holders true + 1
      else holders false + 1 := by
  intro holders
  have hlive : s.liveHolders id = holders true := by
    simp [holders, State.liveHolders, List.countP_eq_length_filter]
  have hany : s.anyHolders id = holders false := by
    simp [holders, State.anyHolders, List.countP_eq_length_filter]
  cases hst : s.peers.station with
  | configuring => exact absurd hst h
  | learning => simpa using State.divisor_learning id hst
  | joined => simpa [← hlive] using State.divisor_joined id hst
  | isolated => simpa [← hany] using State.divisor_isolated id hst
  | clash => simpa [← hany] using State.divisor_clash id hst

end Divisor

/-! ### Headroom and share (R24) -/

/-- A share is never above its headroom: neither the part of it nor the guaranteed minimum is. -/
theorem State.share_le_headroom (s : State) (p : Principal) (limit : Nat) :
    s.share p limit ≤ p.headroom limit :=
  Nat.max_le.2 ⟨Nat.div_le_self _ _, Nat.min_le_left _ _⟩

/-! ### The share test (R25) -/

section ShareTest

variable {s : State} {p : Principal} {limit amount : Nat}

theorem State.shareTest_granted (h : s.divisor p.id = 1 ∨ p.unannounced + amount ≤ s.share p limit) :
    s.shareTest p limit amount = .granted := by
  rcases h with h | h <;> simp [State.shareTest, h]

/-- Above the share, a station that cannot learn more of its peers refuses. -/
theorem State.shareTest_shareLimit (hd : s.divisor p.id ≠ 1) (h : s.share p limit < p.unannounced + amount)
    (hst : s.peers.station = .isolated ∨ s.peers.station = .clash) :
    s.shareTest p limit amount = .shareLimit := by
  rcases hst with hst | hst <;> simp [State.shareTest, hd, Nat.not_le.2 h, hst]

/-- Above the share, a station that a sync can still inform holds the charge. -/
theorem State.shareTest_held (hd : s.divisor p.id ≠ 1) (h : s.share p limit < p.unannounced + amount)
    (hst : s.peers.station = .joined ∨ s.peers.station = .learning) :
    s.shareTest p limit amount = .held := by
  rcases hst with hst | hst <;> simp [State.shareTest, hd, Nat.not_le.2 h, hst]

/-- What the share test answers, by R25's steps 6 to 9. -/
theorem State.shareTest_spec (s : State) (p : Principal) (limit amount : Nat) :
    (s.divisor p.id = 1 ∨ p.unannounced + amount ≤ s.share p limit → s.shareTest p limit amount = .granted) ∧
    (s.divisor p.id ≠ 1 → s.share p limit < p.unannounced + amount →
      (s.peers.station = .isolated ∨ s.peers.station = .clash → s.shareTest p limit amount = .shareLimit) ∧
      (s.peers.station = .joined ∨ s.peers.station = .learning → s.shareTest p limit amount = .held)) :=
  ⟨State.shareTest_granted, fun hd h => ⟨State.shareTest_shareLimit hd h, State.shareTest_held hd h⟩⟩

end ShareTest

/-! ### The evaluation of a CHARGE (R22) and of a restore chunk (R39) -/

section Evaluation

variable {s : State} {id n : Nat} {p : Principal}

theorem State.evaluate_unknown (n : Nat) (h : s.principal id = none) : s.evaluate id n = .unknown := by
  simp [State.evaluate, State.firstSteps, h]

theorem State.evaluate_exempt (n : Nat) (h : s.principal id = some p) (hc : p.cls = .exempt) :
    s.evaluate id n = .granted := by
  simp [State.evaluate, State.firstSteps, h, hc]

theorem State.evaluate_overQuota (h : s.principal id = some p) (hc : p.cls = .limited)
    (hover : p.quotaState = .hard ∨ p.quotaState = .expired ∨ p.hard < p.campus + n) :
    s.evaluate id n = .overQuota := by
  rcases hover with hhard | hexpired | hover
  · simp [State.evaluate, State.firstSteps, h, hc, hhard]
  · simp [State.evaluate, State.firstSteps, h, hc, hexpired]
  · cases hq : p.quotaState <;> simp [State.evaluate, State.firstSteps, h, hc, hq, hover]

theorem State.evaluate_shareTest (h : s.principal id = some p) (hc : p.cls = .limited)
    (hq : p.quotaState = .under ∨ p.quotaState = .soft) (hfits : p.campus + n ≤ p.hard) :
    s.evaluate id n = s.shareTest p p.hard n := by
  rcases hq with hq | hq <;> simp [State.evaluate, State.firstSteps, h, hc, hq, Nat.not_lt.2 hfits]

theorem State.evaluateChunk_exempt (n : Nat) (h : s.principal id = some p) (hc : p.cls = .exempt) :
    s.evaluateChunk id n = .granted := by
  simp [State.evaluateChunk, State.firstChunkSteps, h, hc]

theorem State.evaluateChunk_overQuota (h : s.principal id = some p) (hc : p.cls = .limited)
    (hover : s.restoreLimit p < p.campus + n) : s.evaluateChunk id n = .overQuota := by
  simp [State.evaluateChunk, State.firstChunkSteps, h, hc, hover]

theorem State.evaluateChunk_shareTest (h : s.principal id = some p) (hc : p.cls = .limited)
    (hfits : p.campus + n ≤ s.restoreLimit p) : s.evaluateChunk id n = s.shareTest p (s.restoreLimit p) n := by
  simp [State.evaluateChunk, State.firstChunkSteps, h, hc, Nat.not_lt.2 hfits]

end Evaluation

/-! ### Grants (R26, R27) -/

/-- A grant changes a record's Lc only, by its class (R26). -/
theorem Principal.charged_eq (p : Principal) (n : Nat) :
    p.charged n = { p with lc := match p.cls with
      | .exempt => min max32 (p.lc + n)
      | .limited => p.lc + n } := by
  unfold Principal.charged
  cases p.cls <;> rfl

theorem Principal.charged_id (p : Principal) (n : Nat) : (p.charged n).id = p.id := by
  rw [Principal.charged_eq]

/-- A grant is the re-derivation of the charged record, and besides it only the notice queue changes (R27). -/
theorem State.grant_eq_rederive (s : State) {id : Nat} (n : Nat) (cause : QuotaCause) {p : Principal}
    (h : s.principal id = some p) :
    let q := { p.charged n with grace := (p.charged n).graceAfter s.clock.minute }
    s.grant id n cause =
      { s.rederive id cause fun p => p.charged n with
        notice := if s.config.reportStep ≤ q.unannounced ∨ p.quotaState ≠ q.quotaState then
            s.notice.queueNormal id
          else s.notice } := by
  intro q
  have hnotice : (s.rederive id cause fun p => p.charged n).notice = s.notice :=
    State.rederive_frame s id cause _ .notice (by simp)
  rw [State.grant_eq s n cause h]
  split
  case isTrue => simp only [State.queueNormal, hnotice]
  case isFalse => rw [← hnotice]

theorem State.grantCode_eq {s : State} {id : Nat} {p : Principal} (h : s.principal id = some p) :
    s.grantCode id = if p.quotaState = .soft then .grantedSoft else .granted := by
  simp [State.grantCode, h]

end Sys2Proof.Machine
end

section
/-! PROOFS. The statements about charging: evaluations, and the effects of a grant. -/

namespace Sys2Proof.Machine

/-- Settles O26: a CHARGE and a restore chunk that pass their own limit tests both reach the share test, each with
its limit, and the divisor counts holders as the statement does. -/
theorem evaluationOfACharge : Obligations.EvaluationOfACharge := by
  intro s id n hst
  refine ⟨State.evaluate_unknown n, ?known⟩
  intro p hp holders d h0 share limit chunkH0 chunkShare
  have hd : s.divisor p.id = d := by
    rw [State.principal_id hp]
    exact State.divisor_eq_length id hst
  have hshare : s.share p p.hard = share := by rw [State.share, hd]; rfl
  have hchunkShare : s.share p limit = chunkShare := by rw [State.share, hd]; rfl
  refine ⟨fun hc => ⟨State.evaluate_exempt n hp hc, State.evaluateChunk_exempt n hp hc⟩,
    fun hc => ⟨State.evaluate_overQuota hp hc, ?charge, State.evaluateChunk_overQuota hp hc, ?chunk⟩,
    hshare ▸ State.share_le_headroom s p p.hard, hchunkShare ▸ State.share_le_headroom s p limit, ?bounds⟩
  case charge =>
    intro hq hfits
    rw [State.evaluate_shareTest hp hc hq hfits, ← hd, ← hshare]
    exact State.shareTest_spec s p p.hard n
  case chunk =>
    intro hfits
    rw [State.evaluateChunk_shareTest hp hc hfits, ← hd, ← hchunkShare]
    exact State.shareTest_spec s p limit n
  case bounds =>
    intro hs h1 h16
    rw [← hd]
    exact State.divisor_bounds p.id hs h1 h16

/-- Settles O27: a grant is the re-derivation of the charged record, with the notice queue written after it. -/
theorem grantRaisesLocalUsageAndQueues : Obligations.GrantRaisesLocalUsageAndQueues := by
  intro s id n cause p hp p' q t
  have hcharged : p.charged n = p' := Principal.charged_eq p n
  have hid : (p.charged n).id = id := (p.charged_id n).trans (State.principal_id hp)
  have ht : t = { s.rederive id cause fun p => p.charged n with
      notice := if s.config.reportStep ≤ q.lc - q.la ∨ p.quotaState ≠ q.quotaState then s.notice.queueNormal id
        else s.notice } := by
    have hgrant := State.grant_eq_rederive s n cause hp
    rwa [hcharged] at hgrant
  have hsame : t.principal id = some q := by
    have hrederived := State.principal_rederive_same s cause (fun p => p.charged n) hp hid
    rw [hcharged] at hrederived
    rw [ht]
    exact hrederived
  have hfields := State.rederive_eq s cause (fun p => p.charged n) hp
  rw [hcharged] at hfields
  refine ⟨hsame, fun j hj => ?others, by rw [ht, hfields]; rfl, by rw [ht, hfields]; rfl, by rw [ht, hfields],
    by rw [ht, hfields], by rw [ht], State.grantCode_eq hsame, ?frame⟩
  case others =>
    rw [ht]
    exact State.principal_rederive_ne s cause (fun p => p.charged n) hp hid hj
  case frame => exact (State.grant_frame s id n cause).mono (by simp)

end Sys2Proof.Machine
end

section
/-! PROOFS. The rules of the peer table that the statements about its timers and about frame delivery rest on: the
common format, the writing of one peer record, the clock skew test, a PRESENCE, lapse and revival. -/

namespace Sys2Proof.Machine

/-! ### What writing a block leaves alone -/

theorem State.peers_frame (s : State) (peers : Peers) : Unchanged [.peers] s { s with peers := peers } := by
  intro b hb
  cases b <;> first | rfl | simp at hb

theorem State.bus_frame (s : State) (bus : Bus) : Unchanged [.bus] s { s with bus := bus } := by
  intro b hb
  cases b <;> first | rfl | simp at hb

theorem State.peers_port_frame (s : State) (peers : Peers) (port : Port) :
    Unchanged [.peers, .port] s { s with peers := peers, port := port } :=
  (State.peers_frame s peers).setPort port

theorem State.bus_peers_port_frame (s : State) (bus : Bus) (peers : Peers) (port : Port) :
    Unchanged [.bus, .peers, .port] s { s with bus := bus, peers := peers, port := port } :=
  (State.bus_frame s bus).trans (State.peers_port_frame { s with bus := bus } peers port)

/-! ### The writing of one peer record (R58, R59) -/

/-- A state in which a peer record is replaced, the common format set and records raised: the form that every
operation of the peer table on one sender takes. -/
def State.writePeer (s : State) (k : Nat) (p : Peer) (format : UsageFormat) (records : List EventRecord) : State :=
  { s with
    peers := { s.peers.setPeer k p with format := format }
    port := s.port.raises records }

theorem Peers.setPeer_self (t : Peers) (k : Nat) : t.setPeer k (t.peer k) = t := by
  have htable : t.table.setIfInBounds k (t.peer k) = t.table := by
    ext1 i hi
    rw [Vector.getElem_setIfInBounds]
    split
    case isTrue h => subst h; simp [Peers.peer, hi]
    case isFalse => rfl
  simp [Peers.setPeer, htable]

theorem Peers.setPeer_setPeer (t : Peers) (k : Nat) (p q : Peer) :
    (t.setPeer k p).setPeer k q = t.setPeer k q := by
  simp only [Peers.setPeer]
  congr 1
  ext1 i hi
  simp only [Vector.getElem_setIfInBounds]
  split <;> rfl

section WritePeer

variable (s : State) (k : Nat) (p q : Peer) (f g : UsageFormat) (l m : List EventRecord)

theorem State.peer_writePeer_same {k : Nat} (h : k < 16) : (s.writePeer k p f l).peer k = p :=
  State.peer_setPeer_same s p h

theorem State.writePeer_self : s.writePeer k (s.peer k) s.peers.format [] = s := by
  simp only [State.writePeer, State.peer, Peers.setPeer_self]
  rfl

/-- The later of two writings of one record stands; the records of both are raised. -/
theorem State.writePeer_writePeer :
    (s.writePeer k p f l).writePeer k q g m = s.writePeer k q g (l ++ m) := by
  have hpeers := Peers.setPeer_setPeer s.peers k p q
  simp only [Peers.setPeer, Peers.mk.injEq, and_true] at hpeers
  simp only [State.writePeer, Peers.setPeer, hpeers, Port.raises_append]

end WritePeer

/-! ### The common format (R65) -/

theorem State.commonFormat_base_of_config {s : State} (h : s.config.extendedFormat = false) :
    s.commonFormat = .base := by
  simp [State.commonFormat, h]

/-- The common format is EXTENDED just when the configuration enables it and every LIVE peer is able to read it. -/
theorem State.commonFormat_extended_iff (s : State) :
    s.commonFormat = .extended ↔ s.config.extendedFormat = true ∧
      ∀ k < 16, (s.peer k).state = .live → (s.peer k).capability = some .extended := by
  have hall : (s.peers.table.toList.all fun p => p.state ≠ .live || p.capability = some .extended) = true ↔
      ∀ k < 16, (s.peer k).state = .live → (s.peer k).capability = some .extended := by
    rw [List.all_eq_true]
    constructor
    case mp =>
      intro h k hk hlive
      have hp := h (s.peer k) (by simp [State.peer, Peers.peer, hk])
      simpa [hlive] using hp
    case mpr =>
      intro h p hp
      obtain ⟨k, hk, rfl⟩ := Vector.mem_iff_getElem.1 (Vector.mem_toList_iff.1 hp)
      have hk' := h k hk
      simp only [State.peer, Peers.peer, hk, dite_true] at hk'
      by_cases hlive : s.peers.table[k].state = .live
      · simp only [hk' hlive, decide_true, Bool.or_true]
      · simp only [ne_eq, hlive, not_false_eq_true, decide_true, Bool.true_or]
  rw [← hall, ← Bool.and_eq_true, State.commonFormat]
  split <;> simp_all

/-- A LIVE peer that reads BASE only, or has not yet said, keeps the format at BASE. -/
theorem State.commonFormat_base_of_peer {s : State} {k : Nat} (hk : k < 16) (hlive : (s.peer k).state = .live)
    (hcap : (s.peer k).capability ≠ some .extended) : s.commonFormat = .base := by
  cases h : s.commonFormat with
  | base => rfl
  | extended => exact absurd ((State.commonFormat_extended_iff s).1 h |>.2 k hk hlive) hcap

/-- The common format depends on the configuration and, of the LIVE peers' records, on whether each is EXTENDED. -/
theorem State.commonFormat_congr {s t : State} (hconfig : s.config.extendedFormat = t.config.extendedFormat)
    (hpeer : ∀ k < 16, (s.peer k).state = (t.peer k).state ∧
      ((s.peer k).capability = some .extended ↔ (t.peer k).capability = some .extended)) :
    s.commonFormat = t.commonFormat := by
  have hiff : s.commonFormat = .extended ↔ t.commonFormat = .extended := by
    rw [State.commonFormat_extended_iff, State.commonFormat_extended_iff, hconfig]
    refine and_congr_right fun _ => forall₂_congr fun k hk => ?_
    rw [(hpeer k hk).1, (hpeer k hk).2]
  cases hs : s.commonFormat <;> cases ht : t.commonFormat <;> simp_all

/-- Two records of one peer lead to the same common format when their states agree and both or neither are
EXTENDED. -/
theorem State.commonFormat_setPeer_congr (s : State) {k : Nat} (hk : k < 16) {p q : Peer}
    (hstate : p.state = q.state) (hcap : p.capability = some .extended ↔ q.capability = some .extended) :
    (s.setPeer k p).commonFormat = (s.setPeer k q).commonFormat := by
  refine State.commonFormat_congr rfl fun j _ => ?_
  by_cases hj : j = k
  · subst hj
    rw [State.peer_setPeer_same s p hk, State.peer_setPeer_same s q hk]
    exact ⟨hstate, hcap⟩
  · rw [State.peer_setPeer_ne s p hj, State.peer_setPeer_ne s q hj]
    exact ⟨rfl, Iff.rfl⟩

/-- The format that a second writing of one record leads to is as if the first had not been. -/
theorem State.commonFormat_setPeer_writePeer (s : State) (k : Nat) (p q : Peer) (f : UsageFormat)
    (l : List EventRecord) : ((s.writePeer k p f l).setPeer k q).commonFormat = (s.setPeer k q).commonFormat := by
  have h := congrArg State.commonFormat (s.writePeer_writePeer k p q f f l [])
  exact h

/-! ### Lapse (R64) -/

/-- A LIVE peer lapses: its record's state and claim, the common format, and PEER STATE. -/
theorem State.lapse_eq {s : State} {k : Nat} (hlive : (s.peer k).state = .live) :
    let p := { s.peer k with state := .lapsed, claim := none }
    s.lapse k = s.writePeer k p (s.setPeer k p).commonFormat [.peerState k .live .lapsed] := by
  rw [← hlive]
  rfl

/-- A peer just made LIVE lapses again at once when its age asks it to (R61); either way the record, the records
raised and the common format are given in one form. -/
theorem State.lapse_after_writePeer (s : State) {k : Nat} (hk : k < 16) {p : Peer} (hlive : p.state = .live)
    (l : List EventRecord) (b : Bus) (c : Bool) :
    let t : State := { s.writePeer k p (s.setPeer k p).commonFormat l with bus := b }
    let q := { p with state := if c then .lapsed else .live, claim := if c then none else p.claim }
    (if c then t.lapse k else t) =
      { s.writePeer k q (s.setPeer k q).commonFormat (l ++ if c then [.peerState k .live .lapsed] else [])
        with bus := b } := by
  intro t q
  have hpeer : t.peer k = p := State.peer_writePeer_same s p _ l hk
  split
  case isFalse h =>
    have hq : q = p := by simp [q, h, ← hlive]
    rw [hq, List.append_nil]
  case isTrue h =>
    have hq : q = { p with state := .lapsed, claim := none } := by simp [q, h]
    have hformat : (t.setPeer k q).commonFormat = (s.setPeer k q).commonFormat :=
      State.commonFormat_setPeer_writePeer s k p q _ l
    rw [State.lapse_eq (hpeer ▸ hlive), hpeer, ← hq, hformat, ← State.writePeer_writePeer s k p q]
    rfl

/-! ### The clock skew test (R66) -/

/-- The skew flag of a sender's record after the test of the minute it sent. -/
def State.skewAfter (s : State) (k minute : Nat) : Bool :=
  if s.config.skewTolerance = 0 then (s.peer k).skew
  else decide (s.config.skewTolerance < absDiff minute s.clock.minute)

/-- CLOCK SKEW, where the test newly sets the flag. -/
def State.skewRecords (s : State) (k minute : Nat) : List EventRecord :=
  if s.config.skewTolerance ≠ 0 ∧ decide (s.config.skewTolerance < absDiff minute s.clock.minute) = true ∧
      (s.peer k).skew = false then [.clockSkew k minute s.clock.minute]
  else []

/-- The test writes the sender's skew flag, and CLOCK SKEW is raised where it is newly set. -/
theorem State.testSkew_eq (s : State) (k minute : Nat) :
    s.testSkew k minute =
      s.writePeer k { s.peer k with skew := s.skewAfter k minute } s.peers.format (s.skewRecords k minute) := by
  unfold State.testSkew
  dsimp only
  split
  case isTrue hoff =>
    have hskew : s.skewAfter k minute = (s.peer k).skew := by simp [State.skewAfter, hoff]
    have hrecords : s.skewRecords k minute = [] := by simp [State.skewRecords, hoff]
    rw [hskew, hrecords, State.writePeer_self]
  case isFalse hon =>
    have hskew : s.skewAfter k minute = decide (s.config.skewTolerance < absDiff minute s.clock.minute) :=
      if_neg hon
    split
    case isFalse hnear =>
      have hrecords : s.skewRecords k minute = [] := by simp [State.skewRecords, hnear]
      rw [hskew, hrecords, decide_eq_false hnear]
      rfl
    case isTrue hfar =>
      rw [hskew, decide_eq_true hfar]
      split
      case isTrue hset =>
        have hrecords : s.skewRecords k minute = [] := by simp [State.skewRecords, hset]
        rw [hrecords, ← hset, State.writePeer_self]
      case isFalse hclear =>
        have hrecords : s.skewRecords k minute = [.clockSkew k minute s.clock.minute] := by
          simp [State.skewRecords, hon, hfar, hclear]
        rw [hrecords]
        rfl

/-- The test after a writing of the record that has left its skew flag as it was. -/
theorem State.testSkew_writePeer (s : State) {k : Nat} (hk : k < 16) {p : Peer} (hskew : p.skew = (s.peer k).skew)
    (f : UsageFormat) (minute : Nat) :
    (s.writePeer k p f []).testSkew k minute =
      s.writePeer k { p with skew := s.skewAfter k minute } f (s.skewRecords k minute) := by
  have hpeer : (s.writePeer k p f []).peer k = p := State.peer_writePeer_same s p f [] hk
  rw [State.testSkew_eq, State.writePeer_writePeer, List.nil_append]
  simp only [State.skewAfter, State.skewRecords, hpeer, hskew]
  rfl

/-! ### A PRESENCE (R62) -/

/-- The record of a sender after its PRESENCE. -/
def State.presented (s : State) (k : Nat) (extended : Bool) (minute : Nat) (claim : Option Claim) : Peer :=
  { s.peer k with
    capability := some (carriedCapability extended)
    claim := claim
    skew := s.skewAfter k minute }

/-- A PRESENCE writes the sender's record, and the common format only where the capability set changed. -/
theorem State.applyPresence_eq (s : State) {k : Nat} (hk : k < 16) (extended : Bool) (minute : Nat)
    (claim : Option Claim) :
    let p := s.presented k extended minute claim
    s.applyPresence k extended minute claim = s.writePeer k p
      (if (s.peer k).capability.getD .base = carriedCapability extended then s.peers.format
        else (s.setPeer k p).commonFormat)
      (s.skewRecords k minute) := by
  intro p
  have hformat : (s.setPeer k { p with skew := (s.peer k).skew }).commonFormat = (s.setPeer k p).commonFormat :=
    State.commonFormat_setPeer_congr s hk rfl Iff.rfl
  rw [← hformat]
  unfold State.applyPresence
  dsimp only
  split <;> exact State.testSkew_writePeer s hk (p := { p with skew := (s.peer k).skew }) rfl _ minute

/-- Where the common format was current, a PRESENCE leaves it current: the format it does not recompute has not
changed. -/
theorem State.applyPresence_of_current {s : State} {k : Nat} (hk : k < 16) (hformat : s.peers.format = s.commonFormat)
    (extended : Bool) (minute : Nat) (claim : Option Claim) :
    let p := s.presented k extended minute claim
    s.applyPresence k extended minute claim =
      s.writePeer k p (s.setPeer k p).commonFormat (s.skewRecords k minute) := by
  intro p
  rw [State.applyPresence_eq s hk]
  split
  case isFalse => rfl
  case isTrue h =>
    have hsame : (s.setPeer k p).commonFormat = s.commonFormat := by
      refine (State.commonFormat_setPeer_congr s hk (p := p) (q := s.peer k) rfl ?_).trans ?_
      · cases hcap : (s.peer k).capability <;> rw [hcap] at h <;> simp [p, State.presented, ← h]
      · rw [State.setPeer, State.peer, Peers.setPeer_self]
    rw [hformat, hsame]

/-! ### Delivery (R56, R61) -/

/-- The age that a peer becomes LIVE with (R61). -/
def State.revivalAge (s : State) (k : Nat) : Nat :=
  if (s.peer k).state = .absent then s.bus.latestAge k else (s.peer k).age.getD 0

theorem exec_frameDelivery {s : State} {x : ReceivedFrame} {rest : List ReceivedFrame} (hfifo : s.bus.fifo = x :: rest)
    (hdelivery : s.bus.delivery = none) : exec .frameDelivery s = .next (s.deliver x.frame) := by
  show execFrameDelivery s = _
  simp only [execFrameDelivery, hfifo, hdelivery]

theorem State.deliver_evicting {s : State} {f : Frame} (h : (s.peer f.sender).state = .evicting) :
    s.deliver f = s.endDelivery := by
  simp only [State.deliver, h]

theorem State.deliver_live {s : State} {f : Frame} (h : (s.peer f.sender).state = .live) :
    s.deliver f = s.applyFrame f := by
  simp only [State.deliver, h]

/-- The record of a peer just made LIVE (R61). -/
def Peer.revived (p : Peer) (age : Nat) : Peer := { p with state := .live, age := some age }

theorem State.makeLive_eq (s : State) (k age : Nat) :
    let p := (s.peer k).revived age
    s.makeLive k age = s.writePeer k p (s.setPeer k p).commonFormat [.peerState k (s.peer k).state .live] := rfl

/-- A PRESENCE that follows its sender's revival: the record, the format and the records of both. -/
theorem State.applyPresence_makeLive (s : State) {k : Nat} (hk : k < 16) (age : Nat) (extended : Bool)
    (minute : Nat) (claim : Option Claim) :
    let p := (s.presented k extended minute claim).revived age
    (s.makeLive k age).applyPresence k extended minute claim =
      s.writePeer k p (s.setPeer k p).commonFormat
        (.peerState k (s.peer k).state .live :: s.skewRecords k minute) := by
  intro p
  have hpeer : (s.makeLive k age).peer k = (s.peer k).revived age := State.peer_setPeer_same s _ hk
  have hpresented : (s.makeLive k age).presented k extended minute claim = p := by
    simp only [State.presented, State.skewAfter, hpeer]
    rfl
  have hrecords : (s.makeLive k age).skewRecords k minute = s.skewRecords k minute := by
    simp only [State.skewRecords, hpeer]
    rfl
  have hformat : ((s.makeLive k age).setPeer k p).commonFormat = (s.setPeer k p).commonFormat :=
    State.commonFormat_setPeer_writePeer s k ((s.peer k).revived age) p _
      [.peerState k (s.peer k).state .live]
  rw [State.applyPresence_of_current hk rfl, hpresented, hrecords, hformat, State.makeLive_eq,
    State.writePeer_writePeer]
  rfl

/-- A USAGE frame that follows its sender's revival: its entries' delivery begins. -/
theorem State.applyFrame_usage_makeLive (s : State) (sender age : Nat) (format : UsageFormat)
    (entries : List UsageEntry) :
    let p := (s.peer sender).revived age
    (s.makeLive sender age).applyFrame (.usage sender format entries) =
      { s.writePeer sender p (s.setPeer sender p).commonFormat [.peerState sender (s.peer sender).state .live]
        with bus := { s.bus with delivery := some entries } } := rfl

/-- A PRESENCE that follows its sender's revival: it is applied whole, and its delivery ends. -/
theorem State.applyFrame_presence_makeLive (s : State) {sender : Nat} (hk : sender < 16) (age : Nat)
    (extended : Bool) (minute : Nat) (claim : Option Claim) :
    let p := (s.presented sender extended minute claim).revived age
    (s.makeLive sender age).applyFrame (.presence sender extended minute claim) =
      { s.writePeer sender p (s.setPeer sender p).commonFormat
          (.peerState sender (s.peer sender).state .live :: s.skewRecords sender minute)
        with bus := { s.bus with fifo := s.bus.fifo.drop 1, delivery := none } } :=
  congrArg State.endDelivery (State.applyPresence_makeLive s hk age extended minute claim)

/-- The delivery that revives an ABSENT or LAPSED sender: the frame is applied to the LIVE record, and the lapse
time then decides whether the record stays LIVE. -/
theorem State.deliver_revives {s : State} {f : Frame} (hk : f.sender < 16)
    (hstate : (s.peer f.sender).state = .absent ∨ (s.peer f.sender).state = .lapsed) {p : Peer}
    (hlive : p.state = .live) {l : List EventRecord} {b : Bus}
    (happlied : (s.makeLive f.sender (s.revivalAge f.sender)).applyFrame f =
      { s.writePeer f.sender p (s.setPeer f.sender p).commonFormat l with bus := b }) :
    let lapses := decide (s.config.lapseTime ≤ s.revivalAge f.sender)
    let q := { p with state := if lapses then .lapsed else .live, claim := if lapses then none else p.claim }
    s.deliver f =
      { s.writePeer f.sender q (s.setPeer f.sender q).commonFormat
          (l ++ if lapses then [.peerState f.sender .live .lapsed] else [])
        with bus := b } := by
  intro lapses q
  rw [← State.lapse_after_writePeer s hk hlive l b lapses, ← happlied]
  rcases hstate with h | h <;> simp [State.deliver, State.revivalAge, h, lapses]

end Sys2Proof.Machine
end

section
/-! PROOFS. The statements about peers and station states: the timers of chapter 4, and frame delivery. -/

namespace Sys2Proof.Machine

/-- Settles O12: a timer that has reached its limit takes its step, and each step is its own next state. -/
theorem peerAndStationTimers : Obligations.PeerAndStationTimers := by
  refine ⟨?lapse, ?isolation, ?learningTime, ?presence⟩
  case lapse =>
    intro s k age hlive hage hdue
    have hexec : exec (.peerLapse k) s = .next (s.lapse k) := by
      show execPeerLapse k s = _
      simp only [execPeerLapse, hlive, hage, hdue, if_true]
    rw [hexec, State.lapse_eq hlive]
    exact ⟨_, rfl, rfl, rfl, State.peers_port_frame s _ _⟩
  case isolation =>
    intro s hjoined hcount hdue
    refine ⟨s.enterStation .isolated, ?_, rfl, ?_, State.peers_port_frame s _ _⟩
    · show execIsolation s = _
      simp only [execIsolation, hjoined, hcount, hdue, true_and, if_true]
    · rw [← hjoined]; rfl
  case learningTime =>
    intro s hlearning hdue
    refine ⟨s.join, ?_, rfl, ?_, State.peers_port_frame s _ _⟩
    · show execLearningTimeReached s = _
      simp only [execLearningTimeReached, hlearning, hdue, true_and, if_true]
    · rw [← hlearning]; rfl
  case presence =>
    intro s hrunning hdue
    refine ⟨{ s with peers := { s.peers with presenceCount := 0, presenceDue := true } }, ?_, rfl,
      State.peers_frame s _⟩
    show execPresenceDue s = _
    simp only [execPresenceDue, hrunning, hdue, true_and, if_true]

/-- Settles O23: the sender's state selects the delivery, and each delivery is one writing of the sender's record. -/
theorem frameDeliveryActsOnTheSender : Obligations.FrameDeliveryActsOnTheSender := by
  refine ⟨fun s => ⟨fun hext hall => (State.commonFormat_extended_iff s).2 ⟨hext, hall⟩,
    State.commonFormat_base_of_config, fun _ => State.commonFormat_base_of_peer⟩, ?_⟩
  rintro s ⟨frame, arrived⟩ rest hfifo hdelivery
  have hend : { s.bus with fifo := s.bus.fifo.drop 1, delivery := none } = { s.bus with fifo := rest } := by
    rw [hfifo, ← hdelivery]; rfl
  dsimp only
  rw [exec_frameDelivery hfifo hdelivery]
  refine ⟨?evicting, ?liveUsage, ?livePresence, fun hk hstate => ⟨?revivedUsage, ?revivedPresence⟩⟩
  case evicting =>
    intro hevicting
    rw [State.deliver_evicting hevicting]
    exact ⟨_, rfl, hend, State.bus_frame s _⟩
  case liveUsage =>
    rintro sender format entries rfl hlive
    rw [State.deliver_live hlive]
    exact ⟨_, rfl, rfl, State.bus_frame s _⟩
  case livePresence =>
    rintro sender extended minute claim rfl hlive
    have hk : sender < 16 := State.peer_lt s (hlive ▸ by decide)
    rw [State.deliver_live hlive, State.applyFrame, State.applyPresence_eq s hk]
    refine ⟨_, rfl, hend, State.peer_setPeer_same s _ hk, fun _ => State.peer_setPeer_ne s _, ?format, ?port, rfl,
      State.bus_peers_port_frame s _ _ _⟩
    case format =>
      split
      case isTrue hsame => exact .inr ⟨hsame, rfl⟩
      case isFalse => exact .inl rfl
    case port =>
      show s.port.raises (s.skewRecords sender minute) = _
      exact apply_ite s.port.raises _ _ _
  case revivedUsage =>
    rintro sender format entries rfl
    rw [State.deliver_revives hk hstate rfl (State.applyFrame_usage_makeLive s sender _ format entries)]
    exact ⟨_, rfl, rfl, State.peer_setPeer_same s _ hk, fun _ => State.peer_setPeer_ne s _, rfl, rfl, rfl,
      State.bus_peers_port_frame s _ _ _⟩
  case revivedPresence =>
    rintro sender extended minute claim rfl
    rw [State.deliver_revives hk hstate rfl (State.applyFrame_presence_makeLive s hk _ extended minute claim)]
    exact ⟨_, rfl, hend, State.peer_setPeer_same s _ hk, fun _ => State.peer_setPeer_ne s _, rfl, rfl, rfl,
      State.bus_peers_port_frame s _ _ _⟩

end Sys2Proof.Machine
end

section
/-! PROOFS. The rules of the notice queue and of the refresh sweep, and the statements about them: queueing a
principal by where it stands, and one step of the sweep. -/

namespace Sys2Proof.Machine

/-! ### Queueing by where the principal stands (R82) -/

section Queueing

variable {n : Notice} {id : Nat}

theorem Notice.queued_iff : n.queued id = true ↔ id ∈ n.urgent ∨ id ∈ n.normal := by
  simp [Notice.queued]

theorem Notice.queueNormal_of_queued (h : id ∈ n.urgent ∨ id ∈ n.normal) : n.queueNormal id = n :=
  if_pos (Notice.queued_iff.2 h)

theorem Notice.queueNormal_of_absent (hu : id ∉ n.urgent) (hn : id ∉ n.normal) :
    n.queueNormal id = { n with normal := n.normal ++ [id] } :=
  if_neg fun h => (Notice.queued_iff.1 h).elim hu hn

theorem Notice.queueUrgent_of_urgent (h : id ∈ n.urgent) : n.queueUrgent id = n :=
  if_pos (List.contains_iff_mem.2 h)

theorem Notice.queueUrgent_of_not_urgent (h : id ∉ n.urgent) :
    n.queueUrgent id = { n with normal := n.normal.filter (· ≠ id), urgent := n.urgent ++ [id] } :=
  if_neg fun hc => h (List.contains_iff_mem.1 hc)

/-- A principal without a place in NORMAL has none to leave there. -/
theorem Notice.queueUrgent_of_absent (hu : id ∉ n.urgent) (hn : id ∉ n.normal) :
    n.queueUrgent id = { n with urgent := n.urgent ++ [id] } := by
  have hkept : n.normal.filter (· ≠ id) = n.normal :=
    List.filter_eq_self.2 fun x hx => decide_eq_true (ne_of_mem_of_not_mem hx hn)
  rw [Notice.queueUrgent_of_not_urgent hu, hkept]

end Queueing

/-- Settles O13: each place that a principal can stand at decides both tests of the notice unit. -/
theorem queueingByWhereAPrincipalStands : Obligations.QueueingByWhereAPrincipalStands := fun _ _ =>
  ⟨fun hu hn => ⟨Notice.queueNormal_of_absent hu hn, Notice.queueUrgent_of_absent hu hn⟩,
    fun hu hn => ⟨Notice.queueNormal_of_queued (.inr hn), Notice.queueUrgent_of_not_urgent hu⟩,
    fun hu => ⟨Notice.queueNormal_of_queued (.inl hu), Notice.queueUrgent_of_urgent hu⟩⟩

/-! ### The refresh sweep (R93, R94) -/

theorem State.sweepQueue_of_empty {s : State} (h : s.quota.atSlot s.notice.refreshPointer = none) :
    s.sweepQueue = s := by
  simp only [State.sweepQueue, h]

theorem State.sweepQueue_of_held {s : State} {p : Principal}
    (h : s.quota.atSlot s.notice.refreshPointer = some p) :
    s.sweepQueue = if 0 < p.lc ∨ 0 < p.la then s.queueNormal p.id else s := by
  simp only [State.sweepQueue, h]

theorem State.notice_frame (s : State) (notice : Notice) : Unchanged [.notice] s { s with notice := notice } := by
  intro b hb
  cases b with
  | notice => exact absurd (List.mem_singleton.2 rfl) hb
  | _ => rfl

/-- The examination of a slot queues at most one principal. -/
theorem State.sweepQueue_outcome (s : State) : s.sweepQueue = s ∨ ∃ id, s.sweepQueue = s.queueNormal id := by
  cases h : s.quota.atSlot s.notice.refreshPointer with
  | none => exact .inl (State.sweepQueue_of_empty h)
  | some p =>
    rw [State.sweepQueue_of_held h]
    split
    case isTrue => exact .inr ⟨p.id, rfl⟩
    case isFalse => exact .inl rfl

theorem State.sweepQueue_eq (s : State) : s.sweepQueue = { s with notice := s.sweepQueue.notice } := by
  obtain h | ⟨id, h⟩ := s.sweepQueue_outcome <;> simp only [h, State.queueNormal]

@[simp] theorem Notice.queueNormal_refreshPointer (n : Notice) (id : Nat) :
    (n.queueNormal id).refreshPointer = n.refreshPointer := by
  unfold Notice.queueNormal; split <;> rfl

@[simp] theorem Notice.queueNormal_sweepCredit (n : Notice) (id : Nat) :
    (n.queueNormal id).sweepCredit = n.sweepCredit := by
  unfold Notice.queueNormal; split <;> rfl

theorem State.sweepQueue_refreshPointer (s : State) :
    s.sweepQueue.notice.refreshPointer = s.notice.refreshPointer := by
  obtain h | ⟨id, h⟩ := s.sweepQueue_outcome <;> simp [h]

theorem State.sweepQueue_sweepCredit (s : State) : s.sweepQueue.notice.sweepCredit = s.notice.sweepCredit := by
  obtain h | ⟨id, h⟩ := s.sweepQueue_outcome <;> simp [h]

/-- Within the table the pointer turns back at slot 65,535 alone. -/
theorem Notice.swept_eq {n : Notice} (h : n.refreshPointer ≤ 65535) :
    n.swept = { n with
      refreshPointer := if n.refreshPointer = 65535 then 0 else n.refreshPointer + 1
      sweepCredit := n.sweepCredit - 1000 } := by
  have hlast : 65535 ≤ n.refreshPointer ↔ n.refreshPointer = 65535 := by omega
  simp only [Notice.swept, hlast]

theorem exec_refreshSweepStep {s : State} (hrun : s.peers.station.running = true)
    (hcredit : 1000 ≤ s.notice.sweepCredit) :
    exec .refreshSweepStep s = .next { s with notice := s.sweepQueue.notice.swept } := by
  show execRefreshSweepStep s = _
  rw [execRefreshSweepStep, if_pos ⟨hrun, hcredit⟩, State.sweepQueue_eq]

/-- Settles O14: the examination decides the queue alone, so the pointer and the credit move on from those before
the step. -/
theorem refreshSweepStepExaminesOneSlot : Obligations.RefreshSweepStepExaminesOneSlot := by
  intro s hrun hcredit hpointer
  refine ⟨_, exec_refreshSweepStep hrun hcredit, ?_, State.notice_frame s _⟩
  have hswept : s.sweepQueue.notice.swept = { s.sweepQueue.notice with
      refreshPointer := if s.notice.refreshPointer = 65535 then 0 else s.notice.refreshPointer + 1
      sweepCredit := s.notice.sweepCredit - 1000 } := by
    rw [Notice.swept_eq (s.sweepQueue_refreshPointer ▸ hpointer), s.sweepQueue_refreshPointer,
      s.sweepQueue_sweepCredit]
  refine hswept.trans ?_
  cases h : s.quota.atSlot s.notice.refreshPointer with
  | none => rw [State.sweepQueue_of_empty h]
  | some p =>
    rw [State.sweepQueue_of_held h]
    dsimp only
    split <;> rfl

end Sys2Proof.Machine
end

section
/-! PROOFS. The rules of the volume records and the snapshot lists, and the statements about them: what a request
row that refuses or writes one volume amounts to, and the outcomes of VOLUME DECLARE, SNAP CREATE and SNAP RETIRE. -/

namespace Sys2Proof.Machine

/-! ### Request rows that refuse, or write one volume (R163, R177) -/

section Rows

variable {i : Instr} {s : State} {a : Nat} {q : Request} {r : Reply} {code : ResultCode}

theorem refuses_of_reply (hs : s.serves a q) (hexec : exec i s = .next r.answered) (hr : r = s.refuse code) :
    Refuses i s a code := by
  unfold Refuses
  rw [hexec, hr, State.refuse_answered hs]

theorem State.setVolume_frame (s : State) (v : Nat) (x : Volume) : Unchanged [.volumes] s (s.setVolume v x) := by
  intro b hb
  cases b with
  | volumes => exact absurd (List.mem_singleton.2 rfl) hb
  | _ => rfl

/-- A reply that writes the record of one of the sixteen volumes writes no other and, the answer apart, nothing
else. -/
theorem writes_volume_of_reply (hs : s.serves a q) (hexec : exec i s = .next r.answered) {v : Nat} (hv : v ≤ 15)
    {x : Volume} {values : List Field} (hr : r = ⟨s.setVolume v x, code, values⟩) :
    ∃ t, exec i s = .next t ∧ t.volume v = x ∧ (∀ w, w ≠ v → t.volume w = s.volume w) ∧
      Answers s t a code values [] ∧ Unchanged [.volumes, .port] s t := by
  have hport : r.state.port = s.port := by rw [hr]; rfl
  refine ⟨_, hexec, ?_⟩
  rw [Reply.answered_of_port hs hport, hr]
  exact ⟨State.volume_setVolume_same s x (Nat.lt_succ_of_le hv), fun _ => State.volume_setVolume_ne s x, rfl,
    (State.setVolume_frame s v x).setPort _⟩

end Rows

theorem exec_volumeDeclare {s : State} {a v enable : Nat} (h : s.serves a (.volumeDeclare v enable)) :
    exec (.volumeDeclare v enable) s = .next (s.declareVolume v enable).answered :=
  State.serve_takes h fun s => s.declareVolume v enable

theorem exec_snapCreate {s : State} {a v g : Nat} (h : s.serves a (.snapCreate v g)) :
    exec (.snapCreate v g) s = .next (s.createSnapshot v g).answered :=
  State.serve_takes h fun s => s.createSnapshot v g

theorem exec_snapRetire {s : State} {a v g : Nat} (h : s.serves a (.snapRetire v g)) :
    exec (.snapRetire v g) s = .next (s.retireSnapshot v g).answered :=
  State.serve_takes h fun s => s.retireSnapshot v g

/-! ### VOLUME DECLARE (R97) -/

section Declare

variable {s : State} {v enable : Nat}

theorem State.declareVolume_badRequest (h : 15 < v ∨ 1 < enable) :
    s.declareVolume v enable = s.refuse .badRequest :=
  if_pos h

theorem State.declareVolume_exists (hv : v ≤ 15) (he : enable ≤ 1) (hd : (s.volume v).declared = true) :
    s.declareVolume v enable = s.refuse .exists_ := by
  have hrange : ¬ (15 < v ∨ 1 < enable) := by omega
  rw [State.declareVolume, if_neg hrange, if_pos hd]

theorem State.declareVolume_declares (hv : v ≤ 15) (he : enable ≤ 1) (hd : (s.volume v).declared = false) :
    s.declareVolume v enable =
      ⟨s.setVolume v { s.volume v with declared := true, offsite := enable = 1 }, .done, []⟩ := by
  have hrange : ¬ (15 < v ∨ 1 < enable) := by omega
  rw [State.declareVolume, if_neg hrange, if_neg (Bool.eq_false_iff.1 hd)]

end Declare

/-! ### SNAP CREATE (R100) -/

section Create

variable {s : State} {v g : Nat}

theorem State.createSnapshot_badRequest (h : 15 < v) : s.createSnapshot v g = s.refuse .badRequest :=
  if_pos h

theorem State.createSnapshot_notDeclared (hv : v ≤ 15) (hd : (s.volume v).declared = false) :
    s.createSnapshot v g = s.refuse .notDeclared := by
  simp [State.createSnapshot, Nat.not_lt.2 hv, hd]

/-- The order of the list: a generation joins it only above the newest (R99). -/
theorem Volume.newest_any_eq_false {x : Volume} (h : ∀ newest ∈ x.newest, newest < g) :
    (x.newest.any fun newest => g ≤ newest) = false :=
  (Option.any_eq_false _ _).2 fun newest hn => decide_eq_false (Nat.not_le.2 (h newest hn))

variable (hv : v ≤ 15) (hd : (s.volume v).declared = true)
include hv hd

theorem State.createSnapshot_outOfOrder (h : ∃ newest ∈ (s.volume v).newest, g ≤ newest) :
    s.createSnapshot v g = s.refuse .outOfOrder := by
  have hany : ((s.volume v).newest.any fun newest => g ≤ newest) = true := by
    simpa [Option.any_eq_true] using h
  simp [State.createSnapshot, Nat.not_lt.2 hv, hd, hany]

theorem State.createSnapshot_catalogueFull (h : ∀ newest ∈ (s.volume v).newest, newest < g)
    (hfull : 64 ≤ (s.volume v).snapshots.length) : s.createSnapshot v g = s.refuse .catalogueFull := by
  simp [State.createSnapshot, Nat.not_lt.2 hv, hd, Volume.newest_any_eq_false h, hfull]

theorem State.createSnapshot_appends (h : ∀ newest ∈ (s.volume v).newest, newest < g)
    (hroom : (s.volume v).snapshots.length < 64) :
    s.createSnapshot v g =
      ⟨s.setVolume v { s.volume v with
          snapshots := (s.volume v).snapshots ++ [{ generation := g, created := s.clock.minute }] },
        .done, [u8 ((s.volume v).snapshots.length + 1)]⟩ := by
  simp [State.createSnapshot, Nat.not_lt.2 hv, hd, Volume.newest_any_eq_false h, Nat.not_le.2 hroom]

end Create

/-! ### SNAP RETIRE (R105) -/

section Retire

variable {s : State} {v g : Nat}

theorem State.retireSnapshot_badRequest (h : 15 < v) : s.retireSnapshot v g = s.refuse .badRequest :=
  if_pos h

theorem State.retireSnapshot_notDeclared (hv : v ≤ 15) (hd : (s.volume v).declared = false) :
    s.retireSnapshot v g = s.refuse .notDeclared := by
  simp [State.retireSnapshot, Nat.not_lt.2 hv, hd]

theorem State.retireSnapshot_notFound (hv : v ≤ 15) (hd : (s.volume v).declared = true)
    (h : (s.volume v).snapshot g = none) : s.retireSnapshot v g = s.refuse .notFound := by
  simp [State.retireSnapshot, Nat.not_lt.2 hv, hd, h]

variable {r : Snapshot} (hv : v ≤ 15) (hd : (s.volume v).declared = true)
  (hr : (s.volume v).snapshot g = some r)
include hv hd hr

/-- The checks and the outcomes of SNAP RETIRE that look at the record. -/
theorem State.retireSnapshot_of_listed :
    s.retireSnapshot v g =
      if (s.volume v).base = some g then s.refuse .isBase
      else if r.status = .sending then s.refuse .sending
      else if r.retirePending then s.refuse .pending
      else if 0 < r.holds then
        ⟨s.setVolume v ((s.volume v).update g fun y => { y with retirePending := true }), .pending, []⟩
      else ⟨s.setVolume v ((s.volume v).remove g), .done, []⟩ := by
  simp [State.retireSnapshot, Nat.not_lt.2 hv, hd, hr, Volume.hasBaseRole]

theorem State.retireSnapshot_isBase (hbase : (s.volume v).base = some g) :
    s.retireSnapshot v g = s.refuse .isBase := by
  rw [State.retireSnapshot_of_listed hv hd hr, if_pos hbase]

variable (hbase : (s.volume v).base ≠ some g)
include hbase

theorem State.retireSnapshot_sending (hstatus : r.status = .sending) :
    s.retireSnapshot v g = s.refuse .sending := by
  rw [State.retireSnapshot_of_listed hv hd hr, if_neg hbase, if_pos hstatus]

variable (hstatus : r.status ≠ .sending)
include hstatus

theorem State.retireSnapshot_pending (hpending : r.retirePending = true) :
    s.retireSnapshot v g = s.refuse .pending := by
  rw [State.retireSnapshot_of_listed hv hd hr, if_neg hbase, if_neg hstatus, if_pos hpending]

variable (hnew : r.retirePending = false)
include hnew

theorem State.retireSnapshot_marks (hheld : 0 < r.holds) :
    s.retireSnapshot v g =
      ⟨s.setVolume v ((s.volume v).update g fun y => { y with retirePending := true }), .pending, []⟩ := by
  rw [State.retireSnapshot_of_listed hv hd hr, if_neg hbase, if_neg hstatus, if_neg (Bool.eq_false_iff.1 hnew),
    if_pos hheld]

theorem State.retireSnapshot_removes (hfree : r.holds = 0) :
    s.retireSnapshot v g = ⟨s.setVolume v ((s.volume v).remove g), .done, []⟩ := by
  rw [State.retireSnapshot_of_listed hv hd hr, if_neg hbase, if_neg hstatus, if_neg (Bool.eq_false_iff.1 hnew),
    if_neg (Nat.not_lt.2 (Nat.le_of_eq hfree))]

end Retire

/-- Settles O36, request by request: the checks in their order, and then the volume that the request writes. -/
theorem volumeAndSnapshotRequests : Obligations.VolumeAndSnapshotRequests := by
  intro s a v writes x
  refine ⟨fun enable hs => ?declare, fun g hs => ?create, fun g hs => ?retire⟩
  case declare =>
    have hexec := exec_volumeDeclare hs
    exact ⟨fun h => refuses_of_reply hs hexec (State.declareVolume_badRequest h),
      fun hv he hd => refuses_of_reply hs hexec (State.declareVolume_exists hv he hd),
      fun hv he hd => writes_volume_of_reply hs hexec hv (State.declareVolume_declares hv he hd)⟩
  case create =>
    have hexec := exec_snapCreate hs
    refine ⟨fun h => refuses_of_reply hs hexec (State.createSnapshot_badRequest h),
      fun hv hd => refuses_of_reply hs hexec (State.createSnapshot_notDeclared hv hd), fun hv hd => ?ordered⟩
    exact ⟨fun h => refuses_of_reply hs hexec (State.createSnapshot_outOfOrder hv hd h), fun h =>
      ⟨fun hfull => refuses_of_reply hs hexec (State.createSnapshot_catalogueFull hv hd h hfull),
        fun hroom => writes_volume_of_reply hs hexec hv (State.createSnapshot_appends hv hd h hroom)⟩⟩
  case retire =>
    have hexec := exec_snapRetire hs
    refine ⟨fun h => refuses_of_reply hs hexec (State.retireSnapshot_badRequest h),
      fun hv hd => refuses_of_reply hs hexec (State.retireSnapshot_notDeclared hv hd), fun hv hd => ?found⟩
    refine ⟨fun h => refuses_of_reply hs hexec (State.retireSnapshot_notFound hv hd h), fun r hr => ?listed⟩
    refine ⟨fun hbase => refuses_of_reply hs hexec (State.retireSnapshot_isBase hv hd hr hbase),
      fun hbase => ⟨fun h => refuses_of_reply hs hexec (State.retireSnapshot_sending hv hd hr hbase h),
        fun hstatus => ⟨fun h => ?pending, fun hnew hheld => ?marks, fun hnew hfree => ?removes⟩⟩⟩
    case pending => exact refuses_of_reply hs hexec (State.retireSnapshot_pending hv hd hr hbase hstatus h)
    case marks =>
      exact writes_volume_of_reply hs hexec hv (State.retireSnapshot_marks hv hd hr hbase hstatus hnew hheld)
    case removes =>
      exact writes_volume_of_reply hs hexec hv (State.retireSnapshot_removes hv hd hr hbase hstatus hnew hfree)

end Sys2Proof.Machine
end

section
/-! PROOFS. RESTORE START: the lowest free slot of the restore table, the checks in their order, and what a start
that passes them writes. -/

namespace Sys2Proof.Machine

/-! ### The lowest-numbered free slot (R114) -/

theorem State.freeJobSlot_of_full {s : State} (h : ∀ k < 8, (s.job k).isSome = true) : s.freeJobSlot = none :=
  List.find?_range_eq_none.2 fun k hk => by simp [h k hk]

theorem State.freeJobSlot_eq {s : State} {slot : Nat} (hslot : slot < 8) (hfree : s.job slot = none)
    (hbelow : ∀ k < slot, (s.job k).isSome = true) : s.freeJobSlot = some slot :=
  List.find?_range_eq_some.2 ⟨by simp [hfree], List.mem_range.2 hslot, fun k hk => by simp [hbelow k hk]⟩

/-! ### The update of one record (R1) -/

/-- An update that keeps the ids reads back as the updated record. -/
theorem Quota.find_update_eq_some {q : Quota} {id : Nat} {f : Principal → Principal} {p : Principal}
    (hp : q.find id = some p) (hid : ∀ p, (f p).id = p.id) : (q.update id f).find id = some (f p) := by
  have hkept (p : Principal) : (if p.id = id then f p else p).id = p.id := by split <;> simp [hid]
  have hfound : q.principals.find? (fun p => p.id == id) = some p := hp
  simp only [Quota.find, Quota.update, List.find?_map, Function.comp_def, hkept, hfound, Option.map_some,
    if_pos (Quota.find_id hp)]

/-! ### The checks and the effect (R113, R114) -/

section StartRestore

variable {s : State} {tag v g id : Nat}

theorem exec_restoreStart {a : Nat} (h : s.serves a (.restoreStart tag v g id)) :
    exec (.restoreStart tag v g id) s = .next (s.startRestore tag v g id).answered :=
  State.serve_takes h fun s => s.startRestore tag v g id

theorem State.startRestore_badRequest (h : id = 0 ∨ max32 < id ∨ 15 < v) :
    s.startRestore tag v g id = s.refuse .badRequest := by
  have hrange : validId id = false ∨ 15 < v := by rw [validId_eq_false_iff]; omega
  refine if_pos ?_
  rcases hrange with hid | hv
  · simp [hid]
  · simp [hv]

variable (hid : 1 ≤ id ∧ id ≤ max32) (hv : v ≤ 15)
include hid hv

theorem State.startRestore_busyJobs (h : ∀ k < 8, (s.job k).isSome = true) :
    s.startRestore tag v g id = s.refuse .busyJobs := by
  simp [State.startRestore, validId_iff.2 hid, Nat.not_lt.2 hv, State.freeJobSlot_of_full h]

variable {slot : Nat} (hslot : s.freeJobSlot = some slot)
include hslot

theorem State.startRestore_unknownPrincipal (h : s.principal id = none) :
    s.startRestore tag v g id = s.refuse .unknownPrincipal := by
  simp [State.startRestore, validId_iff.2 hid, Nat.not_lt.2 hv, hslot, h]

variable {p : Principal} (hp : s.principal id = some p)
include hp

/-- A snapshot can be held only where its volume is declared and lists it (R102). -/
theorem State.startRestore_notFound (h : (s.volume v).declared = false ∨ (s.volume v).snapshot g = none) :
    s.startRestore tag v g id = s.refuse .notFound := by
  have hlookup : (if (s.volume v).declared = true then (s.volume v).snapshot g else none) = none := by
    rcases h with h | h <;> simp [h]
  simp [State.startRestore, validId_iff.2 hid, Nat.not_lt.2 hv, hslot, hp, hlookup]

variable {r : Snapshot} (hd : (s.volume v).declared = true) (hr : (s.volume v).snapshot g = some r)
include hd hr

theorem State.startRestore_retiring (h : r.retirePending = true) :
    s.startRestore tag v g id = s.refuse .retiring := by
  simp [State.startRestore, validId_iff.2 hid, Nat.not_lt.2 hv, hslot, hp, hd, hr, h]

/-- A RESTORE START that passes the checks holds the snapshot, fills the slot and counts the principal's job. -/
theorem State.startRestore_starts (h : r.retirePending = false) :
    s.startRestore tag v g id =
      ⟨{ (s.setVolume v ((s.volume v).hold g)).setJob slot (some
            { tag := tag, volume := v, generation := g, principal := id }) with
          quota := s.quota.update id fun p => { p with restoreJobs := p.restoreJobs + 1 } },
        .done, [u8 slot]⟩ := by
  simp [State.startRestore, validId_iff.2 hid, Nat.not_lt.2 hv, hslot, hp, hd, hr, h]

end StartRestore

/-- Settles O37, by the checks in their order, and then by what each block of the started job's state reads. -/
theorem restoreStartTakesAHoldAndASlot : Obligations.RestoreStartTakesAHoldAndASlot := by
  intro s a tag v g id hs i x
  have hexec := exec_restoreStart hs
  refine ⟨fun h => refuses_of_reply hs hexec (State.startRestore_badRequest h), fun h1 h2 hv => ?_⟩
  have hid : 1 ≤ id ∧ id ≤ max32 := ⟨h1, h2⟩
  refine ⟨fun h => refuses_of_reply hs hexec (State.startRestore_busyJobs hid hv h), ?free⟩
  intro slot hlt hempty hbelow
  have hslot : s.freeJobSlot = some slot := State.freeJobSlot_eq hlt hempty hbelow
  refine ⟨fun h => refuses_of_reply hs hexec (State.startRestore_unknownPrincipal hid hv hslot h), fun p hp => ?_⟩
  refine ⟨fun h => refuses_of_reply hs hexec (State.startRestore_notFound hid hv hslot hp h), fun r hd hr => ?_⟩
  refine ⟨fun h => refuses_of_reply hs hexec (State.startRestore_retiring hid hv hslot hp hd hr h),
    fun hnew => ⟨_, hexec, ?starts⟩⟩
  rw [State.startRestore_starts hid hv hslot hp hd hr hnew, Reply.answered_of_port hs rfl]
  refine ⟨State.volume_setVolume_same s _ (Nat.lt_succ_of_le hv), fun _ => State.volume_setVolume_ne s _,
    State.job_setJob_same _ _ hlt, fun _ => State.job_setJob_ne (s.setVolume v _) _, ?principal,
    fun _ => Quota.find_update_ne s.quota id _ _ fun _ h => h, rfl, rfl, rfl, fun b hb => ?frame⟩
  case principal => exact Quota.find_update_eq_some hp fun _ => rfl
  case frame =>
    cases b with
    | volumes | jobs | quota | port => simp at hb
    | _ => rfl

end Sys2Proof.Machine
end

section
/-! PROOFS. A choice of the arbiter: which sides wait and which of them is chosen, the place that a choice takes,
what a chunk's charge leaves alone, the outcomes of both choices, and the permit id. -/

namespace Sys2Proof.Machine

/-! ### The sides that wait (R120, R149) -/

theorem State.restoreWaiting_iff (s : State) :
    s.restoreWaiting = true ↔ ∃ k < 8, (s.job k).any (·.waiting) = true := by
  simp only [State.restoreWaiting, List.any_eq_true, Vector.mem_toList_iff, Vector.mem_iff_getElem]
  constructor
  · rintro ⟨_, ⟨k, hk, rfl⟩, hwaits⟩
    exact ⟨k, hk, by simpa [State.job, hk] using hwaits⟩
  · rintro ⟨k, hk, hwaits⟩
    exact ⟨_, ⟨k, hk, rfl⟩, by simpa [State.job, hk] using hwaits⟩

theorem Job.waiting_iff {j : Job} :
    j.waiting = true ↔ j.state = .running ∧ j.permits < 4 ∧ j.deferred = false := by
  simp [Job.waiting, and_assoc]

/-- A ready duplication side has a volume to choose. -/
theorem State.exists_duplicable {s : State} (h : s.duplicationReady = true) :
    ∃ v < 16, (s.volume v).duplicable = true := by
  obtain ⟨_, hany⟩ := Bool.and_eq_true_iff.1 h
  obtain ⟨x, hx, hdup⟩ := List.any_eq_true.1 hany
  obtain ⟨v, hv, rfl⟩ := Vector.mem_iff_getElem.1 (Vector.mem_toList_iff.1 hx)
  exact ⟨v, hv, by simpa [State.volume, hv] using hdup⟩

theorem Volume.duplicable_iff {x : Volume} :
    x.duplicable = true ↔ ∃ n, x.night = some n ∧ n.state = .sending ∧ 0 < n.remaining := by
  cases h : x.night <;> simp [Volume.duplicable, h]

/-- Where a place meets the condition, the search after the pointer ends at the first such place (R121, R122). -/
theorem exists_firstAfter {n : Nat} (pointer : Nat) {p : Nat → Bool} (h : ∃ k < n, p k = true) :
    ∃ place, firstAfter n pointer p = some place ∧ FirstFrom n (pointer + 1) place fun k => p k = true := by
  obtain ⟨k, hk, hp⟩ := h
  cases hfound : firstAfter n pointer p with
  | none => simp [firstAfter_none hfound (Nat.zero_lt_of_lt hk) k hk] at hp
  | some place => exact ⟨place, rfl, firstAfter_some hfound⟩

/-! ### The permit id (R123) -/

theorem Arbiter.idFree_iff {a : Arbiter} {id : Nat} :
    a.idFree id = true ↔ (∀ p ∈ a.permits, p.id ≠ id) ∧ ∀ e ∈ a.expired, e.id ≠ id := by
  simp [Arbiter.idFree]

/-- With fewer than 256 ids taken, one of the 256 is free. -/
theorem Arbiter.exists_idFree {a : Arbiter} (h : a.permits.length + a.expired.length < 256) :
    ∃ id < 256, a.idFree id = true := by
  refine Classical.byContradiction fun hnone => ?_
  have htaken : List.range 256 ⊆ a.permits.map (·.id) ++ a.expired.map (·.id) := by
    refine fun id hid => Classical.byContradiction fun hfree => ?_
    refine hnone ⟨id, List.mem_range.1 hid, Arbiter.idFree_iff.2 ⟨fun p hp he => ?_, fun e he hid => ?_⟩⟩
    · exact hfree (List.mem_append_left _ (List.mem_map.2 ⟨p, hp, he⟩))
    · exact hfree (List.mem_append_right _ (List.mem_map.2 ⟨e, he, hid⟩))
  have hlength := List.nodup_range.length_le_of_subset htaken
  simp only [List.length_range, List.length_append, List.length_map] at hlength
  omega

/-- The search for a free id is that of a place after a pointer, one place before the next-id count. -/
theorem Arbiter.chooseId_eq_firstAfter (a : Arbiter) :
    a.chooseId = (firstAfter 256 (a.nextId + 255) a.idFree).getD a.nextId := by
  have hplace (k : Nat) : (a.nextId + 255 + 1 + k) % 256 = (a.nextId + k) % 256 := by omega
  simp only [Arbiter.chooseId, firstAfter, hplace]

theorem Arbiter.chooseId_firstFrom {a : Arbiter} (h : a.permits.length + a.expired.length < 256) :
    FirstFrom 256 a.nextId a.chooseId fun id => a.idFree id = true := by
  obtain ⟨id, hfound, k, hk, hid, hfree, hbefore⟩ := exists_firstAfter (a.nextId + 255) (Arbiter.exists_idFree h)
  have hplace (k : Nat) : (a.nextId + 255 + 1 + k) % 256 = (a.nextId + k) % 256 := by omega
  rw [Arbiter.chooseId_eq_firstAfter, hfound]
  exact ⟨k, hk, hid.trans (hplace k), hfree, fun i hi => hplace i ▸ hbefore i hi⟩

/-! ### A grant and the arbiter's side of the part (R26, R27) -/

section Grant

variable (s : State) (id n : Nat) (cause : QuotaCause)

@[simp] theorem State.grant_loader : (s.grant id n cause).loader = s.loader :=
  State.grant_frame s id n cause .loader (by simp)
@[simp] theorem State.grant_volumes : (s.grant id n cause).volumes = s.volumes :=
  State.grant_frame s id n cause .volumes (by simp)
@[simp] theorem State.grant_jobs : (s.grant id n cause).jobs = s.jobs :=
  State.grant_frame s id n cause .jobs (by simp)
@[simp] theorem State.grant_arbiter : (s.grant id n cause).arbiter = s.arbiter :=
  State.grant_frame s id n cause .arbiter (by simp)
@[simp] theorem State.grant_dup : (s.grant id n cause).dup = s.dup :=
  State.grant_frame s id n cause .dup (by simp)
@[simp] theorem State.grant_config : (s.grant id n cause).config = s.config :=
  congrArg Loader.config (s.grant_loader id n cause)

/-- A grant neither reads nor writes the arbiter. -/
theorem State.grant_withArbiter (a : Arbiter) :
    State.grant { s with arbiter := a } id n cause = { s.grant id n cause with arbiter := a } := by
  cases h : s.principal id with
  | none => rw [State.grant_none s n cause h]; exact State.grant_none _ n cause h
  | some p =>
    rw [State.grant_eq_rederive s n cause h, State.rederive_eq s cause _ h]
    refine (State.grant_eq_rederive { s with arbiter := a } n cause h).trans ?_
    rw [State.rederive_eq { s with arbiter := a } cause _ h]

end Grant

/-! ### The outcomes of a chunk's charge (R40, R41, R121) -/

section ChargeChunk

variable (s : State) (slot : Nat) (j : Job)

/-- The state of a granted chunk, with the PERMIT ISSUED record written out. -/
theorem State.grantChunk_eq (chunk : Nat) (hslot : slot < 8) :
    let g := s.grant j.principal chunk .restore
    s.grantChunk slot j chunk =
      { g.setJob slot (some
          { j with state := .running, charged := j.charged + chunk, permits := j.permits + 1 }) with
        arbiter := { s.arbiter with
          permits := s.arbiter.permits ++
            [{ id := s.arbiter.chooseId, owner := .job slot j.principal, chunk := s.config.chunk }]
          nextId := (s.arbiter.chooseId + 1) % 256 }
        port := g.port.raise
          (.permitIssued s.arbiter.chooseId s.config.chunk (.restore slot j.tag j.volume j.generation)) } := by
  intro g
  have hjob := State.job_setJob_same g
    (some { j with state := .running, charged := j.charged + chunk, permits := j.permits + 1 }) hslot
  simp [State.grantChunk, State.issuePermit, State.subject, State.raise, hjob, g]

variable {s}

theorem State.chargeChunk_granted (h : s.evaluateChunk j.principal s.config.chunk = .granted) :
    s.chargeChunk slot j = (true, s.grantChunk slot j s.config.chunk) := by
  simp [State.chargeChunk, h]

theorem State.chargeChunk_held (h : s.evaluateChunk j.principal s.config.chunk = .held)
    (hroom : s.quota.held.length < 32) : s.chargeChunk slot j = (true, s.holdChunk slot j) := by
  simp [State.chargeChunk, h, hroom]

theorem State.chargeChunk_deferred (h : s.evaluateChunk j.principal s.config.chunk = .held)
    (hfull : 32 ≤ s.quota.held.length) : s.chargeChunk slot j = (false, s.deferChunk slot j) := by
  simp [State.chargeChunk, h, Nat.not_lt.2 hfull]

theorem State.chargeChunk_refused (hg : s.evaluateChunk j.principal s.config.chunk ≠ .granted)
    (hh : s.evaluateChunk j.principal s.config.chunk ≠ .held) :
    s.chargeChunk slot j = (false, s.refuseChunk slot j) := by
  cases h : s.evaluateChunk j.principal s.config.chunk with
  | granted => exact absurd h hg
  | held => exact absurd h hh
  | unknown | overQuota | shareLimit => simp [State.chargeChunk, h]

variable (s)

/-- A chunk's charge ends in one of four ways. -/
theorem State.chargeChunk_cases :
    s.chargeChunk slot j = (true, s.grantChunk slot j s.config.chunk) ∨
    s.chargeChunk slot j = (true, s.holdChunk slot j) ∨
    s.chargeChunk slot j = (false, s.deferChunk slot j) ∨
    s.chargeChunk slot j = (false, s.refuseChunk slot j) := by
  by_cases hg : s.evaluateChunk j.principal s.config.chunk = .granted
  · exact .inl (State.chargeChunk_granted slot j hg)
  · by_cases hh : s.evaluateChunk j.principal s.config.chunk = .held
    · rcases Nat.lt_or_ge s.quota.held.length 32 with hroom | hfull
      · exact .inr (.inl (State.chargeChunk_held slot j hh hroom))
      · exact .inr (.inr (.inl (State.chargeChunk_deferred slot j hh hfull)))
    · exact .inr (.inr (.inr (State.chargeChunk_refused slot j hg hh)))

/-- A chunk's charge leaves the readiness of the duplication side, the precedence count and the other slots as they
were. -/
theorem State.chargeChunk_keeps :
    (s.chargeChunk slot j).2.duplicationReady = s.duplicationReady ∧
    (s.chargeChunk slot j).2.arbiter.precedence = s.arbiter.precedence ∧
    ∀ k, k ≠ slot → (s.chargeChunk slot j).2.job k = s.job k := by
  obtain h | h | h | h := s.chargeChunk_cases slot j <;> rw [h]
  · refine ⟨?_, ?_, fun k hk => (State.job_setJob_ne _ _ hk).trans ?_⟩
    · simp [State.grantChunk, State.issuePermit, State.duplicationReady]
    · simp [State.grantChunk, State.issuePermit]
    · simp [State.job]
  · exact ⟨rfl, rfl, fun _ => State.job_setJob_ne (s.joinHeld _) _⟩
  · exact ⟨rfl, rfl, fun _ => State.job_setJob_ne s _⟩
  · exact ⟨rfl, rfl, fun _ => State.job_setJob_ne s _⟩

theorem State.grantChunk_setPrecedence (chunk n : Nat) :
    (s.setPrecedence n).grantChunk slot j chunk = (s.grantChunk slot j chunk).setPrecedence n := by
  have hgrant : (s.setPrecedence n).grant j.principal chunk .restore =
      (s.grant j.principal chunk .restore).setPrecedence n := by
    simp [State.setPrecedence, State.grant_withArbiter]
  simp only [State.grantChunk, hgrant]
  rfl

/-- A chunk's charge neither reads nor writes the precedence count. -/
theorem State.chargeChunk_setPrecedence (n : Nat) :
    (s.setPrecedence n).chargeChunk slot j =
      ((s.chargeChunk slot j).1, (s.chargeChunk slot j).2.setPrecedence n) := by
  have hverdict : (s.setPrecedence n).evaluateChunk j.principal s.config.chunk =
      s.evaluateChunk j.principal s.config.chunk := rfl
  cases hv : s.evaluateChunk j.principal s.config.chunk with
  | held =>
    by_cases hroom : s.quota.held.length < 32 <;>
      simp only [State.chargeChunk, State.setPrecedence_config, State.setPrecedence_quota, hverdict, hv, hroom] <;> rfl
  | granted | unknown | overQuota | shareLimit =>
    simp only [State.chargeChunk, State.setPrecedence_config, hverdict, hv, State.grantChunk_setPrecedence] <;> rfl

end ChargeChunk

/-! ### Which side is chosen (R120) -/

@[simp] theorem State.setPrecedence_duplicationReady (s : State) (n : Nat) :
    (s.setPrecedence n).duplicationReady = s.duplicationReady := rfl
@[simp] theorem State.setPrecedence_restoreWaiting (s : State) (n : Nat) :
    (s.setPrecedence n).restoreWaiting = s.restoreWaiting := rfl
@[simp] theorem State.setPrecedence_setPrecedence (s : State) (m n : Nat) :
    (s.setPrecedence m).setPrecedence n = s.setPrecedence n := rfl

/-- The state in which the chunk of a chosen slot is charged: the pointer is set to it (R121). -/
def State.pointedAt (s : State) (slot : Nat) : State :=
  { s with arbiter := { s.arbiter with restorePointer := slot } }

theorem State.pointedAt_grant (s : State) (slot id n : Nat) (cause : QuotaCause) :
    (s.pointedAt slot).grant id n cause = (s.grant id n cause).pointedAt slot := by
  simp [State.pointedAt, State.grant_withArbiter]

/-- The state of a granted chunk of the chosen job. -/
theorem State.grantChunk_pointedAt (s : State) {slot : Nat} (hslot : slot < 8) (j : Job) (chunk : Nat) :
    let g := s.grant j.principal chunk .restore
    (s.pointedAt slot).grantChunk slot j chunk =
      { g.setJob slot (some
          { j with state := .running, charged := j.charged + chunk, permits := j.permits + 1 }) with
        arbiter := { s.arbiter with
          permits := s.arbiter.permits ++
            [{ id := s.arbiter.chooseId, owner := .job slot j.principal, chunk := s.config.chunk }]
          nextId := (s.arbiter.chooseId + 1) % 256
          restorePointer := slot }
        port := g.port.raise
          (.permitIssued s.arbiter.chooseId s.config.chunk (.restore slot j.tag j.volume j.generation)) } := by
  rw [State.grantChunk_eq _ slot j chunk hslot, State.pointedAt_grant]
  rfl

/-- A restore choice charges the chunk of the job that the search finds. -/
theorem State.restoreChoice_eq {s : State} {slot : Nat} {j : Job}
    (hslot : firstAfter 8 s.arbiter.restorePointer (fun k => (s.job k).any (·.waiting)) = some slot)
    (hj : s.job slot = some j) : s.restoreChoice = (s.pointedAt slot).chargeChunk slot j := by
  simp only [State.restoreChoice, hslot, hj, State.pointedAt]

theorem exec_arbiterChoice (s : State) : exec .arbiterChoice s = .next (s.arbitrate.insertionTest s) := rfl

theorem State.settlePrecedence_eq_setPrecedence (s : State) :
    s.settlePrecedence = s.setPrecedence
      (if s.duplicationReady = false ∨ s.restoreWaiting = false then 0 else s.arbiter.precedence) := by
  cases hr : s.restoreWaiting <;> cases hd : s.duplicationReady <;>
    simp [State.settlePrecedence, State.setPrecedence, hr, hd]

section Arbitrate

variable {s : State}

theorem State.arbitrate_idle
    (h : s.config.readSlots ≤ s.slotsInUse ∨ (s.restoreWaiting = false ∧ s.duplicationReady = false)) :
    s.arbitrate = s := by
  rcases h with hfull | ⟨hr, hd⟩
  · exact if_pos hfull
  · simp [State.arbitrate, hr, hd]

variable (hfree : s.slotsInUse < s.config.readSlots)
include hfree

theorem State.arbitrate_duplication (hready : s.duplicationReady = true)
    (hturn : s.restoreWaiting = false ∨ s.config.restoreWeight ≤ s.arbiter.precedence) :
    s.arbitrate = (s.setPrecedence 0).duplicationChoice := by
  cases hr : s.restoreWaiting with
  | false => simp [State.arbitrate, Nat.not_le.2 hfree, hready, hr]
  | true =>
    have hreached := hturn.resolve_left (by simp [hr])
    simp [State.arbitrate, Nat.not_le.2 hfree, hready, hr, Nat.not_lt.2 hreached]

/-- A restore choice charges the chunk of the job it takes; the count starts again where a side does not wait, and
rises where the chunk was granted or held. -/
theorem State.arbitrate_restore (hwaits : s.restoreWaiting = true)
    (hturn : s.duplicationReady = false ∨ s.arbiter.precedence < s.config.restoreWeight) {slot : Nat} {j : Job}
    (hslot : firstAfter 8 s.arbiter.restorePointer (fun k => (s.job k).any (·.waiting)) = some slot)
    (hj : s.job slot = some j) :
    let x := (s.pointedAt slot).chargeChunk slot j
    s.arbitrate = x.2.setPrecedence
      (if s.duplicationReady = false ∨ x.2.restoreWaiting = false then 0
       else if x.1 = true then s.arbiter.precedence + 1 else s.arbiter.precedence) := by
  intro x
  cases hd : s.duplicationReady with
  | false =>
    have hchoice : (s.setPrecedence 0).restoreChoice = (x.1, x.2.setPrecedence 0) :=
      (State.restoreChoice_eq (s := s.setPrecedence 0) hslot hj).trans
        ((s.pointedAt slot).chargeChunk_setPrecedence slot j 0)
    simp [State.arbitrate, Nat.not_le.2 hfree, hwaits, hd, hchoice]
  | true =>
    have hbelow := hturn.resolve_left (by simp [hd])
    have harbitrate : s.arbitrate =
        (if x.1 = true then x.2.setPrecedence (s.arbiter.precedence + 1) else x.2).settlePrecedence := by
      simp only [State.arbitrate, if_neg (Nat.not_le.2 hfree), hwaits, hd, if_pos hbelow,
        State.restoreChoice_eq hslot hj, x]
    obtain ⟨hxready, hxcount, _⟩ := (s.pointedAt slot).chargeChunk_keeps slot j
    have hready : x.2.duplicationReady = true := hxready.trans hd
    have hcount : x.2.arbiter.precedence = s.arbiter.precedence := hxcount
    rw [harbitrate, State.settlePrecedence_eq_setPrecedence]
    cases x.1 <;> simp [hready, hcount]

end Arbitrate

/-! ### The duplication choice (R122, R146, R149) -/

/-- A duplication choice gives the volume that the search finds a permit for one chunk of tokens. -/
theorem State.duplicationChoice_eq {s : State} {v : Nat} {n : Night}
    (hv : firstAfter 16 s.arbiter.volumePointer (fun v => (s.volume v).duplicable) = some v)
    (hn : (s.volume v).night = some n) :
    s.duplicationChoice =
      { s.setVolume v { s.volume v with night := some { n with permits := n.permits + 1 } } with
        arbiter := { s.arbiter with
          permits := s.arbiter.permits ++
            [{ id := s.arbiter.chooseId, owner := .night v n.generation, chunk := s.config.chunk }]
          nextId := (s.arbiter.chooseId + 1) % 256
          volumePointer := v }
        dup := { s.dup with tokens := s.dup.tokens - s.config.chunk }
        port := s.port.raise (.permitIssued s.arbiter.chooseId s.config.chunk (.duplicate v n.generation)) } := by
  simp only [State.duplicationChoice, hv, hn]
  rfl

/-- A duplication choice inserts no deadline entry, so no expiry test follows. -/
theorem exec_arbiterChoice_duplication {s : State} (hfree : s.slotsInUse < s.config.readSlots)
    (hready : s.duplicationReady = true)
    (hturn : s.restoreWaiting = false ∨ s.config.restoreWeight ≤ s.arbiter.precedence) {v : Nat} {n : Night}
    (hv : firstAfter 16 s.arbiter.volumePointer (fun v => (s.volume v).duplicable) = some v)
    (hn : (s.volume v).night = some n) :
    exec .arbiterChoice s = .next (s.setPrecedence 0).duplicationChoice := by
  rw [exec_arbiterChoice, State.arbitrate_duplication hfree hready hturn]
  refine congrArg _ (State.insertionTest_of_eq ?_)
  rw [State.duplicationChoice_eq (s := s.setPrecedence 0) hv hn]
  rfl

/-! ### The outcomes of a restore choice (R40, R41, R120, R121) -/

/-- The arbiter that a restore choice leaves with the state `t` (R120, R121, R123): the pointer at the chosen slot,
the permit of a granted chunk, and the precedence count by whether the chunk was granted or held and which sides
wait then. -/
def State.arbiterAfter (s t : State) (slot : Nat) (taken : Bool) (issued : List Permit) (nextId : Nat) : Arbiter :=
  { s.arbiter with
    permits := s.arbiter.permits ++ issued
    nextId := nextId
    restorePointer := slot
    precedence :=
      if s.duplicationReady = false ∨ t.restoreWaiting = false then 0
      else if taken = true then s.arbiter.precedence + 1 else s.arbiter.precedence }

section Frames

variable (s : State)

theorem State.pointedAt_frame (slot : Nat) : Unchanged [.arbiter] s (s.pointedAt slot) := by
  intro b hb; cases b <;> simp_all [Block.same, State.pointedAt]

theorem State.setPrecedence_frame (n : Nat) : Unchanged [.arbiter] s (s.setPrecedence n) := by
  intro b hb; cases b <;> simp_all [Block.same]

theorem State.setJob_frame (k : Nat) (j : Option Job) : Unchanged [.jobs] s (s.setJob k j) := by
  intro b hb; cases b <;> simp_all [Block.same]

theorem State.holdChunk_frame (slot : Nat) (j : Job) :
    Unchanged [.quota, .notice, .jobs] s (s.holdChunk slot j) := by
  intro b hb; cases b <;> simp_all [Block.same, State.holdChunk, State.joinHeld]

theorem State.refuseChunk_frame (slot : Nat) (j : Job) : Unchanged [.jobs, .port] s (s.refuseChunk slot j) := by
  intro b hb; cases b <;> simp_all [Block.same, State.refuseChunk]

end Frames

section RestoreChoice

variable {s : State} (hfree : s.slotsInUse < s.config.readSlots) (hwaits : s.restoreWaiting = true)
  (hturn : s.duplicationReady = false ∨ s.arbiter.precedence < s.config.restoreWeight) {slot : Nat} {j : Job}
  (hslot : firstAfter 8 s.arbiter.restorePointer (fun k => (s.job k).any (·.waiting)) = some slot)
  (hj : s.job slot = some j)
include hfree hwaits hturn hslot hj

/-- A choice is the charge of the chosen job's chunk, but for the precedence count; what the charge did to the
arbiter decides what the choice leaves of it. -/
theorem State.arbitrate_of_charge {taken : Bool} {t : State}
    (hcharge : (s.pointedAt slot).chargeChunk slot j = (taken, t)) {issued : List Permit} {nextId : Nat}
    (harbiter : t.arbiter = { s.arbiter with
      permits := s.arbiter.permits ++ issued, nextId := nextId, restorePointer := slot }) :
    (∃ count, s.arbitrate = t.setPrecedence count) ∧
    s.arbitrate.arbiter = s.arbiterAfter s.arbitrate slot taken issued nextId := by
  have h := State.arbitrate_restore hfree hwaits hturn hslot hj
  simp only [hcharge] at h
  refine ⟨⟨_, h⟩, ?_⟩
  have hwaiting : s.arbitrate.restoreWaiting = t.restoreWaiting := by rw [h]; rfl
  rw [State.arbiterAfter, hwaiting, h, State.setPrecedence_arbiter, harbiter]

theorem State.arbitrate_granted (hv : s.evaluateChunk j.principal s.config.chunk = .granted) :
    let g := s.grant j.principal s.config.chunk .restore
    s.arbitrate.job slot = some
      { j with state := .running, charged := j.charged + s.config.chunk, permits := j.permits + 1 } ∧
    s.arbitrate.arbiter = s.arbiterAfter s.arbitrate slot true
      [{ id := s.arbiter.chooseId, owner := .job slot j.principal, chunk := s.config.chunk }]
      ((s.arbiter.chooseId + 1) % 256) ∧
    s.arbitrate.port = g.port.raise
      (.permitIssued s.arbiter.chooseId s.config.chunk (.restore slot j.tag j.volume j.generation)) ∧
    Unchanged [.jobs, .arbiter, .port] g s.arbitrate := by
  intro g
  have hlt := State.job_lt s hj
  have hcharge := (State.chargeChunk_granted (s := s.pointedAt slot) slot j hv).trans
    (congrArg _ (s.grantChunk_pointedAt hlt j s.config.chunk))
  obtain ⟨⟨c, ht⟩, harbiter⟩ := State.arbitrate_of_charge hfree hwaits hturn hslot hj hcharge rfl
  refine ⟨?_, harbiter, by rw [ht]; rfl, fun b hb => ?_⟩
  · rw [ht]; exact State.job_setJob_same _ _ hlt
  · rw [ht]
    cases b with
    | jobs | arbiter | port => simp at hb
    | _ => rfl

theorem State.arbitrate_held (hv : s.evaluateChunk j.principal s.config.chunk = .held)
    (hroom : s.quota.held.length < 32) :
    s.arbitrate.job slot = some { j with state := .syncWait } ∧
    s.arbitrate.arbiter = s.arbiterAfter s.arbitrate slot true [] s.arbiter.nextId ∧
    s.arbitrate.quota = { s.quota with held := s.quota.held ++
      [{ origin := .restore slot, principal := j.principal, amount := s.config.chunk, age := 0 }] } ∧
    s.arbitrate.notice = s.notice.queueUrgent j.principal ∧
    Unchanged [.jobs, .arbiter, .quota, .notice] s s.arbitrate := by
  have hcharge := State.chargeChunk_held (s := s.pointedAt slot) slot j hv hroom
  obtain ⟨⟨c, ht⟩, harbiter⟩ := State.arbitrate_of_charge hfree hwaits hturn hslot hj hcharge
    (issued := []) (nextId := s.arbiter.nextId) (by simp [State.holdChunk, State.joinHeld, State.pointedAt])
  refine ⟨?_, harbiter, by rw [ht]; rfl, by rw [ht]; rfl, ?_⟩
  · rw [ht]; exact State.job_setJob_same _ _ (State.job_lt s hj)
  · rw [ht]
    exact ((s.pointedAt_frame slot).trans
      ((State.holdChunk_frame _ slot j).trans (State.setPrecedence_frame _ c))).mono (by simp)

theorem State.arbitrate_deferred (hv : s.evaluateChunk j.principal s.config.chunk = .held)
    (hfull : 32 ≤ s.quota.held.length) :
    s.arbitrate.job slot = some { j with deferred := true } ∧
    s.arbitrate.arbiter = s.arbiterAfter s.arbitrate slot false [] s.arbiter.nextId ∧
    Unchanged [.jobs, .arbiter] s s.arbitrate := by
  have hcharge := State.chargeChunk_deferred (s := s.pointedAt slot) slot j hv hfull
  obtain ⟨⟨c, ht⟩, harbiter⟩ := State.arbitrate_of_charge hfree hwaits hturn hslot hj hcharge
    (issued := []) (nextId := s.arbiter.nextId) (by simp [State.deferChunk, State.pointedAt])
  refine ⟨?_, harbiter, ?_⟩
  · rw [ht]; exact State.job_setJob_same _ _ (State.job_lt s hj)
  · rw [ht]
    exact ((s.pointedAt_frame slot).trans
      ((State.setJob_frame _ slot _).trans (State.setPrecedence_frame _ c))).mono (by simp)

theorem State.arbitrate_refused (hg : s.evaluateChunk j.principal s.config.chunk ≠ .granted)
    (hh : s.evaluateChunk j.principal s.config.chunk ≠ .held) :
    s.arbitrate.job slot = some { j with state := .quotaWait } ∧
    s.arbitrate.arbiter = s.arbiterAfter s.arbitrate slot false [] s.arbiter.nextId ∧
    s.arbitrate.port = s.port.raise
      (.restoreState slot j.tag j.principal j.state .quotaWait j.charged j.moved) ∧
    Unchanged [.jobs, .arbiter, .port] s s.arbitrate := by
  have hcharge := State.chargeChunk_refused (s := s.pointedAt slot) slot j hg hh
  obtain ⟨⟨c, ht⟩, harbiter⟩ := State.arbitrate_of_charge hfree hwaits hturn hslot hj hcharge
    (issued := []) (nextId := s.arbiter.nextId) (by simp [State.refuseChunk, State.pointedAt])
  refine ⟨?_, harbiter, by rw [ht]; rfl, ?_⟩
  · rw [ht]; exact State.job_setJob_same _ _ (State.job_lt s hj)
  · rw [ht]
    exact ((s.pointedAt_frame slot).trans
      ((State.refuseChunk_frame _ slot j).trans (State.setPrecedence_frame _ c))).mono (by simp)

theorem State.job_arbitrate_ne {k : Nat} (hk : k ≠ slot) : s.arbitrate.job k = s.job k := by
  rw [State.arbitrate_restore hfree hwaits hturn hslot hj]
  exact ((s.pointedAt slot).chargeChunk_keeps slot j).2.2 k hk

end RestoreChoice

end Sys2Proof.Machine
end

section
/-! PROOFS. The statement about a choice of the arbiter. -/

namespace Sys2Proof.Machine

/-- Settles O40: by the side that is chosen, the place that its search finds, and on the restore side by the
verdict on the chunk. -/
theorem arbiterChoosesASide : Obligations.ArbiterChoosesASide := by
  refine ⟨fun s h => ?idle, fun s hfree hready hturn => ?duplication, fun s hfree hwaits hturn => ?restore,
    fun a _ h => ?permitId⟩
  case idle => rw [exec_arbiterChoice, State.arbitrate_idle h, State.insertionTest_of_eq rfl]
  case duplication =>
    obtain ⟨v, hv, hfirst⟩ := exists_firstAfter s.arbiter.volumePointer (State.exists_duplicable hready)
    obtain ⟨_, _, _, hdup, _⟩ := hfirst
    obtain ⟨n, hn, hsending, hremaining⟩ := Volume.duplicable_iff.1 hdup
    refine ⟨_, v, n, exec_arbiterChoice_duplication hfree hready hturn hv hn, firstAfter_some hv, hn, hsending,
      hremaining, ?_⟩
    rw [State.duplicationChoice_eq (s := s.setPrecedence 0) hv hn]
    refine ⟨rfl, State.volume_setVolume_same (s.setPrecedence 0) _ (State.night_lt s hn),
      fun w => State.volume_setVolume_ne (s.setPrecedence 0) _, rfl, rfl, fun b hb => ?_⟩
    cases b with
    | arbiter | volumes | dup | port => simp at hb
    | _ => rfl
  case restore =>
    obtain ⟨slot, hslot, hsearch⟩ := exists_firstAfter s.arbiter.restorePointer (s.restoreWaiting_iff.1 hwaits)
    have hfirst : FirstFrom 8 (s.arbiter.restorePointer + 1) slot
        fun k => ∃ j, s.job k = some j ∧ j.waiting = true := by
      simpa only [Option.any_eq_true] using hsearch
    have ⟨_, _, _, ⟨j, hj, hwaiting⟩, _⟩ := hfirst
    obtain ⟨hrunning, _, _⟩ := Job.waiting_iff.1 hwaiting
    refine ⟨s.arbitrate, slot, j, exec_arbiterChoice s, hfirst, hj,
      fun k => State.job_arbitrate_ne hfree hwaits hturn hslot hj, ?verdicts⟩
    intro verdict room after pointed
    refine ⟨fun hv => ?granted, fun hv hroom => ?held, fun hv hroom => ?deferred, fun hg hh => ?refused⟩
    case granted =>
      obtain ⟨hjob, harbiter, hport, hframe⟩ := State.arbitrate_granted hfree hwaits hturn hslot hj hv
      exact ⟨hjob, harbiter.trans (by simp [State.arbiterAfter, hv]), hport, hframe⟩
    case held =>
      obtain ⟨hjob, harbiter, hquota, hnotice, hframe⟩ :=
        State.arbitrate_held hfree hwaits hturn hslot hj hv (of_decide_eq_true hroom)
      exact ⟨hjob, harbiter.trans (by simp [State.arbiterAfter, hv, hroom]), hquota, hnotice, hframe⟩
    case deferred =>
      obtain ⟨hjob, harbiter, hframe⟩ := State.arbitrate_deferred hfree hwaits hturn hslot hj hv
        (Nat.le_of_not_lt (of_decide_eq_false hroom))
      exact ⟨hjob, harbiter.trans (by simp [State.arbiterAfter, hv, hroom]), hframe⟩
    case refused =>
      obtain ⟨hjob, harbiter, hport, hframe⟩ := State.arbitrate_refused hfree hwaits hturn hslot hj hg hh
      rw [hrunning] at hport
      exact ⟨hjob, harbiter.trans (by simp [State.arbiterAfter, hg, hh]), hport, hframe⟩
  case permitId => simpa only [Arbiter.idFree_iff] using Arbiter.chooseId_firstFrom h

end Sys2Proof.Machine
end

section
/-! PROOFS. The own claim and the weights, and the statement about them: the volume and peer tables read by number, the
least time to a dawn, and the claims that count in the sum of weights. -/

namespace Sys2Proof.Machine

/-! ### The tables, read by number (R58, R96) -/

theorem vector_toList_eq_map_range {α : Type} {n : Nat} (table : Vector α n) {read : Nat → α}
    (hread : ∀ k (h : k < n), read k = table[k]) : table.toList = (List.range n).map read := by
  refine List.ext_getElem (by simp) fun k hk _ => ?_
  have hlt : k < n := by simpa using hk
  simp [hread k hlt]

theorem State.volumes_toList (s : State) : s.volumes.toList = (List.range 16).map s.volume :=
  vector_toList_eq_map_range s.volumes fun _ h => dif_pos h

theorem State.peers_toList (s : State) : s.peers.table.toList = (List.range 16).map s.peer :=
  vector_toList_eq_map_range s.peers.table fun _ h => dif_pos h

/-! ### The own claim (R141) -/

theorem Night.claiming_eq (n : Night) :
    n.claiming = decide (n.state = .sending ∨ n.state = .paused ∨ n.state = .finishing) := by
  cases hstate : n.state <;> simp [Night.claiming, hstate]

theorem State.claimingNights_eq (s : State) :
    s.claimingNights = (List.range 16).filterMap fun v => (s.volume v).night.filter fun n =>
      n.state = .sending ∨ n.state = .paused ∨ n.state = .finishing := by
  have hclaiming : Night.claiming = fun n : Night =>
      decide (n.state = .sending ∨ n.state = .paused ∨ n.state = .finishing) := funext Night.claiming_eq
  rw [State.claimingNights, State.volumes_toList, List.filterMap_map, List.filter_filterMap, hclaiming]
  rfl

theorem State.ownClaim_of_none {s : State} (h : s.claimingNights = []) : s.ownClaim = none := by
  simp [State.ownClaim, h]

theorem State.ownClaim_of_some {s : State} (h : s.claimingNights ≠ []) :
    s.ownClaim = some
      { backlog := min max32 (s.claimingNights.map (·.remaining)).sum
        seconds := (s.claimingNights.map fun n => s.clock.secondsTo n.dawn).foldl min 65535
        paused := s.holdInForce } := by
  unfold State.ownClaim
  split
  · contradiction
  · rfl

/-- The least of a list and a cap is one of them and at most each of them. -/
theorem foldl_min_spec (cap : Nat) (l : List Nat) :
    l.foldl min cap ≤ cap ∧ (∀ x ∈ l, l.foldl min cap ≤ x) ∧ (l.foldl min cap = cap ∨ l.foldl min cap ∈ l) := by
  induction l generalizing cap with
  | nil => simp
  | cons x l ih =>
    obtain ⟨hcap, hle, hattained⟩ := ih (min cap x)
    rw [List.foldl_cons]
    generalize l.foldl min (min cap x) = least at *
    refine ⟨by omega, ?_, ?_⟩
    · rintro y (_ | ⟨_, hy⟩)
      · omega
      · exact hle y hy
    · rcases hattained with heq | hmem
      · rcases Nat.le_total cap x with h | h
        · exact .inl (heq.trans (Nat.min_eq_left h))
        · exact .inr (List.mem_cons.2 (.inl (heq.trans (Nat.min_eq_right h))))
      · exact .inr (List.mem_cons_of_mem x hmem)

/-! ### Weights (R142, R143) -/

/-- The weight is the backlog divided by the seconds, at least 1, and rounded up. -/
theorem Claim.weight_bounds (c : Claim) :
    c.backlog ≤ c.weight * max 1 c.seconds ∧ c.weight * max 1 c.seconds < c.backlog + max 1 c.seconds := by
  have hpos : 0 < max 1 c.seconds := by omega
  unfold Claim.weight
  generalize max 1 c.seconds = seconds at hpos
  have hlower := Nat.div_mul_le_self (c.backlog + seconds - 1) seconds
  have hupper := Nat.lt_div_mul_add (a := c.backlog + seconds - 1) hpos
  omega

theorem State.selfWeight_of_none {s : State} (h : s.ownClaim = none) : s.selfWeight = 0 := by
  simp [State.selfWeight, h]

theorem State.selfWeight_of_some {s : State} {c : Claim} (h : s.ownClaim = some c) : s.selfWeight = c.weight := by
  simp [State.selfWeight, h]

/-- What a peer adds to the sum of weights. -/
def Peer.countedWeight (p : Peer) : Nat := (p.countingClaim.map (·.weight)).getD 0

theorem Peer.countedWeight_of_none {p : Peer} (h : p.claim = none) : p.countedWeight = 0 := by
  simp [Peer.countedWeight, Peer.countingClaim, h]

theorem Peer.countedWeight_of_some {p : Peer} {c : Claim} (h : p.claim = some c) :
    p.countedWeight = if p.state = .live ∧ c.paused = false then c.weight else 0 := by
  by_cases hcounts : p.state = .live ∧ c.paused = false <;>
    simp [Peer.countedWeight, Peer.countingClaim, h, hcounts]

theorem sum_weights_countingClaim (l : List Peer) :
    ((l.filterMap (·.countingClaim)).map (·.weight)).sum = (l.map (·.countedWeight)).sum := by
  induction l with
  | nil => rfl
  | cons p l ih => cases h : p.countingClaim <;> simp [Peer.countedWeight, h, ih]

theorem State.weightSum_eq (s : State) :
    s.weightSum = s.selfWeight + ((List.range 16).map fun k => (s.peer k).countedWeight).sum := by
  rw [State.weightSum, sum_weights_countingClaim, State.peers_toList, List.map_map]
  rfl

/-- Settles O9: the claim by the claiming nights, the weight by division, and the sum peer by peer. -/
theorem ownClaimOfTheClaimingNights : Obligations.OwnClaimOfTheClaimingNights := by
  refine ⟨fun s => ?claim, Claim.weight_bounds, fun s =>
    ⟨State.selfWeight_of_none, fun _ => State.selfWeight_of_some, ?sum⟩⟩
  case claim =>
    intro nights
    have hnights : s.claimingNights = nights := s.claimingNights_eq
    obtain ⟨hcap, hle, hattained⟩ := foldl_min_spec 65535 (nights.map fun n => s.clock.secondsTo n.dawn)
    refine ⟨fun h => State.ownClaim_of_none (hnights.trans h), fun h =>
      ⟨_, State.ownClaim_of_some fun hnone => h (hnights.symm.trans hnone), ?_⟩⟩
    rw [hnights]
    refine ⟨rfl, hcap, fun n hn => hle _ (List.mem_map_of_mem hn), hattained.imp_right fun hmem => ?_, rfl⟩
    obtain ⟨n, hn, heq⟩ := List.mem_map.1 hmem
    exact ⟨n, hn, heq.symm⟩
  case sum =>
    rw [State.weightSum_eq]
    refine congrArg (fun l => s.selfWeight + List.sum l) (List.map_congr_left fun k _ => ?_)
    cases hclaim : (s.peer k).claim with
    | none => exact Peer.countedWeight_of_none hclaim
    | some c => exact Peer.countedWeight_of_some hclaim

end Sys2Proof.Machine
end

section
/-! PROOFS. The requests that open, resume and close a night, and the statements about them: the rows that insert a
deadline entry, the checks of each request in their order, and the end of a night that NIGHT DONE or NIGHT ABANDON
leaves without a permit. -/

namespace Sys2Proof.Machine

/-! ### Request rows that insert a deadline entry (R155, R163, R177) -/

section InsertingRows

variable {i : Instr} {s : State} {a : Nat} {q : Request} {r : Reply}

/-- A refusal inserts no entry, so no expiry test follows it. -/
theorem refuses_of_inserting_reply {code : ResultCode} (hs : s.serves a q)
    (hexec : exec i s = .next (r.answered.insertionTest s)) (hr : r = s.refuse code) : Refuses i s a code := by
  unfold Refuses
  rw [hexec, hr, State.refuse_answered hs]
  exact congrArg _ (State.insertionTest_of_eq rfl)

/-- A volume whose night stands is written, and the DAWN entry of that night is in the list (R134, R136). -/
def State.setNight (s : State) (v : Nat) (x : Volume) (dawn : Nat) : State :=
  { s.setVolume v x with deadlines := insertDeadline ⟨.dawn v, dawn⟩ s.deadlines }

theorem State.setNight_frame (s : State) (v : Nat) (x : Volume) (dawn : Nat) :
    Unchanged [.volumes, .deadlines] s (s.setNight v x dawn) := by
  intro b hb
  cases b with
  | volumes | deadlines => simp at hb
  | _ => rfl

/-- A reply that sets the night of one of the sixteen volumes writes that volume, the entry of its dawn and the
answer. -/
theorem sets_night_of_reply (hs : s.serves a q) (hexec : exec i s = .next (r.answered.insertionTest s)) {v : Nat}
    (hv : v ≤ 15) {x : Volume} {dawn : Nat} (hr : r = ⟨s.setNight v x dawn, .done, []⟩) :
    ∃ t, exec i s = .next (t.insertionTest s) ∧ t.volume v = x ∧ (∀ w, w ≠ v → t.volume w = s.volume w) ∧
      t.deadlines = insertDeadline ⟨.dawn v, dawn⟩ s.deadlines ∧ Answers s t a .done [] [] ∧
      Unchanged [.volumes, .deadlines, .port] s t := by
  have hport : r.state.port = s.port := by rw [hr]; rfl
  refine ⟨_, hexec, ?_⟩
  rw [Reply.answered_of_port hs hport, hr]
  exact ⟨State.volume_setVolume_same s x (Nat.lt_succ_of_le hv), fun _ => State.volume_setVolume_ne s x, rfl, rfl,
    (State.setNight_frame s v x dawn).setPort _⟩

end InsertingRows

/-! ### NIGHT OPEN (R103, R133, R134) -/

section OpenNight

variable {s : State} {v g backlog dawn : Nat}

theorem exec_nightOpen {a : Nat} (h : s.serves a (.nightOpen v g backlog dawn)) :
    exec (.nightOpen v g backlog dawn) s = .next ((s.openNight v g backlog dawn).answered.insertionTest s) :=
  State.serveInserting_takes h fun s => s.openNight v g backlog dawn

theorem State.openNight_badRequest (h : 15 < v) : s.openNight v g backlog dawn = s.refuse .badRequest :=
  if_pos h

theorem State.openNight_notDeclared (hv : v ≤ 15) (hd : (s.volume v).declared = false) :
    s.openNight v g backlog dawn = s.refuse .notDeclared := by
  simp [State.openNight, Nat.not_lt.2 hv, hd]

variable (hv : v ≤ 15) (hd : (s.volume v).declared = true)
include hv hd

theorem State.openNight_offsiteOff (ho : (s.volume v).offsite = false) :
    s.openNight v g backlog dawn = s.refuse .offsiteOff := by
  simp [State.openNight, Nat.not_lt.2 hv, hd, ho]

variable (ho : (s.volume v).offsite = true)
include ho

theorem State.openNight_busy (hn : (s.volume v).night ≠ none) :
    s.openNight v g backlog dawn = s.refuse .busy := by
  simp [State.openNight, Nat.not_lt.2 hv, hd, ho, Option.isSome_iff_ne_none.2 hn]

variable (hn : (s.volume v).night = none)
include hn

theorem State.openNight_notFound (h : (s.volume v).snapshot g = none) :
    s.openNight v g backlog dawn = s.refuse .notFound := by
  simp [State.openNight, Nat.not_lt.2 hv, hd, ho, hn, h]

variable {r : Snapshot} (hr : (s.volume v).snapshot g = some r)
include hr

/-- The checks that look at the record and at the dawn, and the volume of a night that opens. -/
theorem State.openNight_of_listed :
    s.openNight v g backlog dawn =
      if r.status ≠ .localOnly ∨ ∃ b, (s.volume v).base = some b ∧ g ≤ b then s.refuse .notNewer
      else if r.retirePending then s.refuse .retiring
      else if dawn ≤ s.clock.minute then s.refuse .tooLate
      else
        ⟨s.setNight v { (s.volume v).update g fun y => { y with status := .sending, holds := y.holds + 1 } with
            night := some { state := s.openedState, generation := g, remaining := backlog, dawn := dawn } } dawn,
          .done, []⟩ := by
  simp [State.openNight, State.setNight, Nat.not_lt.2 hv, hd, ho, hn, hr, Option.any_eq_true]

theorem State.openNight_notNewer (h : r.status ≠ .localOnly ∨ ∃ b, (s.volume v).base = some b ∧ g ≤ b) :
    s.openNight v g backlog dawn = s.refuse .notNewer := by
  rw [State.openNight_of_listed hv hd ho hn hr, if_pos h]

variable (hnewer : ¬ (r.status ≠ .localOnly ∨ ∃ b, (s.volume v).base = some b ∧ g ≤ b))
include hnewer

theorem State.openNight_retiring (h : r.retirePending = true) :
    s.openNight v g backlog dawn = s.refuse .retiring := by
  rw [State.openNight_of_listed hv hd ho hn hr, if_neg hnewer, if_pos h]

variable (hstays : r.retirePending = false)
include hstays

theorem State.openNight_tooLate (h : dawn ≤ s.clock.minute) :
    s.openNight v g backlog dawn = s.refuse .tooLate := by
  rw [State.openNight_of_listed hv hd ho hn hr, if_neg hnewer, if_neg (Bool.eq_false_iff.1 hstays), if_pos h]

theorem State.openNight_opens (h : s.clock.minute < dawn) :
    s.openNight v g backlog dawn =
      ⟨s.setNight v { (s.volume v).update g fun y => { y with status := .sending, holds := y.holds + 1 } with
          night := some { state := s.openedState, generation := g, remaining := backlog, dawn := dawn } } dawn,
        .done, []⟩ := by
  rw [State.openNight_of_listed hv hd ho hn hr, if_neg hnewer, if_neg (Bool.eq_false_iff.1 hstays),
    if_neg (Nat.not_le.2 h)]

end OpenNight

/-! ### NIGHT RESUME (R136) -/

section ResumeNight

variable {s : State} {v dawn : Nat}

theorem exec_nightResume {a : Nat} (h : s.serves a (.nightResume v dawn)) :
    exec (.nightResume v dawn) s = .next ((s.resumeNight v dawn).answered.insertionTest s) :=
  State.serveInserting_takes h fun s => s.resumeNight v dawn

theorem State.resumeNight_badRequest (h : 15 < v) : s.resumeNight v dawn = s.refuse .badRequest :=
  if_pos h

theorem State.resumeNight_notDeclared (hv : v ≤ 15) (hd : (s.volume v).declared = false) :
    s.resumeNight v dawn = s.refuse .notDeclared := by
  simp [State.resumeNight, Nat.not_lt.2 hv, hd]

variable (hv : v ≤ 15) (hd : (s.volume v).declared = true)
include hv hd

/-- Only a SUSPENDED night resumes. -/
theorem State.resumeNight_busy (h : ∀ n, (s.volume v).night = some n → n.state ≠ .suspended) :
    s.resumeNight v dawn = s.refuse .busy := by
  cases hn : (s.volume v).night with
  | none => simp [State.resumeNight, Nat.not_lt.2 hv, hd, hn]
  | some n => simp [State.resumeNight, Nat.not_lt.2 hv, hd, hn, h n hn]

variable {n : Night} (hn : (s.volume v).night = some n) (hsuspended : n.state = .suspended)
include hn hsuspended

theorem State.resumeNight_tooLate (h : dawn ≤ s.clock.minute) : s.resumeNight v dawn = s.refuse .tooLate := by
  simp [State.resumeNight, Nat.not_lt.2 hv, hd, hn, hsuspended, h]

theorem State.resumeNight_resumes (h : s.clock.minute < dawn) :
    s.resumeNight v dawn =
      ⟨s.setNight v { s.volume v with night := some { n with state := s.openedState, dawn := dawn } } dawn,
        .done, []⟩ := by
  simp [State.resumeNight, State.setNight, Nat.not_lt.2 hv, hd, hn, hsuspended, Nat.not_le.2 h]

end ResumeNight

/-- Settles O41, request by request: the checks in their order, and then the night that the request sets. -/
theorem nightOpenAndResume : Obligations.NightOpenAndResume := by
  intro s a v dawn x state
  refine ⟨fun g backlog hs => ?opening, fun hs => ?resuming⟩
  case opening =>
    have hexec := exec_nightOpen hs
    refine ⟨fun h => refuses_of_inserting_reply hs hexec (State.openNight_badRequest h),
      fun hv hd => refuses_of_inserting_reply hs hexec (State.openNight_notDeclared hv hd), fun hv hd => ?_⟩
    refine ⟨fun ho => refuses_of_inserting_reply hs hexec (State.openNight_offsiteOff hv hd ho), fun ho => ?_⟩
    refine ⟨fun hn => refuses_of_inserting_reply hs hexec (State.openNight_busy hv hd ho hn), fun hn => ?_⟩
    refine ⟨fun h => refuses_of_inserting_reply hs hexec (State.openNight_notFound hv hd ho hn h), fun r hr => ?_⟩
    refine ⟨fun h => refuses_of_inserting_reply hs hexec (State.openNight_notNewer hv hd ho hn hr h),
      fun hnewer => ⟨fun h => ?retiring, fun hstays => ⟨fun h => ?tooLate, fun h => ?opens⟩⟩⟩
    case retiring =>
      exact refuses_of_inserting_reply hs hexec (State.openNight_retiring hv hd ho hn hr hnewer h)
    case tooLate =>
      exact refuses_of_inserting_reply hs hexec (State.openNight_tooLate hv hd ho hn hr hnewer hstays h)
    case opens => exact sets_night_of_reply hs hexec hv (State.openNight_opens hv hd ho hn hr hnewer hstays h)
  case resuming =>
    have hexec := exec_nightResume hs
    refine ⟨fun h => refuses_of_inserting_reply hs hexec (State.resumeNight_badRequest h),
      fun hv hd => refuses_of_inserting_reply hs hexec (State.resumeNight_notDeclared hv hd), fun hv hd => ?_⟩
    refine ⟨fun h => refuses_of_inserting_reply hs hexec (State.resumeNight_busy hv hd h), fun n hn hsuspended => ?_⟩
    exact ⟨fun h => refuses_of_inserting_reply hs hexec (State.resumeNight_tooLate hv hd hn hsuspended h),
      fun h => sets_night_of_reply hs hexec hv (State.resumeNight_resumes hv hd hn hsuspended h)⟩

/-! ### The closing of a night (R137 to R139) -/

/-- The states in which a closing request is refused: NIGHT ABANDON closes a FINISHING night too (R138). -/
def Night.closedTo (n : Night) (abandon : Bool) : Prop :=
  n.state = .abandoning ∨ (n.state = .finishing ∧ abandon = false)

/-- The state that a closing request gives the night (R137, R138). -/
def lastState (abandon : Bool) : NightState := if abandon = true then .abandoning else .finishing

theorem lastState_closing (abandon : Bool) : (lastState abandon).closing = true := by
  cases abandon <;> rfl

/-- A night has taken its last state and its DAWN entry has left the list, before the test of its end (R137). -/
def State.lastNight (s : State) (v : Nat) (n : Night) (last : NightState) : State :=
  { s.setVolume v { s.volume v with night := some { n with state := last } } with
    deadlines := if n.state = .sending ∨ n.state = .paused then
        (s.deadlines.filter fun d => d.object ≠ .dawn v) else s.deadlines }

theorem State.closeNight_eq (s : State) (v : Nat) (n : Night) (last : NightState) :
    s.closeNight v n last = (s.lastNight v n last).endNightIfDone v := by
  unfold State.closeNight State.lastNight
  cases n.state <;> rfl

theorem State.night_lastNight (s : State) {v : Nat} (hv : v < 16) (n : Night) (last : NightState) :
    ((s.lastNight v n last).volume v).night = some { n with state := last } :=
  congrArg Volume.night (State.volume_setVolume_same s _ hv)

section CloseRequest

variable {s : State} {v : Nat} {abandon : Bool}

/-- The reply to NIGHT DONE or NIGHT ABANDON. -/
def State.closeReply (s : State) (abandon : Bool) (v : Nat) : Reply :=
  if abandon = true then s.abandonNight v else s.finishNight v

theorem exec_nightClose {a : Nat} (h : s.serves a (if abandon = true then .nightAbandon v else .nightDone v)) :
    exec (if abandon = true then .nightAbandon v else .nightDone v) s =
      .next (s.closeReply abandon v).answered := by
  cases abandon with
  | false => exact State.serve_takes h fun s => s.finishNight v
  | true => exact State.serve_takes h fun s => s.abandonNight v

theorem State.closeReply_badRequest (h : 15 < v) : s.closeReply abandon v = s.refuse .badRequest := by
  cases abandon with
  | false => exact if_pos h
  | true => exact if_pos h

theorem State.closeReply_notDeclared (hv : v ≤ 15) (hd : (s.volume v).declared = false) :
    s.closeReply abandon v = s.refuse .notDeclared := by
  cases abandon with
  | false => simp [State.closeReply, State.finishNight, Nat.not_lt.2 hv, hd]
  | true => simp [State.closeReply, State.abandonNight, Nat.not_lt.2 hv, hd]

variable (hv : v ≤ 15) (hd : (s.volume v).declared = true)
include hv hd

theorem State.closeReply_notFound (hn : (s.volume v).night = none) :
    s.closeReply abandon v = s.refuse .notFound := by
  cases abandon with
  | false => simp [State.closeReply, State.finishNight, Nat.not_lt.2 hv, hd, hn]
  | true => simp [State.closeReply, State.abandonNight, Nat.not_lt.2 hv, hd, hn]

variable {n : Night} (hn : (s.volume v).night = some n)
include hn

theorem State.closeReply_busy (h : n.closedTo abandon) : s.closeReply abandon v = s.refuse .busy := by
  cases abandon with
  | false =>
    rcases h with h | ⟨h, _⟩ <;> simp [State.closeReply, State.finishNight, Nat.not_lt.2 hv, hd, hn, h]
  | true =>
    have hstate : n.state = .abandoning := h.resolve_right fun h => Bool.noConfusion h.2
    simp [State.closeReply, State.abandonNight, Nat.not_lt.2 hv, hd, hn, hstate]

theorem State.closeReply_closes (h : ¬ n.closedTo abandon) :
    s.closeReply abandon v = ⟨(s.closeNight v n (lastState abandon)).settlePrecedence, .done, []⟩ := by
  cases abandon with
  | false =>
    cases hstate : n.state with
    | finishing => exact absurd (.inr ⟨hstate, rfl⟩) h
    | abandoning => exact absurd (.inl hstate) h
    | sending | paused | suspended =>
      simp [State.closeReply, State.finishNight, Nat.not_lt.2 hv, hd, hn, hstate, lastState]
  | true =>
    cases hstate : n.state with
    | abandoning => exact absurd (.inl hstate) h
    | sending | paused | suspended | finishing =>
      simp [State.closeReply, State.abandonNight, Nat.not_lt.2 hv, hd, hn, hstate, lastState]

end CloseRequest

/-! ### An answer after which a side may have stopped waiting (R120, R161) -/

/-- Such an answer writes the port and the precedence count and nothing else. -/
theorem Reply.answered_settled {u : State} {a : Nat} {q : Request} (h : u.port.phase = .executing a q)
    (code : ResultCode) (values : List Field) :
    (⟨u.settlePrecedence, code, values⟩ : Reply).answered =
      { u with
        arbiter := { u.arbiter with precedence := u.settlePrecedence.arbiter.precedence }
        port := { u.port with phase := .returning a ⟨code, false, values⟩ } } := by
  have hsettled := (State.settlePrecedence_spec u).1
  generalize u.settlePrecedence.arbiter.precedence = count at hsettled
  rw [hsettled]
  exact Reply.answered_eq h

/-- A state after that answer, related to the state before the count was settled. -/
theorem answers_of_settled {i : Instr} {s u : State} {a : Nat} {q : Request} {code : ResultCode}
    {values : List Field} (hexec : exec i s = .next (⟨u.settlePrecedence, code, values⟩ : Reply).answered)
    (hphase : u.port.phase = .executing a q) :
    ∃ t, exec i s = .next t ∧ t.arbiter = { u.arbiter with precedence := t.arbiter.precedence } ∧
      (t.arbiter.precedence = u.arbiter.precedence ∨ t.arbiter.precedence = 0) ∧
      Answers u t a code values [] ∧ Unchanged [.arbiter, .port] u t := by
  refine ⟨_, hexec, ?_⟩
  rw [Reply.answered_settled hphase]
  refine ⟨rfl, (State.settlePrecedence_spec u).2, rfl, fun b hb => ?_⟩
  cases b with
  | arbiter | port => simp at hb
  | _ => rfl

/-- Settles O42: the checks in their order, and then the two outcomes of a closed night, with permits outstanding and
without. -/
theorem nightDoneAndAbandonCloseTheNight : Obligations.NightDoneAndAbandonCloseTheNight := by
  intro s a v abandon i r last x hs
  have hexec := exec_nightClose hs
  refine ⟨fun h => refuses_of_reply hs hexec (State.closeReply_badRequest h),
    fun hv hd => refuses_of_reply hs hexec (State.closeReply_notDeclared hv hd), fun hv hd => ?_⟩
  refine ⟨fun hn => refuses_of_reply hs hexec (State.closeReply_notFound hv hd hn), fun n hn => ?_⟩
  refine ⟨fun h => refuses_of_reply hs hexec (State.closeReply_busy hv hd hn h), fun h => ?_⟩
  intro m closed
  have hnight : (closed.volume v).night = some m := State.night_lastNight s (Nat.lt_succ_of_le hv) n last
  have hstep : exec i s =
      .next (⟨(closed.endNightIfDone v).settlePrecedence, .done, []⟩ : Reply).answered := by
    rw [State.closeReply_closes hv hd hn h, State.closeNight_eq] at hexec
    exact hexec
  by_cases hpermits : n.permits = 0
  case pos =>
    have hends : NightEnds closed (closed.endNightIfDone v) v m :=
      State.endNightIfDone_done closed hnight (lastState_closing abandon) hpermits
    have ⟨_, _, hport, hframe⟩ := hends
    have hphase : (closed.endNightIfDone v).port.phase = .executing a r := by
      rw [hport, Port.raises_phase]; exact hs.2
    have harbiter : (closed.endNightIfDone v).arbiter = s.arbiter := hframe .arbiter (by simp)
    obtain ⟨t, ht, hkeeps, hcount, hanswers, hunchanged⟩ := answers_of_settled hstep hphase
    rw [harbiter] at hkeeps hcount
    exact ⟨t, ht, hkeeps, hcount, fun hne => absurd hpermits hne, fun _ => ⟨_, hends, hanswers, hunchanged⟩⟩
  case neg =>
    have hopen : closed.endNightIfDone v = closed :=
      State.endNightIfDone_open closed hnight fun hdone => hpermits hdone.2
    rw [hopen] at hstep
    obtain ⟨t, ht, hkeeps, hcount, hanswers, hunchanged⟩ := answers_of_settled hstep hs.2
    exact ⟨t, ht, hkeeps, hcount, fun _ => ⟨hanswers, hunchanged⟩, fun h0 => absurd h0 hpermits⟩

end Sys2Proof.Machine
end

section
/-! PROOFS. Facts about lists that the proofs below need. The package's modules stand on core Lean alone, whose library
has none of them. -/

namespace Sys2Proof.Machine

section Lists

variable {α β : Type}

/-- In a list whose images are distinct, two members with one image are one member. -/
theorem eq_of_nodup_map {f : α → β} {l : List α} (h : (l.map f).Nodup) {x y : α} (hx : x ∈ l) (hy : y ∈ l)
    (hf : f x = f y) : x = y := by
  induction l with
  | nil => cases hx
  | cons z l ih =>
    obtain ⟨hnew, hrest⟩ := List.nodup_cons.1 h
    have hfresh {w : α} (hw : w ∈ l) : f w ≠ f z := fun heq => hnew (heq ▸ List.mem_map_of_mem hw)
    cases hx with
    | head =>
      cases hy with
      | head => rfl
      | tail _ hy => exact absurd hf.symm (hfresh hy)
    | tail _ hx =>
      cases hy with
      | head => exact absurd hf (hfresh hx)
      | tail _ hy => exact ih hrest hx hy

theorem flatMap_congr_of_mem {l : List α} {f g : α → List β} (h : ∀ x ∈ l, f x = g x) : l.flatMap f = l.flatMap g := by
  simp only [List.flatMap, List.map_congr_left h]

theorem nodup_append_cons {l m : List α} {x : α} : (l ++ x :: m).Nodup ↔ (x :: (l ++ m)).Nodup :=
  List.perm_middle.nodup_iff

theorem sum_le_of_sublist {l m : List Nat} (h : l.Sublist m) : l.sum ≤ m.sum := by
  induction h with
  | slnil => exact Nat.le_refl 0
  | cons x _ ih => rw [List.sum_cons]; omega
  | cons_cons x _ ih => rw [List.sum_cons, List.sum_cons]; omega

end Lists

end Sys2Proof.Machine
end

section
/-! PROOFS. What a step can do to the part, said once: every command's effect is a path of moves, each of them one
change that a rule of the manual makes, with the conditions under which it is made. The laws that every step keeps are
then proved move by move. -/

namespace Sys2Proof.Machine

/-! ### The changes that moves make -/

/-- A principal's record with its grace maintained (R8). -/
def Principal.maintained (p : Principal) (minute : Nat) : Principal := { p with grace := p.graceAfter minute }

/-- A principal's record is replaced by one with the same id, and re-derived: grace maintenance and the GRACE entry
(R8, R10); the QUOTA STATE record is a move of its own. -/
def State.record (s : State) (p : Principal) : State :=
  { s with
    quota := s.quota.update p.id fun _ => p.maintained s.clock.minute
    deadlines := graceDeadlines p.id p.grace (p.graceAfter s.clock.minute) s.deadlines }

/-- The part with other entries in its held list. -/
def State.withHeld (s : State) (held : List HeldEntry) : State := { s with quota := { s.quota with held := held } }

/-- The part with the entry of a principal and a station set in the contribution map (R5). -/
def State.mapped (s : State) (id station value : Nat) : State :=
  { s with quota := { s.quota with contributions := setContribution id station value s.quota.contributions } }

/-- A principal joins the table (R14). -/
def State.added (s : State) (p : Principal) : State :=
  { s with
    quota := { s.quota with principals := insertPrincipal p s.quota.principals }
    deadlines := graceDeadlines p.id .absent p.grace s.deadlines }

/-- The fields of a principal's record are in the ranges of R2. -/
def Principal.inRange (p : Principal) : Prop :=
  (1 ≤ p.id ∧ p.id ≤ max32) ∧ (1 ≤ p.hard ∧ p.hard ≤ max32) ∧ p.soft ≤ p.hard ∧ p.period ≤ 65535 ∧
  p.lc ≤ max32 ∧ p.la ≤ max32

/-- A held entry is a RESTORE entry (R28). -/
def HeldEntry.isChunk (e : HeldEntry) : Bool :=
  match e.origin with
  | .charge _ => false
  | .restore _ => true

/-- The permit that the arbiter issues next (R123). -/
def State.nextPermit (s : State) (owner : PermitOwner) : Permit :=
  { id := s.arbiter.chooseId, owner := owner, chunk := s.config.chunk }

/-- The arbiter after the issue of a permit, PERMIT ISSUED apart (R123). -/
def State.issued (s : State) (owner : PermitOwner) : Arbiter :=
  { s.arbiter with
    permits := s.arbiter.permits ++ [s.nextPermit owner]
    nextId := (s.arbiter.chooseId + 1) % 256 }

/-- A job to which a chunk has been granted (R40). -/
def Job.grantedChunk (j : Job) (chunk : Nat) : Job :=
  { j with state := .running, charged := j.charged + chunk, permits := j.permits + 1 }

/-- The arbiter without the permits of an id (R124). -/
def Arbiter.withoutPermit (a : Arbiter) (id : Nat) : Arbiter :=
  { a with permits := a.permits.filter fun q => q.id ≠ id }

/-- The arbiter without the expired permits of an id (R128). -/
def Arbiter.withoutExpired (a : Arbiter) (id : Nat) : Arbiter :=
  { a with expired := a.expired.filter fun q => q.id ≠ id }

/-- The arbiter after the timeout of a permit (R127, R128). -/
def Arbiter.reclaimed (a : Arbiter) (p : Permit) : Arbiter :=
  (a.withoutPermit p.id).listExpired { id := p.id, owner := p.owner.expired, chunk := p.chunk }

/-- A job ends, its records apart (R117). -/
def State.jobEnded (s : State) (slot : Nat) (j : Job) : State :=
  { (s.setVolume j.volume ((s.volume j.volume).release j.generation)).setJob slot none with
    quota := s.quota.update j.principal fun p => { p with restoreJobs := p.restoreJobs - 1 }
    arbiter := { s.arbiter with expired := s.arbiter.expired.map (·.disowned slot) } }

/-- The owner of a permit stands: its slot is occupied, or its volume has a night. -/
def State.ownerStands (s : State) : PermitOwner → Bool
  | .job slot _ => (s.job slot).isSome
  | .night volume _ => (s.volume volume).night.isSome

/-- The station is CONFIGURING (R69). -/
def State.isConfiguring (s : State) : Prop := s.peers.station = .configuring

/-- The attempt count's bounds (R50). -/
def Transmitter.attemptsBounded (x : Transmitter) : Prop := x.attempt ≤ 16 ∧ (x.state = .backoff → x.attempt < 16)

/-- The bounds of the tokens (R146): at most the rate and one chunk, and 0 while the line is in force. -/
def State.tokensBounded (s : State) : Prop :=
  s.dup.tokens ≤ s.dup.rate + s.config.chunk ∧ (s.holdInForce = true → s.dup.tokens = 0)

/-- A change of the port that keeps what the laws ask of the port: a FAULT stays, a fetched request fits its
descriptor, the event queue keeps its capacity and the rings stay legal. -/
structure PortStep (s : State) (p : Port) : Prop where
  fault : s.port.requestState = .fault → p.requestState = .fault
  fits : s.fetchedFits → State.fetchedFits { s with port := p }
  events : s.port.events.length ≤ 128 → p.events.length ≤ 128
  rings : RingLaw s → RingLaw { s with port := p }

/-! ### Moves -/

/-- Moves by what the claims about whole commands ask of them: a grant of a CHARGE or of a restore chunk, another
change of a principal's record, a new principal, a change of the transmitter or of the frame record, a change after
which a side may have stopped waiting, the end of the configuration load, the hardware reset, and any other. -/
inductive Tag where
  | quiet
  | charge
  | chunk
  | account
  | add
  | tx
  | unsettled
  | load
  | reset
deriving DecidableEq, Repr

/-- One change that a rule of the manual makes to the part. -/
inductive Move : Tag → State → State → Prop
  | port {s : State} {p : Port} (h : PortStep s p) : Move .quiet s { s with port := p }
  | portReset {s : State} (h : ∀ e ∈ s.quota.held, e.isCharge = false) :
    Move .quiet s { s with port := s.port.afterReset }
  | clock {s : State} {c : Clock}
    (h : s.fetchedFits → s.clock.millis ≤ 999 → s.clock.seconds ≤ 59 → s.clock.minute ≤ max32 →
      c.millis ≤ 999 ∧ c.seconds ≤ 59 ∧ c.minute ≤ max32) : Move .quiet s { s with clock := c }
  | pins {s : State} {pins : Pins} (h : State.holdInForce { s with pins := pins } = false) :
    Move .quiet s { s with pins := pins }
  | hold (s : State) :
    Move .unsettled s { s with pins := { s.pins with offhold := true }, dup := { s.dup with tokens := 0 } }
  | dup {s : State} {d : Duplication} (h : State.tokensBounded { s with dup := d }) :
    Move .unsettled s { s with dup := d }
  | peers {s : State} {p : Peers} (h : p.station = .configuring ↔ s.isConfiguring) :
    Move .quiet s { s with peers := p }
  | bus {s : State} {b : Bus} (hstate : b.tx.state = s.bus.tx.state) (hframe : b.tx.frame = s.bus.tx.frame)
    (hattempt : b.tx.attempt = s.bus.tx.attempt) (hfifo : s.bus.fifo.length ≤ 8 → b.fifo.length ≤ 8) :
    Move .quiet s { s with bus := b }
  | tx {s : State} {x : Transmitter} (h : s.bus.tx.attemptsBounded → x.attemptsBounded) : Move .tx s (s.setTx x)
  | generator {s : State} {g : Generator} : Move .quiet s { s with bus := { s.bus with generator := g } }
  | frameTaken {s : State} (hnone : s.notice.frame = none) (hsome : s.notice.urgent ++ s.notice.normal ≠ []) :
    Move .tx s { s with notice := s.builtNotice }
  | frameDone {s : State}
    (h : ∀ e ∈ s.quota.held, s.frozen e = false → s.inFrame e.principal = true → e.principal ∈ s.notice.urgent) :
    Move .tx s { s with notice := { s.notice with frame := none } }
  | frameReturned (s : State) : Move .tx s s.returnFrame
  | sweep {s : State} {n : Notice} (hu : n.urgent = s.notice.urgent) (hn : n.normal = s.notice.normal)
    (hf : n.frame = s.notice.frame) : Move .quiet s { s with notice := n }
  | queueNormal {s : State} {id : Nat} (h : (s.principal id).isSome = true) : Move .quiet s (s.queueNormal id)
  | queueUrgent {s : State} {id : Nat} (h : (s.principal id).isSome = true ∨ s.inFrame id = true) :
    Move .quiet s (s.queueUrgent id)
  | charge {s : State} {p : Principal} {n : Nat} (h : s.principal p.id = some p)
    (hlimit : p.cls = .limited → p.campus + n ≤ p.hard) : Move .charge s (s.record (p.charged n))
  | chunk {s : State} {p : Principal} {n : Nat} (h : s.principal p.id = some p)
    (hlimit : p.cls = .limited → p.campus + n ≤ s.restoreLimit p) : Move .chunk s (s.record (p.charged n))
  | account {s : State} {p : Principal} {soft hard period lc : Nat} (h : s.principal p.id = some p) (hlc : lc ≤ p.lc)
    (hrange : s.fetchedFits → p.inRange →
      { p with soft := soft, hard := hard, period := period, lc := lc }.inRange) :
    Move .account s (s.record { p with soft := soft, hard := hard, period := period, lc := lc })
  | contribute {s : State} {p : Principal} {station value : Nat} (h : s.principal p.id = some p)
    (hother : station ≠ s.straps.station) :
    Move .account s ((s.mapped p.id station value).record
      { p with remote := p.remote - s.quota.contribution p.id station + value })
  | announce {s : State} {f : FrameRecord} {e : NoticeEntry} (hf : s.notice.frame = some f) (he : e ∈ f.entries) :
    Move .quiet s (s.announce e)
  | add {s : State} {p : Principal} (hnew : s.principal p.id = none)
    (hslot : p.slot = lowestFreeSlot s.quota.principals 0) (hroom : p.slot ≤ 65535)
    (hremote : p.remote = 0) (hjobs : p.restoreJobs = 0) (hrange : s.fetchedFits → p.inRange) :
    Move .add s (s.added p)
  | drop {s : State} {id : Nat} {p : Principal} (h : s.principal id = some p) (hused : s.inUse p = false)
    (hframe : s.inFrame id = false) : Move .account s (s.dropPrincipal id)
  | run (s : State) : Move .unsettled s s.expiryRun
  | takeRun (s : State) : Move .quiet s s.takeRun
  | settle (s : State) : Move .quiet s s.settlePrecedence
  | precedence {s : State} {n : Nat} (h : s.arbiter.precedence ≤ s.config.restoreWeight → n ≤ s.config.restoreWeight) :
    Move .unsettled s (s.setPrecedence n)
  | heldCharge {s : State} {e : HeldEntry} (hcharge : e.isChunk = false) (hroom : s.quota.held.length < 32)
    (hurgent : e.principal ∈ s.notice.urgent) : Move .quiet s (s.withHeld (s.quota.held ++ [e]))
  | heldAges (s : State) : Move .quiet s (s.withHeld (s.quota.held.map s.agedHeld))
  | heldLeaves {s : State} {held : List HeldEntry} (hsub : held.Sublist s.quota.held)
    (hchunks : held.filter (·.isChunk) = s.quota.held.filter (·.isChunk)) : Move .quiet s (s.withHeld held)
  | strayLeaves {s : State} {l₁ l₂ : List HeldEntry} {e : HeldEntry} {slot : Nat}
    (hheld : s.quota.held = l₁ ++ e :: l₂) (horigin : e.origin = .restore slot) (hjob : s.job slot = none) :
    Move .quiet s (s.withHeld (l₁ ++ l₂))
  | heldChunk {s : State} {slot : Nat} {j : Job} (hjob : s.job slot = some j) (hwaits : j.waiting = true)
    (hslots : s.slotsInUse < s.config.readSlots) (hroom : s.quota.held.length < 32)
    (hurgent : j.principal ∈ s.notice.urgent) :
    Move .unsettled s ((s.withHeld (s.quota.held ++
      [{ origin := .restore slot, principal := j.principal, amount := s.config.chunk }])).setJob slot
        (some { j with state := .syncWait }))
  | chunkLeaves {s : State} {held : List HeldEntry} {slot : Nat} {j : Job} {state : JobState} {deferred : Bool}
    (hjob : s.job slot = some j) (hstate : state ≠ .syncWait)
    (hheld : (∃ l₁ e l₂, s.quota.held = l₁ ++ e :: l₂ ∧ e.origin = .restore slot ∧ held = l₁ ++ l₂) ∨
      (j.state = .syncWait ∧ held = s.quota.held.filter fun e => e.origin ≠ .restore slot)) :
    Move .quiet s ((s.withHeld held).setJob slot (some { j with state := state, deferred := deferred }))
  | chunkGranted {s : State} {slot : Nat} {j : Job} (hjob : s.job slot = some j) (hwaits : j.waiting = true)
    (hslots : s.slotsInUse < s.config.readSlots) :
    Move .unsettled s
      { s.setJob slot (some (j.grantedChunk s.config.chunk)) with arbiter := s.issued (.job slot j.principal) }
  | heldGranted {s : State} {slot : Nat} {j : Job} {l₁ l₂ : List HeldEntry} {e : HeldEntry}
    (hjob : s.job slot = some j) (hheld : s.quota.held = l₁ ++ e :: l₂) (horigin : e.origin = .restore slot) :
    Move .quiet s
      { (s.withHeld (l₁ ++ l₂)).setJob slot (some (j.grantedChunk e.amount)) with
        arbiter := s.issued (.job slot j.principal) }
  | job {tag : Tag} {s : State} {slot : Nat} {j : Job} {state : JobState} {deferred : Bool}
    (hjob : s.job slot = some j) (hfrom : j.state ≠ .syncWait) (hto : state ≠ .syncWait)
    (htag : tag = .unsettled ∨
      (tag = .quiet ∧ (j.waiting = true → { j with state := state, deferred := deferred }.waiting = true))) :
    Move tag s (s.setJob slot (some { j with state := state, deferred := deferred }))
  | departure (s : State) :
    Move .quiet s { s with jobs := s.jobs.map fun j => j.map fun j => { j with deferred := false } }
  | pointer (s : State) (slot : Nat) : Move .quiet s (s.pointedAt slot)
  | permitAges (s : State) : Move .quiet s { s with arbiter := s.arbiter.ticked }
  | permitStray {s : State} {p : Permit} {a : Arbiter} (hp : p ∈ s.arbiter.permits)
    (howner : s.ownerStands p.owner = false) (hcount : a.precedence = s.arbiter.precedence)
    (hcap : s.arbiter.expired.length ≤ 32 → a.expired.length ≤ 32) : Move .quiet s { s with arbiter := a }
  | expiredLeaves (s : State) (id : Nat) : Move .quiet s { s with arbiter := s.arbiter.withoutExpired id }
  | jobReturn {s : State} {p : Permit} {slot principal moved : Nat} {j : Job} (hp : p ∈ s.arbiter.permits)
    (howner : p.owner = .job slot principal) (hjob : s.job slot = some j) (hmoved : moved ≤ p.chunk) :
    Move .quiet s { s.setJob slot (some { j.returned p.chunk moved with permits := j.permits - 1 }) with
      arbiter := s.arbiter.withoutPermit p.id }
  | jobExpire {s : State} {p : Permit} {slot principal : Nat} {j : Job} (hp : p ∈ s.arbiter.permits)
    (howner : p.owner = .job slot principal) (hjob : s.job slot = some j) :
    Move .quiet s { s.setJob slot (some { j with expired := j.expired + 1, permits := j.permits - 1 }) with
      arbiter := s.arbiter.reclaimed p }
  | jobLate {s : State} {e : ExpiredPermit} {slot principal moved : Nat} {j : Job} (he : e ∈ s.arbiter.expired)
    (howner : e.owner = .job slot principal) (hjob : s.job slot = some j) (hmoved : moved ≤ e.chunk) :
    Move .quiet s { s.setJob slot (some (j.returned e.chunk moved)) with
      arbiter := s.arbiter.withoutExpired e.id }
  | nightReturn {s : State} {p : Permit} {v generation moved : Nat} {n : Night} (hp : p ∈ s.arbiter.permits)
    (howner : p.owner = .night v generation) (hnight : (s.volume v).night = some n) :
    Move .unsettled s { s.setVolume v { s.volume v with
        night := some { n with remaining := n.remaining - moved, permits := n.permits - 1 } } with
      arbiter := s.arbiter.withoutPermit p.id }
  | nightExpire {s : State} {p : Permit} {v generation : Nat} {n : Night} (hp : p ∈ s.arbiter.permits)
    (howner : p.owner = .night v generation) (hnight : (s.volume v).night = some n) :
    Move .quiet s { s.setVolume v { s.volume v with night := some { n with permits := n.permits - 1 } } with
      arbiter := s.arbiter.reclaimed p }
  | nightIssue {s : State} {v : Nat} {n : Night} (hnight : (s.volume v).night = some n)
    (hslots : s.slotsInUse < s.config.readSlots) :
    Move .unsettled s { s.setVolume v { s.volume v with night := some { n with permits := n.permits + 1 } } with
      arbiter := { s.issued (.night v n.generation) with volumePointer := v }
      dup := { s.dup with tokens := s.dup.tokens - s.config.chunk } }
  | night {s : State} {v remaining : Nat} {n : Night} {state : NightState} (hnight : (s.volume v).night = some n)
    (hstate : state = n.state ∨ ((n.state = .sending ∨ n.state = .paused) ∧ (state = .sending ∨ state = .paused))) :
    Move .unsettled s (s.setVolume v { s.volume v with
      night := some { n with state := state, remaining := remaining } })
  | nightOpens {s : State} {v generation backlog dawn : Nat} {r : Snapshot} {state : NightState} (hv : v < 16)
    (hdeclared : (s.volume v).declared = true) (hnight : (s.volume v).night = none)
    (hsnapshot : (s.volume v).snapshot generation = some r) (hlocal : r.status = .localOnly)
    (hbase : ∀ b, (s.volume v).base = some b → b < generation) (hstays : r.retirePending = false)
    (hstate : state = .sending ∨ state = .paused) :
    Move .quiet s (s.setNight v
      { (s.volume v).update generation fun r => { r with status := .sending, holds := r.holds + 1 } with
        night := some { state := state, generation := generation, remaining := backlog, dawn := dawn } } dawn)
  | nightResumes {s : State} {v dawn : Nat} {n : Night} {state : NightState}
    (hnight : (s.volume v).night = some n) (hsuspended : n.state = .suspended)
    (hstate : state = .sending ∨ state = .paused) :
    Move .quiet s (s.setNight v { s.volume v with night := some { n with state := state, dawn := dawn } } dawn)
  | nightCloses {s : State} {v : Nat} {n : Night} {last : NightState} (hnight : (s.volume v).night = some n)
    (hlast : last.closing = true) : Move .unsettled s (s.lastNight v n last)
  | nightEnds {s : State} {v : Nat} {n : Night} (hnight : (s.volume v).night = some n)
    (hclosing : n.state.closing = true) (hpermits : n.permits = 0) :
    Move .quiet s (s.setVolume v ((s.volume v).endNight n))
  | declare {s : State} {v : Nat} {offsite : Bool} :
    Move .quiet s (s.setVolume v { s.volume v with declared := true, offsite := offsite })
  | create {s : State} {v generation : Nat} (hdeclared : (s.volume v).declared = true)
    (hnewer : ∀ newest ∈ (s.volume v).newest, newest < generation) (hroom : (s.volume v).snapshots.length < 64) :
    Move .quiet s (s.setVolume v { s.volume v with
      snapshots := (s.volume v).snapshots ++ [{ generation := generation, created := s.clock.minute }] })
  | retireLater {s : State} {v generation : Nat} {r : Snapshot} (hr : (s.volume v).snapshot generation = some r)
    (hbase : (s.volume v).base ≠ some generation) (hstatus : r.status ≠ .sending) (hholds : 0 < r.holds) :
    Move .quiet s (s.setVolume v ((s.volume v).update generation fun r => { r with retirePending := true }))
  | retireNow {s : State} {v generation : Nat} {r : Snapshot} (hr : (s.volume v).snapshot generation = some r)
    (hbase : (s.volume v).base ≠ some generation) (hholds : r.holds = 0) :
    Move .quiet s (s.setVolume v ((s.volume v).remove generation))
  | jobStarts {s : State} {slot tag v generation principal : Nat} {r : Snapshot} {p : Principal} (hslot : slot < 8)
    (hfree : s.job slot = none) (hv : v < 16) (hprincipal : s.principal principal = some p)
    (hdeclared : (s.volume v).declared = true) (hsnapshot : (s.volume v).snapshot generation = some r)
    (hstays : r.retirePending = false) :
    Move .quiet s { (s.setVolume v ((s.volume v).hold generation)).setJob slot (some
        { tag := tag, volume := v, generation := generation, principal := principal }) with
      quota := s.quota.update principal fun p => { p with restoreJobs := p.restoreJobs + 1 } }
  | jobEnds {s : State} {slot : Nat} {j : Job} (hjob : s.job slot = some j) (hclosing : j.state.closing = true)
    (hpermits : j.permits = 0) : Move .quiet s (s.jobEnded slot j)
  | load {s : State} {l : Loader} {p : Peers} {n : Notice} {b : Bus} (h : s.isConfiguring)
    (hloader : legalConfig l.config ∧ l.clamped ≤ 19 ∧ (l.source = .defaults → l.config = {} ∧ l.clamped = 0))
    (hstation : p.station ≠ .configuring) (hu : n.urgent = s.notice.urgent) (hn : n.normal = s.notice.normal)
    (hf : n.frame = s.notice.frame) (hstate : b.tx.state = .idle) (hframe : b.tx.frame = s.bus.tx.frame)
    (hattempt : b.tx.attempt = s.bus.tx.attempt) (hfifo : b.fifo = s.bus.fifo) :
    Move .load s { s with loader := l, peers := p, notice := n, bus := b }
  | reset {s : State} {straps : Straps} {g : Generator} {line : Line} :
    Move .reset s { State.reset with
      straps := straps, pins := s.pins, bus := { generator := g, line := line }, pending := s.pending }

/-- A path of moves, of the tags that are allowed. -/
inductive Path (allows : Tag → Bool) : State → State → Prop
  | refl (s : State) : Path allows s s
  | tail {s t u : State} {k : Tag} : Path allows s t → allows k = true → Move k t u → Path allows s u

/-- The moves that a command can make. -/
def tagsOf : Instr → Tag → Bool
  | .charge _ _ | .blockedChargeReexecution => fun k => k = .quiet || k = .charge
  | .transmitCompletion => fun k => k = .quiet || k = .charge || k = .chunk || k = .tx
  | .arbiterChoice => fun k => k = .quiet || k = .chunk || k = .unsettled
  | .principalAdd _ _ _ _ _ _ => fun k => k = .quiet || k = .add
  | .jamEnd | .holdoffEnd | .backoffEnd | .interframeGapComplete | .collision | .transmitterTakeFrame
  | .burstReceived _ => fun k => k = .quiet || k = .tx
  | .configLoadEnd _ | .configLoadBusHeld => fun k => k = .quiet || k = .load
  | .hardwareReset _ _ => fun k => k = .quiet || k = .reset
  | .offholdRise | .reload | .clockSet _ | .permitDone _ _ | .restoreEnd _ _ | .restoreCancel _ _
  | .nightDone _ | .nightAbandon _ => fun k => k = .quiet || k = .account || k = .unsettled
  | _ => fun k => k = .quiet || k = .account

end Sys2Proof.Machine
end

section
/-! PROOFS. The paths of moves of the operations that the blocks share: records raised, answers, wake-ups,
re-derivations, grants, the expiry test, and the held entries at sync. -/

namespace Sys2Proof.Machine

/-! ### Paths -/

theorem Path.trans {A : Tag → Bool} {s t u : State} (h : Path A s t) (k : Path A t u) : Path A s u := by
  induction k with
  | refl => exact h
  | tail _ hk hm ih => exact ih.tail hk hm

theorem Path.of {A : Tag → Bool} {s t : State} {k : Tag} (h : Move k s t) (hk : A k = true) : Path A s t :=
  .tail (.refl s) hk h

/-- A law that every allowed move keeps is kept by a path. -/
theorem Path.keeps {A : Tag → Bool} {L : State → Prop} (hL : ∀ {k s t}, A k = true → Move k s t → L s → L t)
    {s t : State} (h : Path A s t) (hs : L s) : L t := by
  induction h with
  | refl => exact hs
  | tail _ hk hm ih => exact hL hk hm ih

theorem Path.mono {A B : Tag → Bool} (hAB : ∀ k, A k = true → B k = true) {s t : State} (h : Path A s t) :
    Path B s t :=
  h.keeps (L := Path B s) (fun hk hm hp => hp.trans (.of hm (hAB _ hk))) (.refl s)

/-! ### Changes of the port that its laws do not see -/

/-- A change of the port that leaves the states, rings, phase and post in progress alone, and does not lengthen the
event queue past its capacity. -/
theorem PortStep.of_core {s : State} {p : Port} (hrs : p.requestState = s.port.requestState)
    (hes : p.eventState = s.port.eventState) (hrr : p.requestRing = s.port.requestRing)
    (her : p.eventRing = s.port.eventRing) (hph : p.phase = s.port.phase) (hpo : p.posting = s.port.posting)
    (hev : s.port.events.length ≤ 128 → p.events.length ≤ 128) : PortStep s p where
  fault h := by rw [hrs, h]
  fits h := by simpa only [State.fetchedFits, hph] using h
  events := hev
  rings h := by simpa only [RingLaw, hrs, hes, hrr, her, hpo] using h

theorem Port.raise_events_length (p : Port) (e : EventRecord) (h : p.events.length ≤ 128) :
    (p.raise e).events.length ≤ 128 := by
  rcases p.raise_spec e with ⟨hroom, he⟩ | ⟨_, he⟩
  · rw [he]; simp; omega
  · rw [he]; simpa using h

theorem Port.raises_events_length (p : Port) (l : List EventRecord) (h : p.events.length ≤ 128) :
    (p.raises l).events.length ≤ 128 := by
  induction l generalizing p with
  | nil => exact h
  | cons e l ih => exact ih _ (p.raise_events_length e h)

theorem PortStep.raises (s : State) (l : List EventRecord) : PortStep s (s.port.raises l) :=
  .of_core (by simp) (by simp) (by simp) (by simp) (by simp) (by simp) (Port.raises_events_length _ _)

/-- A flag set over a change of the port that its laws do not see. -/
theorem PortStep.setFlag {s : State} {p : Port} (h : PortStep s p) (f : Flag) : PortStep s (p.setFlag f) where
  fault := h.fault
  fits := h.fits
  events := h.events
  rings := h.rings

section Quiet

variable {A : Tag → Bool} (hA : A .quiet = true)
include hA

theorem Path.port {s : State} {p : Port} (h : PortStep s p) : Path A s { s with port := p } := .of (.port h) hA

theorem Path.raises (s : State) (l : List EventRecord) : Path A s { s with port := s.port.raises l } :=
  .port hA (.raises s l)

theorem Path.raise (s : State) (e : EventRecord) : Path A s (s.raise e) := .raises hA s [e]

/-- The answer of a request is a change of the phase alone (R161). -/
theorem Path.respond (s : State) (code : ResultCode) (values : List Field) : Path A s (s.respond code values) := by
  unfold State.respond
  split
  · rename_i address r hphase
    exact .port hA
      { fault := id, fits := fun _ => trivial, events := id, rings := id }
  · exact .refl s

theorem Path.answerHeld (s : State) (address : Nat) (code : ResultCode) : Path A s (s.answerHeld address code) :=
  .port hA (.of_core rfl rfl rfl rfl rfl rfl id)

/-! ### Departures, wake-ups and re-derivations -/

theorem Path.departure (s : State) : Path A s s.departure :=
  .trans (.of (.departure s) hA) (.port hA (.of_core rfl rfl rfl rfl rfl rfl id))

theorem Path.wakeJob (s : State) (id k : Nat) : Path A s (s.wakeJob id k) := by
  unfold State.wakeJob
  split
  · exact .refl s
  · rename_i j hj
    split
    · rename_i hw
      refine .trans (.of (.job (state := .running) (deferred := j.deferred) hj ?_ nofun (.inr ⟨rfl, ?_⟩)) hA)
        (.raise hA _ _)
      · simp [hw.2]
      · intro h
        simp [Job.waiting, hw.2] at h
    · exact .refl s

theorem Path.wake (s : State) (id : Nat) : Path A s (s.wake id) := by
  have fold (l : List Nat) (t : State) : Path A t (l.foldl (fun s k => s.wakeJob id k) t) := by
    induction l generalizing t with
    | nil => exact .refl t
    | cons k l ih => exact .trans (.wakeJob hA t id k) (ih _)
  unfold State.wake
  split
  · exact .refl s
  · split
    · exact fold _ _
    · exact .refl s

omit hA in
/-- A re-derivation is the writing of the record and its QUOTA STATE (R10). -/
theorem State.rederive_eq_record {s : State} {id : Nat} (cause : QuotaCause) (op : Principal → Principal)
    {p : Principal} (h : s.principal id = some p) (hid : (op p).id = id) :
    s.rederive id cause op =
      { s.record (op p) with
        port := s.port.raises (quotaRecords p ((op p).maintained s.clock.minute) cause) } := by
  subst hid
  rw [State.rederive_eq s cause op h]
  rfl

theorem Path.rederive {s : State} {id : Nat} (cause : QuotaCause) (op : Principal → Principal) {p : Principal}
    (h : s.principal id = some p) (hid : (op p).id = id) {k : Tag} (hk : A k = true)
    (hmove : Move k s (s.record (op p))) : Path A s (s.rederive id cause op) := by
  rw [State.rederive_eq_record cause op h hid]
  exact .trans (.of hmove hk) (.raises hA (s.record (op p)) _)

omit hA in
theorem State.isSome_principal_rederive {s : State} {id : Nat} (cause : QuotaCause) (op : Principal → Principal)
    {p : Principal} (h : s.principal id = some p) (hid : (op p).id = id) :
    ((s.rederive id cause op).principal id).isSome = true := by
  rw [State.principal_rederive_same s cause op h hid]; rfl

/-! ### Grants, credits and contribution updates -/

/-- A grant is a move of a record with its QUOTA STATE, and of the notice queue (R26, R27). -/
theorem Path.grant_of_move (s : State) (id n : Nat) (cause : QuotaCause) {k : Tag} (hk : A k = true)
    (hmove : ∀ p, s.principal id = some p → Move k s (s.record (p.charged n))) : Path A s (s.grant id n cause) := by
  cases h : s.principal id with
  | none => rw [State.grant_none s n cause h]; exact .refl s
  | some p =>
    have hid : (p.charged n).id = id := by rw [Principal.charged_id]; exact State.principal_id h
    have hr := Path.rederive hA cause (fun p => p.charged n) h hid hk (hmove p h)
    rw [State.grant_eq s n cause h]
    dsimp only
    split
    · exact hr.trans (.of (.queueNormal (State.isSome_principal_rederive cause _ h hid)) hA)
    · exact hr

theorem Path.credit (s : State) (id n : Nat) (cause : QuotaCause) (hk : A .account = true) :
    Path A s (s.credit id n cause) := by
  cases h : s.principal id with
  | none => rw [State.credit_none s n cause h]; exact .refl s
  | some p =>
    have hid := State.principal_id h
    have hmove : Move .account s (s.record { p with lc := p.lc - n }) :=
      .account (soft := p.soft) (hard := p.hard) (period := p.period) (by rw [hid, h]) (Nat.sub_le _ _)
        (fun _ ⟨h1, h2, h3, h4, h5, h6⟩ => ⟨h1, h2, h3, h4, Nat.le_trans (Nat.sub_le _ _) h5, h6⟩)
    have hr := Path.rederive hA cause (fun p => { p with lc := p.lc - n }) h hid hk hmove
    have hq (c : Prop) [Decidable c] : Path A s
        (if c then (s.rederive id cause fun p => { p with lc := p.lc - n }).queueNormal id
        else s.rederive id cause fun p => { p with lc := p.lc - n }) := by
      split
      · exact hr.trans (.of (.queueNormal (State.isSome_principal_rederive cause _ h hid)) hA)
      · exact hr
    rw [State.credit_eq s n cause h]
    dsimp only
    split
    · exact (hq _).trans (.wake hA _ id)
    · exact hq _

theorem Path.contribute (s : State) (id station value : Nat) (cause : QuotaCause) (hk : A .account = true) :
    Path A s (s.contribute id station value cause) := by
  unfold State.contribute
  split
  · exact .refl s
  · rename_i p h
    split
    · exact .refl s
    · rename_i hst
      obtain rfl := State.principal_id h
      dsimp only
      have hr : Path A s ((s.mapped p.id station value).rederive p.id cause fun q =>
          { q with remote := p.remote - s.quota.contribution p.id station + value }) := by
        have he := State.rederive_eq_record (s := s.mapped p.id station value) (p := p) cause
          (fun q => { q with remote := p.remote - s.quota.contribution p.id station + value }) h rfl
        rw [he]
        exact .trans (.of (.contribute h hst) hk) (.raises hA ((s.mapped p.id station value).record _) _)
      split
      · exact hr.trans (.wake hA _ p.id)
      · exact hr

/-! ### The end of an operation and of a request -/

theorem Path.insertionTest (s before : State) : Path A s (s.insertionTest before) := by
  unfold State.insertionTest
  split
  · exact .of (.takeRun s) hA
  · exact .refl s

theorem Path.answered {s : State} {r : Reply} (h : Path A s r.state) : Path A s r.answered :=
  h.trans (.respond hA _ _ _)

end Quiet

/-- The state of a refusal is that in which it was made. -/
theorem Path.refuse {A : Tag → Bool} (s : State) (code : ResultCode) : Path A s (s.refuse code).state := .refl s

/-! ### The outcome of a command -/

/-- A command answers with a state that a path of the moves allowed to it reaches. -/
def ReachedBy (A : Tag → Bool) (o : Host.Outcome State Fault Refusal) (s : State) : Prop :=
  ∃ t, o = .next t ∧ Path A s t

theorem ReachedBy.intro {A : Tag → Bool} {s t : State} (h : Path A s t) : ReachedBy A (.next t) s :=
  ⟨t, rfl, h⟩

theorem State.serve_reached {A : Tag → Bool} (hA : A .quiet = true) {s : State} {r : Request}
    {execute : State → Reply} (h : s.takes r = true → Path A s (execute s).state) :
    ReachedBy A (s.serve r execute) s := by
  refine .intro ?_
  split
  · rename_i ht; exact .answered hA (h ht)
  · exact .refl s

theorem State.serveInserting_reached {A : Tag → Bool} (hA : A .quiet = true) {s : State} {r : Request}
    {execute : State → Reply} (h : s.takes r = true → Path A s (execute s).state) :
    ReachedBy A (s.serveInserting r execute) s := by
  refine .intro ?_
  split
  · rename_i ht; exact .trans (.answered hA (h ht)) (.insertionTest hA _ s)
  · exact .refl s

end Sys2Proof.Machine
end

section
/-! PROOFS. The held entries at sync (R31, R33, R42): what the evaluation of an entry decides, what becomes of it, and
the path of moves by which the entries of the carried principals are resolved. -/

namespace Sys2Proof.Machine

/-! ### What an evaluation means for the limits (R22, R39) -/

/-- The first four steps end with one of three verdicts or go on to the share test. -/
theorem State.firstSteps_cases (s : State) (id n : Nat) :
    s.firstSteps id n = some .unknown ∨ s.firstSteps id n = some .granted ∨ s.firstSteps id n = some .overQuota ∨
    (s.firstSteps id n = none ∧ ∃ p, s.principal id = some p) := by
  unfold State.firstSteps
  cases h : s.principal id with
  | none => exact .inl rfl
  | some p =>
    dsimp only
    split
    · exact .inr (.inl rfl)
    · split
      · exact .inr (.inr (.inl rfl))
      · exact .inr (.inr (.inl rfl))
      all_goals
        split
        · exact .inr (.inr (.inl rfl))
        · exact .inr (.inr (.inr ⟨rfl, p, rfl⟩))

theorem State.firstChunkSteps_cases (s : State) (id n : Nat) :
    s.firstChunkSteps id n = some .granted ∨ s.firstChunkSteps id n = some .overQuota ∨
    (s.firstChunkSteps id n = none ∧ ∃ p, s.principal id = some p) := by
  unfold State.firstChunkSteps
  cases h : s.principal id with
  | none => exact .inr (.inl rfl)
  | some p =>
    dsimp only
    split
    · exact .inl rfl
    · split
      · exact .inr (.inl rfl)
      · exact .inr (.inr ⟨rfl, p, rfl⟩)

/-- Without its share test an evaluation grants what the test alone would not have (R33). -/
theorem State.shareTest_shareFree (s : State) (p : Principal) (limit n : Nat) :
    (s.shareTest p limit n).shareFree = .granted := by
  unfold State.shareTest
  split
  · rfl
  · split
    · rfl
    · split <;> rfl

theorem State.evaluateFirst_eq (s : State) (id n : Nat) : s.evaluateFirst id n = (s.evaluate id n).shareFree := by
  unfold State.evaluateFirst State.evaluate
  rcases s.firstSteps_cases id n with h | h | h | ⟨h, p, hp⟩
  · simp [h, Verdict.shareFree]
  · simp [h, Verdict.shareFree]
  · simp [h, Verdict.shareFree]
  · simp [h, hp, State.shareTest_shareFree]

theorem State.evaluateFirstChunk_eq (s : State) (id n : Nat) :
    s.evaluateFirstChunk id n = (s.evaluateChunk id n).shareFree := by
  unfold State.evaluateFirstChunk State.evaluateChunk
  rcases s.firstChunkSteps_cases id n with h | h | ⟨h, p, hp⟩
  · simp [h, Verdict.shareFree]
  · simp [h, Verdict.shareFree]
  · simp [h, hp, State.shareTest_shareFree]

/-- A CHARGE that its limits let pass leaves the principal within H (R22 step 4). -/
theorem State.campus_le_of_evaluate {s : State} {id n : Nat} {p : Principal} (h : s.evaluate id n ≠ .overQuota)
    (hp : s.principal id = some p) (hc : p.cls = .limited) : p.campus + n ≤ p.hard := by
  refine Classical.byContradiction fun hover => ?_
  exact h (State.evaluate_overQuota hp hc (.inr (.inr (by omega))))

/-- A restore chunk that its limit lets pass leaves the principal within H' (R39). -/
theorem State.campus_le_of_evaluateChunk {s : State} {id n : Nat} {p : Principal}
    (h : s.evaluateChunk id n ≠ .overQuota) (hp : s.principal id = some p) (hc : p.cls = .limited) :
    p.campus + n ≤ s.restoreLimit p := by
  refine Classical.byContradiction fun hover => ?_
  exact h (State.evaluateChunk_overQuota hp hc (by omega))

/-- Only a principal of the table has its charges held. -/
theorem State.isSome_of_evaluate_held {s : State} {id n : Nat} (h : s.evaluate id n = .held) :
    (s.principal id).isSome = true := by
  cases hp : s.principal id with
  | none => rw [State.evaluate_unknown n hp] at h; cases h
  | some p => rfl

theorem State.isSome_of_evaluateChunk_held {s : State} {id n : Nat} (h : s.evaluateChunk id n = .held) :
    (s.principal id).isSome = true := by
  cases hp : s.principal id with
  | none => simp [State.evaluateChunk, State.firstChunkSteps, hp] at h
  | some p => rfl

/-! ### What becomes of one entry (R33, R42) -/

/-- An entry that would be held again stays. -/
def State.entryStays (s : State) (e : HeldEntry) : Bool × State := (true, s.queueUrgent e.principal)

theorem State.resolveEntry_charge (s : State) (first : Bool) {e : HeldEntry} {address : Nat}
    (h : e.origin = .charge address) :
    s.resolveEntry first e =
      match e.verdict first s with
      | .held => s.entryStays e
      | .granted => (false, ((s.grant e.principal e.amount .charge).answerHeld address
          ((s.grant e.principal e.amount .charge).grantCode e.principal)).insertionTest s)
      | v => (false, s.answerHeld address v.code) := by
  have hv : e.verdict first s = if first then s.evaluateFirst e.principal e.amount
      else s.evaluate e.principal e.amount := by
    simp only [HeldEntry.verdict, h, State.evaluateFirst_eq]
  unfold State.resolveEntry
  simp only [h, hv]
  split <;> rename_i hx <;> simp [hx, Verdict.code, State.entryStays]

theorem State.resolveEntry_restore (s : State) (first : Bool) {e : HeldEntry} {slot : Nat} {j : Job}
    (h : e.origin = .restore slot) (hj : s.job slot = some j) :
    s.resolveEntry first e =
      match e.verdict first s with
      | .held => s.entryStays e
      | .granted => (false, (s.grantChunk slot j e.amount).insertionTest s)
      | _ => (false, s.refuseChunk slot j) := by
  have hv : e.verdict first s = if first then s.evaluateFirstChunk j.principal e.amount
      else s.evaluateChunk j.principal e.amount := by
    simp only [HeldEntry.verdict, h, hj, State.evaluateFirstChunk_eq]
  unfold State.resolveEntry
  simp only [h, hj, hv]
  split <;> rename_i hx <;> simp [hx, State.entryStays]

theorem State.resolveEntry_stray (s : State) (first : Bool) {e : HeldEntry} {slot : Nat}
    (h : e.origin = .restore slot) (hj : s.job slot = none) : s.resolveEntry first e = (false, s) := by
  unfold State.resolveEntry
  simp only [h, hj]

theorem Verdict.ne_overQuota_of_shareFree {v : Verdict} (h : v.shareFree = .granted) : v ≠ .overQuota := by
  rintro rfl; cases h

/-- The full evaluation of an entry that is granted, first or later, did not refuse it for its limits. -/
theorem HeldEntry.ne_overQuota_of_verdict {e : HeldEntry} {first : Bool} {s : State}
    (h : e.verdict first s = .granted) :
    e.verdict false s ≠ .overQuota := by
  cases first with
  | false => rw [h]; nofun
  | true => exact Verdict.ne_overQuota_of_shareFree h

/-- A held CHARGE that sync grants leaves its principal within H. -/
theorem HeldEntry.campus_le_of_charge {e : HeldEntry} {first : Bool} {s : State} {address : Nat}
    (h : e.verdict first s = .granted) (ho : e.origin = .charge address) {p : Principal}
    (hp : s.principal e.principal = some p) (hc : p.cls = .limited) : p.campus + e.amount ≤ p.hard := by
  refine State.campus_le_of_evaluate (s := s) ?_ hp hc
  simpa [HeldEntry.verdict, ho] using HeldEntry.ne_overQuota_of_verdict h

/-- A held chunk that sync grants leaves its principal within H'. -/
theorem HeldEntry.campus_le_of_chunk {e : HeldEntry} {first : Bool} {s : State} {slot : Nat} {j : Job}
    (h : e.verdict first s = .granted) (ho : e.origin = .restore slot) (hj : s.job slot = some j) {p : Principal}
    (hp : s.principal j.principal = some p) (hc : p.cls = .limited) : p.campus + e.amount ≤ s.restoreLimit p := by
  refine State.campus_le_of_evaluateChunk ?_ hp hc
  simpa [HeldEntry.verdict, ho, hj] using HeldEntry.ne_overQuota_of_verdict h

/-! ### The held list stands apart from what resolving an entry reads and writes -/

section WithHeld

variable (s : State) (held : List HeldEntry)

@[simp] theorem State.withHeld_held : (s.withHeld held).quota.held = held := rfl
@[simp] theorem State.withHeld_self : s.withHeld s.quota.held = s := rfl
@[simp] theorem State.withHeld_principal (id : Nat) : (s.withHeld held).principal id = s.principal id := rfl

theorem State.rederive_withHeld (id : Nat) (cause : QuotaCause) (op : Principal → Principal) :
    (s.withHeld held).rederive id cause op = (s.rederive id cause op).withHeld held := by
  cases h : s.principal id with
  | none => rw [State.rederive_none s cause op h]; exact State.rederive_none (s.withHeld held) cause op h
  | some p => rw [State.rederive_eq s cause op h, State.rederive_eq (s.withHeld held) cause op h]; rfl

theorem State.grant_withHeld (id n : Nat) (cause : QuotaCause) :
    (s.withHeld held).grant id n cause = (s.grant id n cause).withHeld held := by
  cases h : s.principal id with
  | none => rw [State.grant_none s n cause h]; exact State.grant_none (s.withHeld held) n cause h
  | some p =>
    rw [State.grant_eq s n cause h, State.grant_eq (s.withHeld held) n cause h, State.rederive_withHeld]
    symm
    exact apply_ite (fun t : State => t.withHeld held) (s.config.reportStep ≤
      (p.charged n).unannounced ∨ p.quotaState ≠ ((p.charged n).maintained s.clock.minute).quotaState) _ _

theorem State.expire_withHeld (d : Deadline) : (s.withHeld held).expire d = (s.expire d).withHeld held := by
  unfold State.expire
  split
  · exact State.rederive_withHeld s held _ _ _
  · unfold State.suspendNight
    rename_i v _
    have hv : (s.withHeld held).volume v = s.volume v := rfl
    rw [hv]
    split
    · rfl
    · split <;> rfl

theorem State.settlePrecedence_withHeld :
    (s.withHeld held).settlePrecedence = s.settlePrecedence.withHeld held := by
  rw [State.settlePrecedence_eq_setPrecedence, State.settlePrecedence_eq_setPrecedence]; rfl

theorem State.takeRun_withHeld : (s.withHeld held).takeRun = s.takeRun.withHeld held := by
  have fold (l : List Deadline) (t : State) :
      l.foldl State.expire (t.withHeld held) = (l.foldl State.expire t).withHeld held := by
    induction l generalizing t with
    | nil => rfl
    | cons d l ih => simp only [List.foldl_cons, State.expire_withHeld, ih]
  unfold State.takeRun
  rw [← State.settlePrecedence_withHeld]
  congr 1
  exact fold _ { s with deadlines := s.deadlines.dropWhile fun d => d.due ≤ s.clock.minute }

theorem State.insertionTest_withHeld (before : State) :
    (s.withHeld held).insertionTest before = (s.insertionTest before).withHeld held := by
  have h : (s.withHeld held).hasInserted before = s.hasInserted before := rfl
  unfold State.insertionTest
  rw [h]
  split
  · exact s.takeRun_withHeld held
  · rfl

theorem State.grantChunk_withHeld (slot : Nat) (j : Job) (chunk : Nat) :
    (s.withHeld held).grantChunk slot j chunk = (s.grantChunk slot j chunk).withHeld held := by
  unfold State.grantChunk
  rw [State.grant_withHeld]
  rfl

end WithHeld

end Sys2Proof.Machine
end

section
/-! PROOFS. The sync as a path of moves: one resolved entry, the held list of one carried principal, and the frame's
principals in the order of its entries (R31, R33, R42). -/

namespace Sys2Proof.Machine

/-! ### What resolving leaves alone -/

/-- What the resolving of entries never changes, and that it takes no principal out of URGENT. -/
def SyncKeeps (s t : State) : Prop :=
  t.port.requestState = s.port.requestState ∧ t.notice.frame = s.notice.frame ∧ s.notice.urgent ⊆ t.notice.urgent

theorem SyncKeeps.refl (s : State) : SyncKeeps s s := ⟨rfl, rfl, fun _ h => h⟩

theorem SyncKeeps.trans {s t u : State} (h : SyncKeeps s t) (k : SyncKeeps t u) : SyncKeeps s u :=
  ⟨k.1.trans h.1, k.2.1.trans h.2.1, fun _ hx => k.2.2 (h.2.2 hx)⟩

theorem SyncKeeps.of_notice {s t : State} (hn : t.notice = s.notice) (hp : t.port.requestState = s.port.requestState) :
    SyncKeeps s t := ⟨hp, by rw [hn], fun _ h => by rw [hn]; exact h⟩

theorem SyncKeeps.frozen {s t : State} (h : SyncKeeps s t) (e : HeldEntry) : t.frozen e = s.frozen e := by
  unfold State.frozen
  rw [h.1]

theorem SyncKeeps.inFrame {s t : State} (h : SyncKeeps s t) (id : Nat) : t.inFrame id = s.inFrame id := by
  unfold State.inFrame
  rw [h.2.1]

theorem State.queueUrgent_keeps (s : State) (id : Nat) : SyncKeeps s (s.queueUrgent id) :=
  ⟨rfl, Notice.queueUrgent_frame _ _, fun _ h => (Notice.queueUrgent_urgent _ _ _).2 (.inr h)⟩

theorem State.queueNormal_keeps (s : State) (id : Nat) : SyncKeeps s (s.queueNormal id) :=
  ⟨rfl, Notice.queueNormal_frame _ _, fun _ h => by rw [State.queueNormal_notice, Notice.queueNormal_urgent]; exact h⟩

theorem State.rederive_keeps (s : State) (id : Nat) (cause : QuotaCause) (op : Principal → Principal) :
    SyncKeeps s (s.rederive id cause op) := by
  refine .of_notice (s.rederive_frame id cause op .notice (by simp)) ?_
  cases h : s.principal id with
  | none => rw [State.rederive_none s cause op h]
  | some p => rw [State.rederive_eq s cause op h]; simp

theorem State.grant_keeps (s : State) (id n : Nat) (cause : QuotaCause) : SyncKeeps s (s.grant id n cause) := by
  cases h : s.principal id with
  | none => rw [State.grant_none s n cause h]; exact .refl s
  | some p =>
    rw [State.grant_eq s n cause h]
    have hr := s.rederive_keeps id cause fun p => p.charged n
    dsimp only
    split
    · exact hr.trans (State.queueNormal_keeps _ id)
    · exact hr

theorem State.insertionTest_keeps (s before : State) : SyncKeeps s (s.insertionTest before) := by
  obtain ⟨hframe, _, _, _, _, ⟨l, hport⟩, _⟩ := s.insertionTest_expired before
  exact .of_notice (hframe .notice (by simp)) (by rw [hport]; simp)

theorem State.resolveEntry_keeps (s : State) (first : Bool) (e : HeldEntry) :
    SyncKeeps s (s.resolveEntry first e).2 ∧
    ((s.resolveEntry first e).1 = true → e.principal ∈ (s.resolveEntry first e).2.notice.urgent) := by
  have stays : SyncKeeps s (s.entryStays e).2 ∧ ((s.entryStays e).1 = true →
      e.principal ∈ (s.entryStays e).2.notice.urgent) :=
    ⟨s.queueUrgent_keeps _, fun _ => (Notice.queueUrgent_urgent _ _ _).2 (.inl rfl)⟩
  cases h : e.origin with
  | charge address =>
    rw [State.resolveEntry_charge s first h]
    split
    · exact stays
    · refine ⟨((s.grant_keeps e.principal e.amount .charge).trans ?_).trans (State.insertionTest_keeps _ s), nofun⟩
      exact .of_notice rfl rfl
    · exact ⟨.of_notice rfl rfl, nofun⟩
  | restore slot =>
    cases hj : s.job slot with
    | none => rw [State.resolveEntry_stray s first h hj]; exact ⟨.refl s, nofun⟩
    | some j =>
      rw [State.resolveEntry_restore s first h hj]
      split
      · exact stays
      · refine ⟨((s.grant_keeps j.principal e.amount .restore).trans ?_).trans (State.insertionTest_keeps _ s), nofun⟩
        exact .of_notice rfl (by simp [State.grantChunk, State.issuePermit])
      · exact ⟨.of_notice rfl (by simp [State.refuseChunk]), nofun⟩

/-- The held entries of a carried principal after they have been resolved: those that stay, unless frozen, have their
principal in URGENT (R33). -/
theorem resolveHeld_keeps (id : Nat) (l : List HeldEntry) (first : Bool) (s : State) :
    let x := resolveHeld id first l s
    SyncKeeps s x.2 ∧ x.1.Sublist l ∧
      ∀ e ∈ x.1, e.principal = id → s.frozen e = false → id ∈ x.2.notice.urgent := by
  induction l generalizing first s with
  | nil => exact ⟨.refl s, .refl _, nofun⟩
  | cons e l ih =>
    unfold resolveHeld
    split
    · rename_i he
      obtain ⟨hkeeps, hurgent⟩ := s.resolveEntry_keeps first e
      dsimp only
      split
      · rename_i hstays
        obtain ⟨ih1, ih2, ih3⟩ := ih false (s.resolveEntry first e).2
        refine ⟨hkeeps.trans ih1, ih2.cons_cons e, fun y hy hid hfrozen => ?_⟩
        rcases List.mem_cons.1 hy with rfl | hy
        · exact hid ▸ ih1.2.2 (hurgent hstays)
        · exact ih3 y hy hid (by rw [hkeeps.frozen]; exact hfrozen)
      · have hdep : SyncKeeps (s.resolveEntry first e).2 (s.resolveEntry first e).2.departure := .of_notice rfl rfl
        obtain ⟨ih1, ih2, ih3⟩ := ih false (s.resolveEntry first e).2.departure
        refine ⟨(hkeeps.trans hdep).trans ih1, ih2.cons e, fun y hy hid hfrozen => ?_⟩
        exact ih3 y hy hid (by rw [(hkeeps.trans hdep).frozen]; exact hfrozen)
    · rename_i hpass
      obtain ⟨ih1, ih2, ih3⟩ := ih first s
      refine ⟨ih1, ih2.cons_cons e, fun y hy hid hfrozen => ?_⟩
      rcases List.mem_cons.1 hy with rfl | hy
      · exact absurd ⟨hid, hfrozen⟩ hpass
      · exact ih3 y hy hid hfrozen

/-! ### The path of the sync -/

@[simp] theorem State.grant_job (s : State) (id n : Nat) (cause : QuotaCause) (k : Nat) :
    (s.grant id n cause).job k = s.job k := by simp [State.job]

section Sync

variable {A : Tag → Bool} (hA : A .quiet = true) (hcharge : A .charge = true) (hchunk : A .chunk = true)
include hA hcharge hchunk

omit hcharge hchunk in
/-- A CHARGE entry leaves the held list. -/
theorem Path.chargeLeaves {s : State} {l₁ l₂ : List HeldEntry} {e : HeldEntry} (he : e.isChunk = false) :
    Path A (s.withHeld (l₁ ++ e :: l₂)) (s.withHeld (l₁ ++ l₂)) := by
  refine .of (s := s.withHeld (l₁ ++ e :: l₂)) (.heldLeaves ?_ ?_) hA
  · exact (List.Sublist.refl l₁).append (.cons e (.refl l₂))
  · simp [he]

/-- One entry resolved, in a list of which it is a part (R33, R42). -/
theorem Path.resolveEntry {s : State} (first : Bool) (e : HeldEntry) (l₁ l₂ : List HeldEntry)
    (hframe : s.inFrame e.principal = true) :
    Path A (s.withHeld (l₁ ++ e :: l₂))
      ((s.resolveEntry first e).2.withHeld (l₁ ++ if (s.resolveEntry first e).1 then e :: l₂ else l₂)) := by
  have stays : Path A (s.withHeld (l₁ ++ e :: l₂)) ((s.queueUrgent e.principal).withHeld (l₁ ++ e :: l₂)) :=
    .of (s := s.withHeld (l₁ ++ e :: l₂)) (.queueUrgent (.inr hframe)) hA
  cases ho : e.origin with
  | charge address =>
    have hleaves (t : State) : Path A (t.withHeld (l₁ ++ e :: l₂)) (t.withHeld (l₁ ++ l₂)) :=
      .chargeLeaves hA (by simp [HeldEntry.isChunk, ho])
    rw [State.resolveEntry_charge s first ho]
    split
    · exact stays
    · rename_i hv
      have hgrant := Path.grant_of_move hA (s.withHeld (l₁ ++ e :: l₂)) e.principal e.amount .charge hcharge
        fun p hp => .charge (by rw [State.principal_id hp, hp]) (HeldEntry.campus_le_of_charge hv ho hp)
      rw [State.grant_withHeld] at hgrant
      have hanswered := hgrant.trans (.answerHeld hA _ address
        ((s.grant e.principal e.amount .charge).grantCode e.principal))
      refine hanswered.trans ((hleaves (State.answerHeld _ address _)).trans ?_)
      have htest := Path.insertionTest hA (((s.grant e.principal e.amount .charge).answerHeld address
        ((s.grant e.principal e.amount .charge).grantCode e.principal)).withHeld (l₁ ++ l₂)) s
      rw [State.insertionTest_withHeld] at htest
      exact htest
    · exact .trans (.answerHeld hA (s.withHeld _) address _) (hleaves (s.answerHeld address _))
  | restore slot =>
    cases hj : s.job slot with
    | none =>
      rw [State.resolveEntry_stray s first ho hj]
      exact .of (s := s.withHeld (l₁ ++ e :: l₂)) (.strayLeaves rfl ho hj) hA
    | some j =>
      rw [State.resolveEntry_restore s first ho hj]
      split
      · exact stays
      · rename_i hv
        have hgrant := Path.grant_of_move hA (s.withHeld (l₁ ++ e :: l₂)) j.principal e.amount .restore hchunk
          fun p hp => .chunk (by rw [State.principal_id hp, hp]) (HeldEntry.campus_le_of_chunk hv ho hj hp)
        rw [State.grant_withHeld] at hgrant
        have hjob : ((s.grant j.principal e.amount .restore).withHeld (l₁ ++ e :: l₂)).job slot = some j :=
          (s.grant_job _ _ _ slot).trans hj
        have hissue := Path.of (A := A) (.heldGranted hjob rfl ho) hA
        refine (hgrant.trans hissue).trans (.trans (.raise hA _ (.permitIssued
          (s.grant j.principal e.amount .restore).arbiter.chooseId (s.grant j.principal e.amount .restore).config.chunk
          (((s.grant j.principal e.amount .restore).setJob slot (some (j.grantedChunk e.amount))).subject
            (.job slot j.principal)))) ?_)
        have htest := Path.insertionTest (A := A) hA ((s.grantChunk slot j e.amount).withHeld (l₁ ++ l₂)) s
        rw [State.insertionTest_withHeld] at htest
        exact htest
      · refine .trans (.of (s := s.withHeld (l₁ ++ e :: l₂)) (.chunkLeaves (state := .quotaWait)
          (deferred := j.deferred) hj nofun (.inl ⟨l₁, e, l₂, rfl, ho, rfl⟩)) hA) (.raise hA _ _)

/-- The entries of a list that belong to one carried principal, resolved in a held list of which it is the rest
(R33). -/
theorem Path.resolveHeld (id : Nat) (l : List HeldEntry) (first : Bool) (s : State) (passed : List HeldEntry)
    (hframe : s.inFrame id = true) :
    Path A (s.withHeld (passed ++ l))
      ((resolveHeld id first l s).2.withHeld (passed ++ (resolveHeld id first l s).1)) := by
  induction l generalizing first s passed with
  | nil => exact .refl _
  | cons e l ih =>
    unfold Sys2Proof.Machine.resolveHeld
    split
    · rename_i he
      have hentry := Path.resolveEntry hA hcharge hchunk first e passed l (he.1 ▸ hframe)
      have hkeeps := (s.resolveEntry_keeps first e).1
      dsimp only
      split
      · rename_i hstays
        rw [if_pos hstays] at hentry
        have hrest := ih false (s.resolveEntry first e).2 (passed ++ [e]) (by rw [hkeeps.inFrame]; exact hframe)
        simp only [List.append_assoc, List.singleton_append] at hrest
        exact hentry.trans hrest
      · rename_i hleaves
        rw [if_neg hleaves] at hentry
        exact (hentry.trans (.departure hA _)).trans
          (ih false (s.resolveEntry first e).2.departure passed ((hkeeps.inFrame id).trans hframe))
    · have hrest := ih first s (passed ++ [e]) hframe
      simp only [List.append_assoc, List.singleton_append] at hrest
      exact hrest

/-- The held entries of a carried principal, resolved (R31 step 3). -/
theorem Path.resolvePrincipal (s : State) (id : Nat) (hframe : s.inFrame id = true) :
    Path A s (s.resolvePrincipal id) :=
  Path.resolveHeld hA hcharge hchunk id s.quota.held true s [] hframe

omit hA hcharge hchunk in
/-- What resolving the entries of principals in turn leaves: URGENT does not shrink, the held list does not grow, and
of those principals the unfrozen entries that stay are URGENT. -/
theorem resolvePrincipals_keeps (l : List NoticeEntry) (s : State) :
    let t := l.foldl (fun s e => s.resolvePrincipal e.principal) s
    SyncKeeps s t ∧ t.quota.held.Sublist s.quota.held ∧
      ∀ x ∈ t.quota.held, x.principal ∈ l.map (·.principal) → s.frozen x = false →
        x.principal ∈ t.notice.urgent := by
  induction l generalizing s with
  | nil => exact ⟨.refl s, .refl _, nofun⟩
  | cons e l ih =>
    obtain ⟨h1, h2, h3⟩ := resolveHeld_keeps e.principal s.quota.held true s
    obtain ⟨k1, k2, k3⟩ := ih (s.resolvePrincipal e.principal)
    have hkeeps : SyncKeeps s (s.resolvePrincipal e.principal) := h1
    refine ⟨hkeeps.trans k1, k2.trans h2, fun x hx hid hfrozen => ?_⟩
    by_cases hrest : x.principal ∈ l.map (·.principal)
    · exact k3 x hx hrest (by rw [hkeeps.frozen]; exact hfrozen)
    · obtain heq : x.principal = e.principal := by simpa [hrest] using hid
      exact heq ▸ k1.2.2 (h3 x (k2.subset hx) heq hfrozen)

omit hA hcharge hchunk in
/-- The part when the held entries of the principals that a frame carried have been resolved (R31 steps 1 to 3). -/
def State.carriedResolved (s : State) (f : FrameRecord) : State :=
  f.entries.foldl (fun s e => s.resolvePrincipal e.principal) (f.entries.foldl State.announce s)

omit hA hcharge hchunk in
theorem State.sync_eq {s : State} {f : FrameRecord} (hf : s.notice.frame = some f) :
    s.sync = { s.carriedResolved f with notice := { (s.carriedResolved f).notice with frame := none } } := by
  unfold State.sync
  rw [hf]
  rfl

omit hA hcharge hchunk in
theorem State.announce_all_notice (l : List NoticeEntry) (s : State) :
    (l.foldl State.announce s).notice = s.notice := by
  induction l generalizing s with
  | nil => rfl
  | cons e l ih => exact ih (s.announce e)

omit hA hcharge hchunk in
theorem State.inFrame_announced {s : State} {f : FrameRecord} (hf : s.notice.frame = some f) (id : Nat) :
    (f.entries.foldl State.announce s).inFrame id = f.entries.any fun e => e.principal == id := by
  simp only [State.inFrame, State.announce_all_notice, hf]

/-- La of the carried principals, and their held entries (R31, R88). -/
theorem Path.carriedResolved {s : State} {f : FrameRecord} (hf : s.notice.frame = some f) :
    Path A s (s.carriedResolved f) := by
  have announces (l : List NoticeEntry) (t : State) (hl : ∀ e ∈ l, e ∈ f.entries) (ht : t.notice.frame = some f) :
      Path A t (l.foldl State.announce t) := by
    induction l generalizing t with
    | nil => exact .refl t
    | cons e l ih =>
      exact .trans (.of (.announce ht (hl e (.head _))) hA) (ih (t.announce e) (fun x hx => hl x (.tail _ hx)) ht)
  have resolves (l : List NoticeEntry) (t : State) (hl : ∀ e ∈ l, t.inFrame e.principal = true) :
      Path A t (l.foldl (fun s e => s.resolvePrincipal e.principal) t) := by
    induction l generalizing t with
    | nil => exact .refl t
    | cons e l ih =>
      have hkeeps : SyncKeeps t (t.resolvePrincipal e.principal) := (resolveHeld_keeps _ t.quota.held true t).1
      exact .trans (.resolvePrincipal hA hcharge hchunk t e.principal (hl e (.head _)))
        (ih _ fun x hx => by rw [hkeeps.inFrame]; exact hl x (.tail _ hx))
  refine (announces f.entries s (fun _ h => h) hf).trans (resolves f.entries _ fun e he => ?_)
  rw [State.inFrame_announced hf]
  exact List.any_eq_true.2 ⟨e, he, by simp⟩

/-- The sync: La and the held entries of the carried principals, and the end of the frame record (R31, R88). -/
theorem Path.sync (s : State) (htx : A .tx = true) : Path A s s.sync := by
  cases hf : s.notice.frame with
  | none => simp only [State.sync, hf]; exact .refl s
  | some f =>
    rw [State.sync_eq hf]
    obtain ⟨hkeeps, _, hurgent⟩ := resolvePrincipals_keeps f.entries (f.entries.foldl State.announce s)
    refine (Path.carriedResolved hA hcharge hchunk hf).trans (.of (.frameDone fun x hx hfrozen hcarried => ?_) htx)
    have hin : (f.entries.foldl State.announce s).inFrame x.principal = true := hkeeps.inFrame _ ▸ hcarried
    rw [State.inFrame_announced hf, List.any_eq_true] at hin
    obtain ⟨e, he, hid⟩ := hin
    exact hurgent x hx (List.mem_map.2 ⟨e, he, by simpa using hid⟩) (hkeeps.frozen x ▸ hfrozen)

end Sync

end Sys2Proof.Machine
end

section
/-! PROOFS. The rows of the station bus, the peer table, the clock and the hold line as paths of moves. -/

namespace Sys2Proof.Machine

section Rows

variable {A : Tag → Bool} (hA : A .quiet = true)
include hA

/-! ### The peer table (chapter 4) -/

theorem Path.peers {s : State} (p : Peers) (h : p.station = .configuring ↔ s.isConfiguring) :
    Path A s { s with peers := p } := .of (.peers h) hA

theorem Path.bus {s : State} (b : Bus) (hstate : b.tx.state = s.bus.tx.state) (hframe : b.tx.frame = s.bus.tx.frame)
    (hattempt : b.tx.attempt = s.bus.tx.attempt) (hfifo : s.bus.fifo.length ≤ 8 → b.fifo.length ≤ 8) :
    Path A s { s with bus := b } := .of (.bus hstate hframe hattempt hfifo) hA

theorem Path.setPeer (s : State) (k : Nat) (p : Peer) : Path A s (s.setPeer k p) := .peers hA _ Iff.rfl

theorem Path.recomputeFormat (s : State) : Path A s s.recomputeFormat := .peers hA _ Iff.rfl

theorem Path.changePeer (s : State) (k : Nat) (p : Peer) : Path A s (s.changePeer k p) :=
  (Path.setPeer hA s k p).trans (.trans (.raise hA _ _) (.recomputeFormat hA _))

/-- The station takes another state, neither of the two CONFIGURING, with whatever else of the peer table changes. -/
theorem Path.enterStation {s : State} (hs : s.peers.station ≠ .configuring) (new : StationState) (p : Peers)
    (hnew : new ≠ .configuring) (hp : p.station = new) :
    Path A s { s.enterStation new with peers := p } := by
  refine .trans (.peers hA p (iff_of_false ?_ hs)) (.raise hA { s with peers := p } _)
  rw [hp]; exact hnew

theorem Path.join {s : State} (hs : s.peers.station ≠ .configuring) : Path A s s.join :=
  .enterStation hA hs .joined _ nofun rfl

theorem Path.learn {s : State} (hs : s.peers.station ≠ .configuring) : Path A s s.learn := by
  have hcounted := Path.enterStation hA hs .learning
    { s.peers with station := .learning, learningCount := 0 } nofun rfl
  unfold State.learn
  dsimp only
  split
  · exact hcounted.trans (.join hA nofun)
  · exact hcounted

theorem Path.noteArrival (s : State) (k : Nat) : Path A s (s.noteArrival k) := by
  have hheard (t : State) (ht : Path A s t) (hst : t.peers.station = s.peers.station) :
      let heard : State := { t with peers := { t.peers with silenceAge := 0 } }
      Path A s (if s.peers.station = .isolated then heard.learn else heard) := by
    have hsilence := ht.trans (.peers hA { t.peers with silenceAge := 0 } Iff.rfl)
    dsimp only
    split
    · rename_i hiso
      exact hsilence.trans (.learn hA (by rw [hst, hiso]; nofun))
    · exact hsilence
  unfold State.noteArrival
  dsimp only
  cases (s.peer k).state with
  | absent | evicting => exact hheard s (.refl s) rfl
  | live | lapsed => exact hheard _ (.setPeer hA s k _) rfl

theorem Path.lapse (s : State) (k : Nat) : Path A s (s.lapse k) := .changePeer hA s k _

theorem Path.testSkew (s : State) (k minute : Nat) : Path A s (s.testSkew k minute) := by
  unfold State.testSkew
  dsimp only
  split
  · exact .refl s
  · split
    · split
      · exact .refl s
      · exact .trans (.raise hA s _) (.setPeer hA _ k _)
    · exact .setPeer hA s k _

theorem Path.applyPresence (s : State) (k : Nat) (extended : Bool) (minute : Nat) (claim : Option Claim) :
    Path A s (s.applyPresence k extended minute claim) := by
  unfold State.applyPresence
  refine .trans ?_ (.testSkew hA _ k minute)
  split
  · exact .setPeer hA s k _
  · exact .trans (.setPeer hA s k _) (.recomputeFormat hA _)

theorem Path.endDelivery (s : State) : Path A s s.endDelivery :=
  .bus hA _ rfl rfl rfl fun h => Nat.le_trans (Nat.le_trans (Nat.le_of_eq List.length_drop) (Nat.sub_le _ _)) h

theorem Path.applyFrame (s : State) (f : Frame) : Path A s (s.applyFrame f) := by
  cases f with
  | presence sender extended minute claim =>
    exact .trans (.applyPresence hA s sender extended minute claim) (.endDelivery hA _)
  | usage sender format entries => exact .bus hA _ rfl rfl rfl id

theorem Path.deliver (s : State) (f : Frame) : Path A s (s.deliver f) := by
  have hrevive (age : Nat) :
      let applied := (s.makeLive f.sender age).applyFrame f
      Path A s (if s.config.lapseTime ≤ age then applied.lapse f.sender else applied) := by
    have happlied := Path.trans (.changePeer hA s f.sender _) (Path.applyFrame hA (s.makeLive f.sender age) f)
    dsimp only
    split
    · exact happlied.trans (.lapse hA _ _)
    · exact happlied
  unfold State.deliver
  dsimp only
  cases (s.peer f.sender).state with
  | evicting => exact .endDelivery hA s
  | live => exact .applyFrame hA s f
  | absent => exact hrevive _
  | lapsed => exact hrevive _

theorem Path.stopDelivery (s : State) (k : Nat) : Path A s (s.stopDelivery k) := by
  unfold State.stopDelivery
  split
  · split
    · exact .endDelivery hA s
    · exact .refl s
  · exact .refl s

theorem Path.evictPeer (s : State) (k : Nat) : Path A s (s.evictPeer k).state := by
  have hevicting := Path.changePeer hA s k { s.peer k with state := .evicting }
  have hstarted := hevicting.trans (.peers hA
    { (s.changePeer k { s.peer k with state := .evicting }).peers with eviction := some { station := k } } Iff.rfl)
  unfold State.evictPeer
  split
  · exact .refl s
  · split
    · exact .refl s
    · split
      · exact .refl s
      · exact .refl s
      all_goals
        split
        · exact .refl s
        · exact hstarted.trans (.stopDelivery hA _ k)

theorem Path.sweepSlot (s : State) (e : Eviction) (hk : A .account = true) : Path A s (s.sweepSlot e).2 := by
  unfold State.sweepSlot
  split
  · exact .refl s
  · split
    · exact .contribute hA s _ _ _ _ hk
    · exact .refl s

theorem Path.endEviction (s : State) (e : Eviction) : Path A s (s.endEviction e) :=
  (Path.changePeer hA s e.station {}).trans (.trans (.raise hA _ _) (.peers hA _ Iff.rfl))

end Rows

end Sys2Proof.Machine
end

section
/-! PROOFS. The rows of the station bus, the clock, the hold line and the configuration load as paths of moves. -/

namespace Sys2Proof.Machine

section Rows

variable {A : Tag → Bool} (hA : A .quiet = true)
include hA

/-! ### The station bus (chapter 3) -/

omit hA in
theorem Path.setTx (s : State) (x : Transmitter) (htx : A .tx = true)
    (h : s.bus.tx.attemptsBounded → x.attemptsBounded) : Path A s (s.setTx x) := .of (.tx h) htx

omit hA in
theorem Path.deferring (s : State) (x : Transmitter) (htx : A .tx = true)
    (h : s.bus.tx.attemptsBounded → x.attempt ≤ 16) : Path A s (s.deferring x) :=
  .setTx s _ htx fun hs => ⟨h hs, nofun⟩

omit hA in
theorem Path.giveUp (s : State) (f : Option Frame) (htx : A .tx = true) : Path A s (s.giveUp f) := by
  unfold State.giveUp
  split
  · exact .of (.frameReturned s) htx
  · exact .refl s
  · exact .refl s

theorem Path.abandonFrame (s : State) (f : Frame) (htx : A .tx = true) : Path A s (s.abandonFrame f) :=
  (Path.setTx s { s.bus.tx with state := .holdoff, frame := none, holdoffTicks := 0 } htx
    fun h => ⟨h.1, fun h => by cases h⟩).trans (.trans (.raise hA _ _) (.giveUp _ _ htx))

theorem Path.backOff (s : State) (htx : A .tx = true) (h : s.bus.tx.attempt < 16) : Path A s s.backOff := by
  have hgenerator := Path.of (A := A)
    (Move.generator (s := s) (g := { s.bus.generator with draws := s.bus.generator.draws + 1 })) hA
  refine hgenerator.trans (.setTx _ { s.bus.tx with
    state := .backoff, backoffSlots := s.bus.generator.count s.bus.tx.attempt } htx fun hs => ⟨hs.1, fun _ => h⟩)

theorem Path.line (s : State) (l : Line) : Path A s { s with bus := { s.bus with line := l } } :=
  .bus hA _ rfl rfl rfl id

theorem Path.lineBusy (s : State) : Path A s s.lineBusy := .bus hA _ rfl rfl rfl id

theorem Path.lineQuiet (s : State) : Path A s s.lineQuiet := .bus hA _ rfl rfl rfl id

theorem Path.enterClash (s : State) (htx : A .tx = true) (hs : s.peers.station ≠ .configuring) :
    Path A s s.enterClash := by
  have hclash := Path.enterStation hA hs .clash { s.peers with station := .clash, presenceDue := false } nofun rfl
  exact hclash.trans (.trans (.setTx _ { s.bus.tx with
    state := .silenced, frame := none, gapRunning := false, backoffSlots := 0, holdoffTicks := 0 } htx
    fun h => ⟨h.1, fun h => by cases h⟩) (.giveUp _ _ htx))

omit hA in
theorem StationState.ne_configuring_of_running {x : StationState} (h : x.running = true) : x ≠ .configuring := by
  rintro rfl; cases h

theorem Path.receive (s : State) (f : Frame) (htx : A .tx = true) : Path A s (s.receive f) := by
  unfold State.receive
  split
  · split
    · rename_i hrunning
      exact .enterClash hA s htx (StationState.ne_configuring_of_running hrunning)
    · exact .refl s
  · split
    · rename_i hroom
      exact .trans (.bus hA { s.bus with fifo := s.bus.fifo ++ [{ frame := f }] } rfl rfl rfl fun _ => by
        simp only [List.length_append, List.length_singleton]; omega) (.noteArrival hA _ _)
    · exact .refl s

theorem Path.burstEnded (s : State) (bytes : List Byte) (htx : A .tx = true) : Path A s (s.burstEnded bytes) := by
  unfold State.burstEnded
  dsimp only
  split
  · exact .lineQuiet hA s
  · split
    · exact .lineQuiet hA s
    · exact .trans (.lineQuiet hA s) (.receive hA _ _ htx)

/-! ### The hold line, the reload and the tick (chapters 8 and 9) -/

theorem Path.moveNight {s : State} {v : Nat} {n : Night} (hn : (s.volume v).night = some n) (new : NightState)
    (cause : NightCause) (hk : A .unsettled = true) (hold : n.state = .sending ∨ n.state = .paused)
    (hnew : new = .sending ∨ new = .paused) : Path A s (s.moveNight v n new cause) :=
  .trans (.of (.night (remaining := n.remaining) hn (.inr ⟨hold, hnew⟩)) hk) (.raise hA _ _)

theorem Path.shiftNights (s : State) (old new : NightState) (cause : NightCause) (hk : A .unsettled = true)
    (hold : old = .sending ∨ old = .paused) (hnew : new = .sending ∨ new = .paused) :
    Path A s (s.shiftNights old new cause) := by
  have one (t : State) (v : Nat) : Path A t (t.shiftNight v old new cause) := by
    unfold State.shiftNight
    split
    · exact .refl t
    · rename_i n hn
      split
      · rename_i hs
        exact .moveNight hA hn new cause hk (hs ▸ hold) hnew
      · exact .refl t
  unfold State.shiftNights
  induction List.range 16 generalizing s with
  | nil => exact .refl s
  | cons v l ih => exact .trans (one s v) (ih _)

theorem Path.settle (s : State) : Path A s s.settlePrecedence := .of (.settle s) hA

omit hA in
/-- The tokens after a refill at a rate are bounded (R146). -/
theorem State.tokensBounded_of_refill {s t : State} {rate : Nat} (hhold : t.holdInForce = s.holdInForce)
    (hchunk : t.config.chunk = s.config.chunk) (hrate : t.dup.rate = rate)
    (htokens : t.dup.tokens = if s.holdInForce then 0 else min (s.dup.tokens + rate) (rate + s.config.chunk)) :
    t.tokensBounded := by
  unfold State.tokensBounded
  rw [hhold, hchunk, hrate, htokens]
  split
  · exact ⟨Nat.zero_le _, fun _ => rfl⟩
  · rename_i hoff
    exact ⟨Nat.min_le_right _ _, fun h => absurd h hoff⟩

/-- The nights that a reload finds PAUSED, released unless the hold line is in force (R145). -/
def State.released (s : State) : State :=
  if s.holdInForce then s else s.shiftNights .paused .sending .release

theorem Path.reloaded (s : State) (hk : A .unsettled = true) : Path A s s.reloaded := by
  have hreleased : Path A s s.released := by
    unfold State.released
    split
    · exact .refl s
    · exact .shiftNights hA s _ _ _ hk (.inr rfl) (.inl rfl)
  have hclock := hreleased.trans (.of (.clock (c := s.reloaded.clock) fun _ h1 h2 h3 => ⟨h1, h2, h3⟩) hA)
  refine hclock.trans (.of (.dup (d := s.reloaded.dup) ?_) hk)
  exact State.tokensBounded_of_refill (s := s.released) rfl rfl rfl rfl

omit hA in
theorem Clock.tick_ranges (c : Clock) (h1 : c.millis ≤ 999) (h2 : c.seconds ≤ 59) (h3 : c.minute ≤ max32) :
    c.tick.millis ≤ 999 ∧ c.tick.seconds ≤ 59 ∧ c.tick.minute ≤ max32 := by
  unfold Clock.tick
  split
  · exact ⟨by dsimp only; omega, h2, h3⟩
  · split
    · exact ⟨Nat.zero_le _, by dsimp only; omega, h3⟩
    · exact ⟨Nat.zero_le _, Nat.zero_le _, Nat.min_le_left _ _⟩

omit hA in
/-- A tick moves the transmitter's holdoff count alone (R51). -/
theorem Bus.ticked_tx (b : Bus) : b.ticked.tx.state = b.tx.state ∧ b.ticked.tx.frame = b.tx.frame ∧
    b.ticked.tx.attempt = b.tx.attempt := by
  unfold Bus.ticked
  dsimp only
  split
  · exact ⟨rfl, rfl, rfl⟩
  · exact ⟨rfl, rfl, rfl⟩

theorem Path.ticked (s : State) : Path A s s.ticked := by
  have hclock := Path.of (A := A) (Move.clock (s := s) fun _ => s.clock.tick_ranges) hA
  have hheld := hclock.trans (.of (.heldAges _) hA)
  have hnotice := hheld.trans (.of (.sweep (n := s.notice.ticked s.peers.station.running s.config.refreshRate)
    rfl rfl rfl) hA)
  obtain ⟨hstate, hframe, hattempt⟩ := s.bus.ticked_tx
  have hbus := hnotice.trans (.bus hA s.bus.ticked hstate hframe hattempt
    fun h => Nat.le_trans (Nat.le_of_eq (List.length_map _)) h)
  have hpeers := hbus.trans (.peers hA s.peers.ticked Iff.rfl)
  have harbiter := hpeers.trans (.of (.permitAges _) hA)
  exact harbiter.trans (.port hA (.of_core (p := s.port.ticked) rfl rfl rfl rfl rfl rfl id))

end Rows

end Sys2Proof.Machine
end

section
/-! PROOFS. The rows of the host request port as paths of moves: each changes the port in a way that its laws allow. -/

namespace Sys2Proof.Machine

/-! ### The operands of a fetched descriptor fit their fields (R177) -/

theorem fromLittleEndian_lt (l : List Byte) : fromLittleEndian l < 256 ^ l.length := by
  induction l with
  | nil => simp [fromLittleEndian]
  | cons b l ih =>
    have := b.isLt
    simp only [fromLittleEndian, List.length_cons, Nat.pow_succ]
    omega

theorem fromLittleEndian_bytesAt_lt (bytes : List Byte) (offset width : Nat) :
    fromLittleEndian (bytesAt bytes offset width) < 256 ^ width := by
  simpa [bytesAt] using fromLittleEndian_lt (bytesAt bytes offset width)

theorem fits8_fromLittleEndian (bytes : List Byte) (offset : Nat) :
    fits8 (fromLittleEndian (bytesAt bytes offset 1)) = true := by
  simpa [fits8] using fromLittleEndian_bytesAt_lt bytes offset 1

theorem fits16_fromLittleEndian (bytes : List Byte) (offset : Nat) :
    fits16 (fromLittleEndian (bytesAt bytes offset 2)) = true := by
  simpa [fits16] using fromLittleEndian_bytesAt_lt bytes offset 2

theorem fits32_fromLittleEndian (bytes : List Byte) (offset : Nat) :
    fits32 (fromLittleEndian (bytesAt bytes offset 4)) = true := by
  simpa [fits32] using fromLittleEndian_bytesAt_lt bytes offset 4

/-- A descriptor decodes to a request whose operands fit the fields they were read from (R177). -/
theorem decodeRequest_wellFormed {bytes : List Byte} {r : Request} (h : decodeRequest bytes = some r) :
    r.wellFormed = true := by
  unfold decodeRequest at h
  simp only [unpackFields] at h
  split at h <;> cases h <;>
    simp only [Request.wellFormed, fits8_fromLittleEndian, fits16_fromLittleEndian, fits32_fromLittleEndian,
      Bool.and_self]

/-! ### Rings (R160) -/

theorem RingRegs.legal_advance {r : RingRegs} {align : Nat} (h : r.legal align) : r.advance.legal align := by
  obtain ⟨hbase, hsize, hposition⟩ := h
  refine ⟨hbase, hsize, fun hne => ?_⟩
  have := hposition hne
  have hadvance : r.advance.size = r.size := rfl
  simp only [RingRegs.advance]
  split <;> omega

theorem RingRegs.legal_home {r : RingRegs} {align : Nat} (h : r.legal align) :
    ({ r with position := 0 } : RingRegs).legal align :=
  ⟨h.1, h.2.1, fun hne => Nat.pos_of_ne_zero hne⟩

theorem RingRegs.legal_writeBase {r : RingRegs} {align : Nat} (h : r.legal align) (high : Bool) (value : Word) :
    (r.writeBase high value align).legal align := by
  refine ⟨?_, h.2.1, fun hne => Nat.pos_of_ne_zero hne⟩
  simp only [RingRegs.writeBase, BitVec.toNat_ofNat]
  generalize (if high = true then _ else _ : BitVec 64) = base
  have hle := Nat.lt_of_le_of_lt (Nat.div_mul_le_self base.toNat align) base.isLt
  rw [Nat.mod_eq_of_lt hle]
  exact Nat.mul_mod_left _ _

theorem storedSize_range (value : Nat) : storedSize value = 0 ∨ (16 ≤ storedSize value ∧ storedSize value ≤ 4096) := by
  unfold storedSize
  split <;> omega

theorem RingRegs.legal_writeSize {r : RingRegs} {align : Nat} (h : r.legal align) (value : Word) :
    (r.writeSize value).legal align := by
  refine ⟨h.1, storedSize_range _, fun hne => ?_⟩
  have hne : storedSize value.toNat ≠ 0 := hne
  simp only [RingRegs.writeSize]
  split
  · exact Nat.mod_lt _ (Nat.pos_of_ne_zero hne)
  · omega

/-! ### Changes of the port -/

section Port

variable {s : State}

/-- A RUNNING request process goes on to another state, other than with its ring unset. -/
theorem PortStep.of_request {p : Port} (hrs : s.port.requestState ≠ .stopped ∧ s.port.requestState ≠ .fault)
    (hes : p.eventState = s.port.eventState) (hpo : p.posting = s.port.posting)
    (hrr : p.requestRing = s.port.requestRing ∨ p.requestRing = s.port.requestRing.advance)
    (her : p.eventRing = s.port.eventRing) (hph : s.fetchedFits → State.fetchedFits { s with port := p })
    (hev : p.events = s.port.events) : PortStep s p where
  fault h := absurd h hrs.2
  fits := hph
  events h := by rw [hev]; exact h
  rings := by
    rintro ⟨h1, h2, h3, h4, h5⟩
    have hsize := h3 hrs.1 hrs.2
    have hring : p.requestRing.legal 64 ∧ p.requestRing.size ≠ 0 := by
      rcases hrr with hrr | hrr
      · rw [hrr]; exact ⟨h1, hsize⟩
      · rw [hrr]; exact ⟨RingRegs.legal_advance h1, hsize⟩
    refine ⟨hring.1, by simpa only [her] using h2, fun _ _ => hring.2, ?_, ?_⟩
    · simpa only [hes, her] using h4
    · simpa only [hes, hpo] using h5

/-- The event process alone changes, with its ring, its post and the event queue. -/
theorem PortStep.of_eventProcess {p : Port} (hrs : p.requestState = s.port.requestState)
    (hrr : p.requestRing = s.port.requestRing) (hph : p.phase = s.port.phase)
    (hev : p.events.length ≤ s.port.events.length)
    (hring : s.port.eventRing.legal 32 → p.eventRing.legal 32)
    (hset : RingLaw s → p.eventState ≠ .stopped → p.eventState ≠ .fault → p.eventRing.size ≠ 0)
    (hpost : RingLaw s → p.posting.isSome = true → p.eventState = .running) : PortStep s p where
  fault h := by rw [hrs, h]
  fits h := by simpa only [State.fetchedFits, hph] using h
  events h := Nat.le_trans hev h
  rings := by
    intro hs
    have ⟨h1, h2, h3, h4, h5⟩ := hs
    exact ⟨by simpa only [hrr] using h1, hring h2, by simpa only [hrs, hrr] using h3, hset hs, hpost hs⟩

/-- The request process of a port with an idle ring side takes another state and ring. -/
theorem PortStep.of_requestRing {p : Port} (hrs : p.requestState = s.port.requestState)
    (hes : p.eventState = s.port.eventState) (her : p.eventRing = s.port.eventRing) (hph : p.phase = s.port.phase)
    (hpo : p.posting = s.port.posting) (hev : p.events = s.port.events) (hstopped : s.port.requestState = .stopped)
    (hring : s.port.requestRing.legal 64 → p.requestRing.legal 64) : PortStep s p where
  fault h := by rw [hrs, h]
  fits h := by simpa only [State.fetchedFits, hph] using h
  events h := by rw [hev]; exact h
  rings := by
    rintro ⟨h1, h2, h3, h4, h5⟩
    exact ⟨hring h1, by simpa only [her] using h2, fun hne => absurd (hrs.trans hstopped) hne,
      by simpa only [hes, her] using h4, by simpa only [hes, hpo] using h5⟩

end Port

section Rows

variable {A : Tag → Bool} (hA : A .quiet = true)
include hA

/-! ### The request process (R162, R163) -/

theorem Path.takeDescriptor (s : State) (bytes : List Byte)
    (h : s.port.requestState ≠ .stopped ∧ s.port.requestState ≠ .fault) : Path A s (s.takeDescriptor bytes) := by
  refine .port hA (.of_request h rfl rfl (.inl rfl) rfl (fun _ => ?_) rfl)
  unfold State.fetchedFits
  dsimp only
  cases hr : decodeRequest bytes with
  | none => trivial
  | some r => exact decodeRequest_wellFormed hr

theorem Path.setFlagOver (s : State) (p : Port) (f : Flag) (h : PortStep s p) :
    Path A s (State.setFlag { s with port := p } f) := .port hA (h.setFlag f)

theorem Path.hostOwned (s : State) (h : s.port.requestState = .running) : Path A s s.hostOwned := by
  unfold State.hostOwned
  split
  · exact .port hA (.of_core rfl rfl rfl rfl rfl rfl id)
  · exact .setFlagOver hA s _ _ (.of_request (by rw [h]; exact ⟨nofun, nofun⟩) rfl rfl (.inl rfl) rfl id rfl)

theorem Path.requestDescriptorFetch (bytes : List Byte) (s : State) :
    ReachedBy A (execRequestDescriptorFetch bytes s) s := by
  refine .intro ?_
  split
  · rename_i hrs _
    split
    · exact .takeDescriptor hA s bytes (by rw [hrs]; exact ⟨nofun, nofun⟩)
    · exact .hostOwned hA s hrs
  · exact .refl s

omit hA in
/-- A RUNNING request process is done with its descriptor (R160, R162). -/
theorem PortStep.nextDescriptor {s : State} (h : s.port.requestState = .running) :
    PortStep s s.nextDescriptor.port :=
  .of_request (by rw [h]; exact ⟨nofun, nofun⟩) rfl rfl (.inr rfl) rfl (fun _ => trivial) rfl

theorem Path.nextDescriptor (s : State) (h : s.port.requestState = .running) : Path A s s.nextDescriptor :=
  .port hA (.nextDescriptor h)

theorem Path.requestWritebackDone (held : Bool) (s : State) :
    ReachedBy A (execRequestWritebackDone held s) s := by
  refine .intro ?_
  split
  · rename_i hrs _
    exact .trans (.nextDescriptor hA s hrs) (.setFlagOver hA s.nextDescriptor _ _
      (.of_core rfl rfl rfl rfl rfl rfl id))
  · exact .setFlagOver hA s _ _ (.of_core rfl rfl rfl rfl rfl rfl id)
  · exact .refl s

/-! ### The event process (R166) -/

omit hA in
/-- The event process leaves its post alone and does not start. -/
theorem PortStep.of_eventState {s : State} {x : EventState} {m : ProcessMarks} {post : Option (List HostWrite)}
    (hset : RingLaw s → x ≠ .stopped → x ≠ .fault → s.port.eventRing.size ≠ 0)
    (hpost : RingLaw s → post.isSome = true → x = .running) :
    PortStep s { s.port with eventState := x, event := m, posting := post } :=
  .of_eventProcess rfl rfl rfl (Nat.le_refl _) id hset hpost

omit hA in
/-- The event ring of a process that has a descriptor to deal with is set (R160). -/
theorem RingLaw.eventRing_set {s : State} (h : RingLaw s)
    (hes : s.port.eventState = .running ∨ s.port.eventState = .stalled) : s.port.eventRing.size ≠ 0 := by
  refine h.2.2.2.1 ?_ ?_ <;> rcases hes with hes | hes <;> rw [hes] <;> nofun

theorem Path.beginPost (s : State) (e : EventRecord)
    (hes : s.port.eventState = .running ∨ s.port.eventState = .stalled) : Path A s (s.beginPost e) :=
  .port hA (.of_eventState (fun h _ _ => h.eventRing_set hes) fun _ _ => rfl)

theorem Path.eventHostOwned (s : State) (hes : s.port.eventState = .running) (hpost : s.port.posting = none) :
    Path A s s.eventHostOwned := by
  unfold State.eventHostOwned
  split
  · exact .port hA (.of_core rfl rfl rfl rfl rfl rfl id)
  · exact .setFlagOver hA s _ _ (.of_eventState (fun h _ _ => h.eventRing_set (.inl hes))
      (by rw [hpost]; nofun))

theorem Path.eventDescriptorFetch (own next : Byte) (s : State) :
    ReachedBy A (execEventDescriptorFetch own next s) s := by
  refine .intro ?_
  split
  · rename_i e _ hes hpost _
    split
    · exact .beginPost hA s e (.inl hes)
    · exact .eventHostOwned hA s hes hpost
  · exact .refl s

theorem Path.eventPostDone (s : State) : ReachedBy A (execEventPostDone s) s := by
  refine .intro ?_
  split
  · rename_i writes e rest hpost hevents
    have hrunning (h : RingLaw s) : s.port.eventState = .running := h.2.2.2.2 (by rw [hpost]; rfl)
    refine .setFlagOver hA s _ _ (.of_eventProcess rfl rfl rfl ?_ ?_ ?_ nofun)
    · rw [hevents]; exact Nat.le_succ _
    · intro hring
      dsimp only
      split
      · exact RingRegs.legal_advance (RingRegs.legal_advance hring)
      · exact RingRegs.legal_advance hring
    · intro h _ _
      have hsize := h.eventRing_set (.inl (hrunning h))
      dsimp only
      split
      · exact hsize
      · exact hsize
  · exact .refl s

/-! ### Auto-poll and link errors (R163, R166, R167) -/

theorem Path.autoPoll (found : Polled) (s : State) : ReachedBy A (execAutoPoll found s) s := by
  refine .intro ?_
  cases found with
  | request bytes =>
    dsimp only
    split
    · rename_i h
      unfold State.pollRequest
      split
      · exact .takeDescriptor hA s bytes (by rw [h.1]; exact ⟨nofun, nofun⟩)
      · exact .setFlagOver hA s _ _ (.of_core rfl rfl rfl rfl rfl rfl id)
    · exact .refl s
  | event own next =>
    dsimp only
    split
    · rename_i h
      unfold State.pollEvent
      split
      · exact .refl s
      · rename_i e _ _
        split
        · exact .beginPost hA s e (.inr h.1)
        · exact .setFlagOver hA s _ _ (.of_core rfl rfl rfl rfl rfl rfl id)
    · exact .refl s

theorem Path.linkFault (s : State) : Path A s s.linkFault := by
  refine .setFlagOver hA s _ _ { fault := fun _ => rfl, fits := fun h => ?_, events := id, rings := fun h => ?_ }
  · unfold State.fetchedFits
    dsimp only
    split
    · rename_i hph
      split at hph
      · simpa only [State.fetchedFits, hph] using h
      · cases hph
    · trivial
    · trivial
  · exact ⟨h.1, h.2.1, fun _ hf => absurd rfl hf, fun _ hf => absurd rfl hf, nofun⟩

theorem Path.linkError (access : HostAccess) (s : State) : ReachedBy A (execLinkError access s) s := by
  refine .intro ?_
  split
  · exact .linkFault hA s
  · exact .refl s

/-! ### The control register (R162, R163, R166) -/

omit hA in
/-- A request process out of FAULT takes another state, which with the ring unset is STOPPED. -/
theorem PortStep.of_requestState {s : State} {x : RequestState} {m : ProcessMarks}
    (hfault : s.port.requestState ≠ .fault)
    (hset : RingLaw s → x ≠ .stopped → x ≠ .fault → s.port.requestRing.size ≠ 0) :
    PortStep s { s.port with requestState := x, request := m } where
  fault h := absurd h hfault
  fits := id
  events := id
  rings h := ⟨h.1, h.2.1, hset h, h.2.2.2.1, h.2.2.2.2⟩

theorem Path.requestStart (control : Word) (s : State) : ReachedBy A (execRequestStart control s) s := by
  refine .intro ?_
  split
  · rename_i h
    split
    · exact .port hA (.of_core rfl rfl rfl rfl rfl rfl id)
    · split
      · exact .refl s
      · rename_i hsize
        exact .port hA (.of_requestState (by rw [h.2]; nofun) fun _ _ _ => hsize)
  · exact .refl s

theorem Path.stopRequest (s : State) : Path A s s.stopRequest := by
  unfold State.stopRequest
  split
  · rename_i h
    split
    · exact .port hA (.of_requestState (by rw [h]; nofun) fun _ hne => absurd rfl hne)
    · exact .port hA (.of_core rfl rfl rfl rfl rfl rfl id)
  · rename_i h
    exact .port hA (.of_requestState (by rw [h]; nofun) fun _ hne => absurd rfl hne)
  · exact .port hA (.of_core rfl rfl rfl rfl rfl rfl id)
  · exact .refl s
  · exact .refl s

theorem Path.requestStop (control : Word) (s : State) : ReachedBy A (execRequestStop control s) s := by
  refine .intro ?_
  split
  · exact .stopRequest hA s
  · exact .refl s

theorem Path.eventStart (control : Word) (s : State) : ReachedBy A (execEventStart control s) s := by
  refine .intro ?_
  split
  · split
    · exact .port hA (.of_core rfl rfl rfl rfl rfl rfl id)
    · split
      · exact .refl s
      · rename_i hsize
        exact .port hA (.of_eventState (fun _ _ _ => hsize) fun _ _ => rfl)
  · exact .refl s

theorem Path.stopEvent (s : State) : Path A s s.stopEvent := by
  unfold State.stopEvent
  split
  · split
    · rename_i hpost
      exact .port hA (.of_eventState (fun _ hne => absurd rfl hne) fun _ h => by simp_all)
    · exact .port hA (.of_core rfl rfl rfl rfl rfl rfl id)
  · rename_i h
    exact .port hA (.of_eventState (fun _ hne => absurd rfl hne) fun hl hp => by
      have := hl.2.2.2.2 hp; rw [h] at this; cases this)
  · exact .refl s
  · exact .refl s

theorem Path.eventStop (control : Word) (s : State) : ReachedBy A (execEventStop control s) s := by
  refine .intro ?_
  split
  · exact .stopEvent hA s
  · exact .refl s

theorem Path.pollRequestProcess (s : State) : Path A s { s with port := s.port.pollRequestProcess } := by
  unfold Port.pollRequestProcess
  split
  · rename_i h
    exact .port hA (.of_requestState (by rw [h]; nofun) fun hl _ _ => hl.2.2.1 (by rw [h]; nofun) (by rw [h]; nofun))
  · exact .port hA (.of_core rfl rfl rfl rfl rfl rfl id)
  all_goals exact .refl s

theorem Path.pollEventProcess (s : State) : Path A s { s with port := s.port.pollEventProcess } := by
  unfold Port.pollEventProcess
  split
  · rename_i h
    exact .port hA (.of_eventState (fun hl _ _ => hl.eventRing_set (.inr h)) fun _ _ => rfl)
  · exact .port hA (.of_core rfl rfl rfl rfl rfl rfl id)
  all_goals exact .refl s

theorem Path.pollDemand (control : Word) (s : State) : ReachedBy A (execPollDemand control s) s := by
  refine .intro ?_
  split
  · have hrequest : Path A s { s with
        port := if leavesProcess control 0 then s.port else s.port.pollRequestProcess } := by
      split
      · exact .refl s
      · exact .pollRequestProcess hA s
    dsimp only
    split
    · exact hrequest
    · exact hrequest.trans (.pollEventProcess hA _)
  · exact .refl s

/-! ### PORT RESET and the other registers (R160, R168, R169) -/

theorem Path.discardCharges (s : State) : Path A s s.discardCharges := by
  unfold State.discardCharges
  split
  · refine .trans (.of (.heldLeaves (held := s.quota.held.filter fun e => !e.isCharge) List.filter_sublist ?_) hA)
      (.departure hA _)
    rw [List.filter_filter]
    refine List.filter_congr fun e _ => ?_
    simp only [HeldEntry.isChunk, HeldEntry.isCharge]
    cases e.origin <;> rfl
  · exact .refl s

omit hA in
theorem State.discardCharges_held (s : State) : ∀ e ∈ s.discardCharges.quota.held, e.isCharge = false := by
  intro e he
  unfold State.discardCharges at he
  split at he
  · have he : e ∈ s.quota.held.filter fun e => !e.isCharge := he
    simpa using (List.mem_filter.1 he).2
  · rename_i hnone
    simpa using fun h => hnone (List.any_eq_true.2 ⟨e, he, h⟩)

theorem Path.portReset (control : Word) (s : State) : ReachedBy A (execPortReset control s) s := by
  refine .intro ?_
  split
  · exact .trans (.discardCharges hA s) (.of (.portReset s.discardCharges_held) hA)
  · exact .refl s

theorem Path.ringBaseWrite (ring : Ring) (high : Bool) (value : Word) (s : State) :
    ReachedBy A (execRingBaseWrite ring high value s) s := by
  refine .intro ?_
  cases ring with
  | request =>
    dsimp only
    split
    · rename_i h
      exact .port hA (.of_requestRing rfl rfl rfl rfl rfl rfl h fun hr => RingRegs.legal_writeBase hr high value)
    · exact .refl s
  | event =>
    dsimp only
    split
    · rename_i h
      exact .port hA (.of_eventProcess rfl rfl rfl (Nat.le_refl _) (fun hr => RingRegs.legal_writeBase hr high value)
        (fun _ hne => absurd h hne) fun hl => hl.2.2.2.2)
    · exact .refl s

theorem Path.ringSizeWrite (ring : Ring) (value : Word) (s : State) :
    ReachedBy A (execRingSizeWrite ring value s) s := by
  refine .intro ?_
  cases ring with
  | request =>
    dsimp only
    split
    · rename_i h
      exact .port hA (.of_requestRing rfl rfl rfl rfl rfl rfl h fun hr => RingRegs.legal_writeSize hr value)
    · exact .refl s
  | event =>
    dsimp only
    split
    · rename_i h
      exact .port hA (.of_eventProcess rfl rfl rfl (Nat.le_refl _) (fun hr => RingRegs.legal_writeSize hr value)
        (fun _ hne => absurd h hne) fun hl => hl.2.2.2.2)
    · exact .refl s

/-- A change of the flags, the mask or the interval. -/
theorem Path.registers (s : State) (flags mask : BitVec 6) (interval : Nat) :
    Path A s { s with port := { s.port with flags := flags, mask := mask, autoPoll := interval } } :=
  .port hA (.of_core rfl rfl rfl rfl rfl rfl id)

/-! ### CHARGE (R21 to R30) -/

theorem Path.holdCharge (s : State) (address id n : Nat) (hrs : s.port.requestState = .running)
    (hp : (s.principal id).isSome = true) : Path A s (s.holdCharge address id n) := by
  unfold State.holdCharge
  split
  · rename_i hroom
    have hurgent := Path.of (A := A) (.queueUrgent (s := s) (.inl hp)) hA
    have hjoined := hurgent.trans (.of (.heldCharge (e := { origin := .charge address, principal := id, amount := n })
      rfl hroom ((Notice.queueUrgent_urgent _ _ _).2 (.inl rfl))) hA)
    exact hjoined.trans (.nextDescriptor hA _ hrs)
  · exact .port hA (.of_request (by rw [hrs]; exact ⟨nofun, nofun⟩) rfl rfl (.inl rfl) rfl (fun h => h) rfl)

theorem Path.executeCharge (s : State) (address id n : Nat) (hrs : s.port.requestState = .running)
    (hcharge : A .charge = true) : Path A s (s.executeCharge address id n) := by
  unfold State.executeCharge
  split
  · exact .answered hA (.refuse s _)
  · split
    · exact .answered hA (.refuse s _)
    · exact .answered hA (.refuse s _)
    · exact .answered hA (.refuse s _)
    · rename_i hv
      have hgrant := Path.grant_of_move hA s id n .charge hcharge fun p hp =>
        .charge (by rw [State.principal_id hp, hp]) (State.campus_le_of_evaluate (s := s) (id := id)
          (by rw [hv]; nofun) hp)
      exact hgrant.trans (.trans (.respond hA _ _ _) (.insertionTest hA _ s))
    · rename_i hv
      exact .holdCharge hA s address id n hrs (State.isSome_of_evaluate_held hv)

omit hA in
theorem State.running_of_takes {s : State} {r : Request} (h : s.takes r = true) : s.port.requestState = .running := by
  unfold State.takes at h
  split at h
  · simpa using (Bool.and_eq_true_iff.1 h).1
  · cases h

omit hA in
theorem State.fetched_of_takes {s : State} {r : Request} (h : s.takes r = true) :
    ∃ address, s.port.phase = .executing address r := by
  unfold State.takes at h
  split at h
  · rename_i address fetched hph
    exact ⟨address, by rw [hph]; simp_all⟩
  · cases h

theorem Path.charge (id n : Nat) (s : State) (hcharge : A .charge = true) :
    ReachedBy A (execCharge id n s) s := by
  refine .intro ?_
  split
  · split
    · rename_i ht
      exact .executeCharge hA s _ id n (State.running_of_takes ht) hcharge
    · exact .refl s
  · exact .refl s
  · exact .refl s

theorem Path.blockedChargeReexecution (s : State) (hcharge : A .charge = true) :
    ReachedBy A (execBlockedChargeReexecution s) s := by
  refine .intro ?_
  split
  · rename_i hrs _ _
    have hunblocked : Path A s s.unblocked :=
      .port hA (.of_request (by rw [hrs]; exact ⟨nofun, nofun⟩) rfl rfl (.inl rfl) rfl id rfl)
    exact hunblocked.trans (.executeCharge hA _ _ _ _ rfl hcharge)
  · exact .refl s

end Rows

end Sys2Proof.Machine
end

section
/-! PROOFS. The requests of the quota unit, the catalogue and the duplication engine, the expiry run with CLOCK SET,
and the updates from the station bus, as paths of moves. -/

namespace Sys2Proof.Machine

/-! ### Operands in range (R2, R177) -/

theorem State.fits_of_takes {s : State} {r : Request} (h : s.takes r = true) (hf : s.fetchedFits) :
    r.wellFormed = true := by
  obtain ⟨address, hph⟩ := State.fetched_of_takes h
  simpa only [State.fetchedFits, hph] using hf

theorem le_max32_of_fits32 {v : Nat} (h : fits32 v = true) : v ≤ max32 := by
  simpa [fits32, max32, Nat.lt_succ_iff] using h

theorem le_of_fits16 {v : Nat} (h : fits16 v = true) : v ≤ 65535 := by
  simpa [fits16, Nat.lt_succ_iff] using h

/-- The record at a slot is in the table under its id. -/
theorem State.isSome_principal_of_atSlot {s : State} {slot : Nat} {p : Principal}
    (h : s.quota.atSlot slot = some p) : (s.principal p.id).isSome = true :=
  List.find?_isSome.2 ⟨p, List.mem_of_find?_eq_some h, by simp⟩

theorem State.principal_added_same {s : State} {p : Principal} (h : s.principal p.id = none) :
    (s.added p).principal p.id = some p := find_insertPrincipal_same h

theorem State.principal_added_ne (s : State) {p : Principal} {id : Nat} (h : id ≠ p.id) :
    (s.added p).principal id = s.principal id := find_insertPrincipal_ne h s.quota.principals

section Rows

variable {A : Tag → Bool} (hA : A .quiet = true)
include hA

/-! ### The quota unit (chapters 1 and 5) -/

theorem Path.addPrincipal (s : State) (id cls soft hard period initial : Nat) (hk : A .add = true)
    (ht : s.takes (.principalAdd id cls soft hard period initial) = true) :
    Path A s (s.addPrincipal id cls soft hard period initial).state := by
  unfold State.addPrincipal
  split
  · exact .refl s
  · rename_i hid
    split
    · exact .refl s
    · rename_i cls' _
      split
      · exact .refl s
      · rename_i hhard
        split
        · exact .refl s
        · rename_i hnew
          dsimp only
          split
          · exact .refl s
          · rename_i hroom
            have hid : 1 ≤ id ∧ id ≤ max32 := validId_iff.1 (by simpa using hid)
            have hhard : 1 ≤ hard ∧ hard ≤ max32 := validHard_iff.1 (by simpa using hhard)
            have hrange (hf : s.fetchedFits) : period ≤ 65535 ∧ initial ≤ max32 := by
              have hw := State.fits_of_takes ht hf
              simp only [Request.wellFormed, Bool.and_eq_true] at hw
              obtain ⟨⟨_, hperiod⟩, hinitial⟩ := hw
              exact ⟨le_of_fits16 hperiod, le_max32_of_fits32 hinitial⟩
            have hnone : s.principal id = none := by simpa using hnew
            have hadded := Path.of (A := A) (Move.add (s := s)
              (p := ({ slot := lowestFreeSlot s.quota.principals 0, id := id, cls := cls', soft := min soft hard,
                       hard := hard, period := period, lc := initial } : Principal).maintained s.clock.minute)
              hnone rfl (Nat.le_of_not_lt hroom) rfl rfl
              fun hf => ⟨hid, hhard, Nat.min_le_right _ _, (hrange hf).1, (hrange hf).2, Nat.zero_le _⟩) hk
            split
            · exact hadded.trans (.of (.queueNormal (Option.isSome_of_eq_some (State.principal_added_same hnone))) hA)
            · exact hadded

theorem Path.setLimits (s : State) (id soft hard period : Nat) (hk : A .account = true)
    (ht : s.takes (.principalLimits id soft hard period) = true) :
    Path A s (s.setLimits id soft hard period).state := by
  unfold State.setLimits
  split
  · exact .refl s
  · rename_i hvalid
    split
    · exact .refl s
    · rename_i p hp
      have hid := State.principal_id hp
      have hhard : 1 ≤ hard ∧ hard ≤ max32 := by
        simp only [Bool.or_eq_true, Bool.not_eq_true', not_or, Bool.not_eq_false] at hvalid
        exact validHard_iff.1 hvalid.2
      refine .trans (.rederive hA .limits _ hp hid hk (.account (lc := p.lc) (by rw [hid, hp]) (Nat.le_refl _) ?_))
        (.wake hA _ id)
      intro hf hr
      have hw := State.fits_of_takes ht hf
      simp only [Request.wellFormed, Bool.and_eq_true] at hw
      exact ⟨hr.1, hhard, Nat.min_le_right _ _, le_of_fits16 hw.2, hr.2.2.2.2⟩

theorem Path.removePrincipal (s : State) (id : Nat) (hk : A .account = true) :
    Path A s (s.removePrincipal id).state := by
  unfold State.removePrincipal
  split
  · exact .refl s
  · split
    · exact .refl s
    · rename_i p hp
      split
      · exact .refl s
      · rename_i hused
        split
        · exact .of (.queueUrgent (.inl (by rw [hp]; rfl))) hA
        · rename_i hsent
          simp only [Bool.or_eq_true, not_or, Bool.not_eq_true] at hsent
          exact .of (.drop hp (by simpa using hused) hsent.2) hk

theorem Path.creditRequest (s : State) (id n : Nat) (hk : A .account = true) :
    Path A s (s.creditRequest id n).state := by
  unfold State.creditRequest
  split
  · exact .refl s
  · split
    · exact .refl s
    · exact .credit hA s id n _ hk

theorem Path.sweepQueue (s : State) : Path A s s.sweepQueue := by
  unfold State.sweepQueue
  split
  · exact .refl s
  · rename_i p hp
    split
    · exact .of (.queueNormal (State.isSome_principal_of_atSlot hp)) hA
    · exact .refl s

theorem Path.refreshSweepStep (s : State) : ReachedBy A (execRefreshSweepStep s) s := by
  refine .intro ?_
  split
  · exact .trans (.sweepQueue hA s) (.of (.sweep (n := s.sweepQueue.notice.swept) rfl rfl rfl) hA)
  · exact .refl s

theorem Path.usageEntryUpdate (s : State) (hk : A .account = true) :
    ReachedBy A (execUsageEntryUpdate s) s := by
  refine .intro ?_
  split
  · rename_i f _ e rest _ _
    dsimp only
    split
    · exact .endDelivery hA s
    · refine .trans ?_ (.insertionTest hA _ s)
      have hupdated := Path.contribute hA s e.principal f.frame.sender e.value .peer hk
      split
      · exact hupdated.trans (.endDelivery hA _)
      · exact hupdated.trans (.bus hA { (s.contribute e.principal f.frame.sender e.value .peer).bus with
          delivery := some rest } rfl rfl rfl id)
  · exact .endDelivery hA s
  · exact .refl s
  · exact .refl s

theorem Path.evictionSweepStep (s : State) (hk : A .account = true) :
    ReachedBy A (execEvictionSweepStep s) s := by
  refine .intro ?_
  split
  · exact .refl s
  · rename_i e _
    split
    · exact .refl s
    · have hslot := Path.sweepSlot hA s e hk
      dsimp only
      split
      · exact hslot.trans (.endEviction hA _ _)
      · exact hslot.trans (.peers hA { (s.sweepSlot e).2.peers with
          eviction := some { (s.sweepSlot e).1 with pointer := e.pointer + 1, owed := e.owed - 1 } } Iff.rfl)

/-! ### The catalogue (chapter 6) -/

theorem Path.declareVolume (s : State) (v enable : Nat) : Path A s (s.declareVolume v enable).state := by
  unfold State.declareVolume
  split
  · exact .refl s
  · split
    · exact .refl s
    · exact .of .declare hA

theorem Path.createSnapshot (s : State) (v g : Nat) : Path A s (s.createSnapshot v g).state := by
  unfold State.createSnapshot
  split
  · exact .refl s
  · dsimp only
    split
    · exact .refl s
    · rename_i hdeclared
      split
      · exact .refl s
      · rename_i hnewer
        split
        · exact .refl s
        · rename_i hroom
          refine .of (.create (by simpa using hdeclared) (fun n hn => ?_) (Nat.lt_of_not_le hroom)) hA
          rw [Option.mem_def] at hn
          rw [hn] at hnewer
          simpa using hnewer

theorem Path.retireSnapshot (s : State) (v g : Nat) : Path A s (s.retireSnapshot v g).state := by
  unfold State.retireSnapshot
  split
  · exact .refl s
  · dsimp only
    split
    · exact .refl s
    · split
      · exact .refl s
      · rename_i r hr
        split
        · exact .refl s
        · rename_i hbase
          have hbase : (s.volume v).base ≠ some g := by simpa [Volume.hasBaseRole] using hbase
          split
          · exact .refl s
          · rename_i hstatus
            split
            · exact .refl s
            · split
              · rename_i hholds
                exact .of (.retireLater hr hbase hstatus hholds) hA
              · rename_i hholds
                exact .of (.retireNow hr hbase (Nat.eq_zero_of_not_pos hholds)) hA

/-! ### Nights (chapter 8) -/

omit hA in
theorem State.openedState_cases (s : State) : s.openedState = .sending ∨ s.openedState = .paused := by
  unfold State.openedState
  split
  · exact .inr rfl
  · exact .inl rfl

theorem Path.openNight (s : State) (v g backlog dawn : Nat) : Path A s (s.openNight v g backlog dawn).state := by
  unfold State.openNight
  split
  · exact .refl s
  · rename_i hv
    dsimp only
    split
    · exact .refl s
    · rename_i hdeclared
      split
      · exact .refl s
      · split
        · exact .refl s
        · rename_i hnight
          split
          · exact .refl s
          · rename_i r hr
            split
            · exact .refl s
            · rename_i hnewer
              simp only [not_or, Classical.not_not, Bool.not_eq_true] at hnewer
              split
              · exact .refl s
              · rename_i hretiring
                split
                · exact .refl s
                · refine .of (.nightOpens (by omega) (by simpa using hdeclared) (by simpa using hnight) hr hnewer.1
                    (fun b hb => ?_) (by simpa using hretiring) s.openedState_cases) hA
                  simpa [hb] using hnewer.2

theorem Path.resumeNight (s : State) (v dawn : Nat) : Path A s (s.resumeNight v dawn).state := by
  unfold State.resumeNight
  split
  · exact .refl s
  · dsimp only
    split
    · exact .refl s
    · split
      · exact .refl s
      · rename_i n hn
        split
        · exact .refl s
        · rename_i hsuspended
          split
          · exact .refl s
          · exact .of (.nightResumes hn (by simpa using hsuspended) s.openedState_cases) hA

theorem Path.endNightIfDone (s : State) (v : Nat) : Path A s (s.endNightIfDone v) := by
  unfold State.endNightIfDone
  split
  · exact .refl s
  · rename_i n hn
    have ends (hc : n.state.closing = true) (hp : n.permits = 0) : Path A s ((s.setVolume v
        ((s.volume v).endNight n)).raise (.nightState v n.generation (some n.state) none n.remaining .ended)) :=
      .trans (.of (.nightEnds hn hc hp) hA) (.raise hA _ _)
    split
    · rename_i hs
      split
      · rename_i hp
        exact ends (by rw [hs]; rfl) hp
      · exact .refl s
    · rename_i hs
      split
      · rename_i hp
        exact ends (by rw [hs]; rfl) hp
      · exact .refl s
    all_goals exact .refl s

theorem Path.closeNight (s : State) {v : Nat} {n : Night} (hn : (s.volume v).night = some n) {last : NightState}
    (hlast : last.closing = true) (hk : A .unsettled = true) : Path A s (s.closeNight v n last).settlePrecedence := by
  rw [State.closeNight_eq]
  exact (Path.of (.nightCloses hn hlast) hk).trans (.trans (.endNightIfDone hA _ v) (.settle hA _))

theorem Path.finishNight (s : State) (v : Nat) (hk : A .unsettled = true) : Path A s (s.finishNight v).state := by
  unfold State.finishNight
  split
  · exact .refl s
  · split
    · exact .refl s
    · split
      · exact .refl s
      · rename_i n hn
        split
        · exact .refl s
        · exact .refl s
        all_goals exact .closeNight hA s hn rfl hk

theorem Path.abandonNight (s : State) (v : Nat) (hk : A .unsettled = true) : Path A s (s.abandonNight v).state := by
  unfold State.abandonNight
  split
  · exact .refl s
  · split
    · exact .refl s
    · split
      · exact .refl s
      · rename_i n hn
        split
        · exact .refl s
        all_goals exact .closeNight hA s hn rfl hk

/-! ### CLOCK SET (R158) -/

omit hA in
theorem State.expiryRun_port (s : State) : ∃ l, s.expiryRun.port = s.port.raises l := by
  obtain ⟨_, _, _, _, _, ⟨l, hport⟩, _, _⟩ := s.takeRun_expired
  have hsame : s.takeRun.port = s.expiryRun.port := by
    unfold State.takeRun
    rw [(State.settlePrecedence_spec _).1]
  exact ⟨l, hsame.symm.trans hport⟩

theorem Path.setClock (s : State) (minute : Nat) (hk : A .unsettled = true) (ht : s.takes (.clockSet minute) = true) :
    Path A s (s.setClock minute).state := by
  have hminute (hf : s.expiryRun.fetchedFits) : minute ≤ max32 := by
    obtain ⟨l, hport⟩ := s.expiryRun_port
    have hfits : s.fetchedFits := by simpa only [State.fetchedFits, hport, Port.raises_phase] using hf
    exact le_max32_of_fits32 (State.fits_of_takes ht hfits)
  have hset := (Path.of (.run s) hk).trans (.of (.clock (c := { s.expiryRun.clock with
    minute := minute, seconds := 0, millis := 0 }) fun hf _ _ _ => ⟨Nat.zero_le _, Nat.zero_le _, hminute hf⟩) hA)
  exact hset.trans (.of (.takeRun _) hA)

end Rows

end Sys2Proof.Machine
end

section
/-! PROOFS. The restore engine, the permits, the arbiter and the hold timeout as paths of moves. -/

namespace Sys2Proof.Machine

/-! ### The arbiter stands apart from a credit -/

section WithArbiter

variable (s : State) (a : Arbiter)

/-- The part with another arbiter. -/
def State.withArbiter (s : State) (a : Arbiter) : State := { s with arbiter := a }

theorem State.rederive_withArbiter (id : Nat) (cause : QuotaCause) (op : Principal → Principal) :
    (s.withArbiter a).rederive id cause op = (s.rederive id cause op).withArbiter a := by
  cases h : s.principal id with
  | none => rw [State.rederive_none s cause op h]; exact State.rederive_none (s.withArbiter a) cause op h
  | some p => rw [State.rederive_eq s cause op h, State.rederive_eq (s.withArbiter a) cause op h]; rfl

theorem State.wakeJob_withArbiter (id k : Nat) : (s.withArbiter a).wakeJob id k = (s.wakeJob id k).withArbiter a := by
  have hjob : (s.withArbiter a).job k = s.job k := rfl
  unfold State.wakeJob
  rw [hjob]
  cases s.job k with
  | none => rfl
  | some j =>
    dsimp only
    split
    · rfl
    · rfl

theorem State.wake_withArbiter (id : Nat) : (s.withArbiter a).wake id = (s.wake id).withArbiter a := by
  have fold (l : List Nat) (t : State) : l.foldl (fun s k => s.wakeJob id k) (t.withArbiter a) =
      (l.foldl (fun s k => s.wakeJob id k) t).withArbiter a := by
    induction l generalizing t with
    | nil => rfl
    | cons k l ih => simp only [List.foldl_cons, State.wakeJob_withArbiter, ih]
  have hp : (s.withArbiter a).principal id = s.principal id := rfl
  unfold State.wake
  rw [hp]
  cases s.principal id with
  | none => rfl
  | some p =>
    dsimp only
    split
    · exact fold _ s
    · rfl

/-- A credit neither reads nor writes the arbiter. -/
theorem State.credit_withArbiter (id n : Nat) (cause : QuotaCause) :
    (s.withArbiter a).credit id n cause = (s.credit id n cause).withArbiter a := by
  cases h : s.principal id with
  | none => rw [State.credit_none s n cause h]; exact State.credit_none (s.withArbiter a) n cause h
  | some p =>
    have hqueued (c : Prop) [Decidable c] (t : State) : (if c then (t.withArbiter a).queueNormal id
        else t.withArbiter a) = (if c then t.queueNormal id else t).withArbiter a := by
      split
      · rfl
      · rfl
    refine (State.credit_eq (s.withArbiter a) n cause h).trans ?_
    rw [State.credit_eq s n cause h, State.rederive_withArbiter]
    dsimp only
    rw [apply_ite (fun t : State => t.withArbiter a), ← State.wake_withArbiter, ← hqueued]
    rfl

theorem State.creditBack_withArbiter (id chunk moved : Nat) :
    (s.withArbiter a).creditBack id chunk moved = (s.creditBack id chunk moved).withArbiter a := by
  unfold State.creditBack
  split
  · exact s.credit_withArbiter a id _ _
  · rfl

theorem State.creditBack_arbiter (id chunk moved : Nat) : (s.creditBack id chunk moved).arbiter = s.arbiter := by
  unfold State.creditBack
  split
  · exact s.credit_frame id _ _ .arbiter (by simp)
  · rfl

end WithArbiter

/-! ### Departures and slots of the restore table -/

theorem State.setJob_departure (s : State) (k : Nat) (j : Job) :
    (s.setJob k (some j)).departure = s.departure.setJob k (some { j with deferred := false }) := by
  have hjobs : (s.jobs.setIfInBounds k (some j)).map (fun j => j.map fun j => { j with deferred := false }) =
      (s.jobs.map fun j => j.map fun j => { j with deferred := false }).setIfInBounds k
        (some { j with deferred := false }) := by
    apply Vector.ext
    intro i hi
    simp only [Vector.getElem_map, Vector.getElem_setIfInBounds]
    split <;> rfl
  unfold State.departure State.setJob
  rw [hjobs]

section Rows

variable {A : Tag → Bool} (hA : A .quiet = true)
include hA

/-! ### The end of a job (R117) -/

theorem Path.endJobIfDone (s : State) (k : Nat) : Path A s (s.endJobIfDone k) := by
  unfold State.endJobIfDone
  split
  · exact .refl s
  · rename_i j hj
    have ends (hc : j.state.closing = true) (hp : j.permits = 0) : Path A s (s.endJob k j) := by
      have hended := (Path.of (.jobEnds hj hc hp) hA).trans (.raise hA _ (.restoreDone k j.tag j.volume j.generation
        j.principal j.charged j.moved j.expired (j.state = .cancelling)))
      unfold State.endJob
      dsimp only
      cases (s.volume j.volume).retiredByRelease j.generation with
      | none => exact hended
      | some r => exact hended.trans (.raise hA _ _)
    split
    · rename_i hs
      split
      · rename_i hp
        exact ends (by rw [hs]; rfl) hp
      · exact .refl s
    · rename_i hs
      split
      · rename_i hp
        exact ends (by rw [hs]; rfl) hp
      · exact .refl s
    all_goals exact .refl s

/-! ### RESTORE START, END and CANCEL (R113 to R116) -/

theorem Path.startRestore (s : State) (tag v g id : Nat) : Path A s (s.startRestore tag v g id).state := by
  unfold State.startRestore
  split
  · exact .refl s
  · rename_i hvalid
    split
    · exact .refl s
    · rename_i slot hslot
      split
      · exact .refl s
      · rename_i hid
        obtain ⟨p, hp⟩ := Option.ne_none_iff_exists'.1 (by simpa using hid)
        dsimp only
        split
        · exact .refl s
        · rename_i r hr
          split
          · exact .refl s
          · rename_i hstays
            have hr : (s.volume v).declared = true ∧ (s.volume v).snapshot g = some r := by
              split at hr
              · rename_i hd; exact ⟨hd, hr⟩
              · cases hr
            have hlt : slot < 8 := List.mem_range.1 (List.mem_of_find?_eq_some hslot)
            have hfree : s.job slot = none := by simpa using List.find?_some hslot
            have hv : v < 16 := by simp at hvalid; omega
            exact .of (.jobStarts hlt hfree hv hp hr.1 hr.2 (by simpa using hstays)) hA

theorem Path.closeJob (s : State) {slot : Nat} {j : Job} (hj : s.job slot = some j) {last : JobState}
    (hlast : last.closing = true) (hk : A .unsettled = true) : Path A s (s.closeJob slot j last).settlePrecedence := by
  have hto : last ≠ .syncWait := by rintro rfl; cases hlast
  have hclosed : Path A s ((match j.state with
      | .syncWait => s.dropHeldChunk slot
      | .quotaWait => s.raise (.restoreState slot j.tag j.principal .quotaWait last j.charged j.moved)
      | .running | .finishing | .cancelling => s).setJob slot (some { j with state := last, deferred := false })) := by
    have moved (t : State) (ht : t.job slot = some j) (hs : j.state ≠ .syncWait) :
        Path A t (t.setJob slot (some { j with state := last, deferred := false })) :=
      .of (.job ht hs hto (.inl rfl)) hk
    cases hs : j.state with
    | syncWait =>
      have hleaves := (Path.of (A := A) (.chunkLeaves (state := last) (deferred := false) hj hto (.inr ⟨hs, rfl⟩))
        hA).trans (.departure hA _)
      rw [State.setJob_departure] at hleaves
      exact hleaves
    | quotaWait => exact .trans (.raise hA s _) (moved _ hj (by rw [hs]; nofun))
    | running | finishing | cancelling => exact moved s hj (by rw [hs]; nofun)
  exact hclosed.trans (.trans (.endJobIfDone hA _ slot) (.settle hA _))

theorem Path.finishRestore (s : State) (slot tag : Nat) (hk : A .unsettled = true) :
    Path A s (s.finishRestore slot tag).state := by
  unfold State.finishRestore
  split
  · exact .refl s
  · split
    · exact .refl s
    · rename_i j hj
      split
      · exact .refl s
      · split
        · exact .refl s
        · exact .refl s
        all_goals exact .closeJob hA s hj rfl hk

theorem Path.cancelRestore (s : State) (slot tag : Nat) (hk : A .unsettled = true) :
    Path A s (s.cancelRestore slot tag).state := by
  unfold State.cancelRestore
  split
  · exact .refl s
  · split
    · exact .refl s
    · rename_i j hj
      split
      · exact .refl s
      · split
        · exact .refl s
        all_goals exact .closeJob hA s hj rfl hk

/-! ### Permits returned and reclaimed (R124 to R128) -/

theorem Path.creditBack (s : State) (id chunk moved : Nat) (hk : A .account = true) :
    Path A s (s.creditBack id chunk moved) := by
  unfold State.creditBack
  split
  · exact .credit hA s id _ _ hk
  · exact .refl s

theorem Path.returnPermit (s : State) {p : Permit} (hp : p ∈ s.arbiter.permits) {moved : Nat} (hmoved : moved ≤ p.chunk)
    (hk : A .account = true) (hu : A .unsettled = true) : Path A s (s.returnPermit p moved) := by
  unfold State.returnPermit
  cases howner : p.owner with
  | job slot id =>
    have hback : (s.withArbiter (s.arbiter.withoutPermit p.id)).settleChunk slot id p.chunk moved =
        match (s.creditBack id p.chunk moved).job slot with
        | none => (s.creditBack id p.chunk moved).withArbiter (s.arbiter.withoutPermit p.id)
        | some j => ((s.creditBack id p.chunk moved).setJob slot (some (j.returned p.chunk moved))).withArbiter
            (s.arbiter.withoutPermit p.id) := by
      unfold State.settleChunk
      rw [State.creditBack_withArbiter]
      rfl
    have hcredited := Path.creditBack hA s id p.chunk moved hk
    have harbiter := s.creditBack_arbiter id p.chunk moved
    have hp : p ∈ (s.creditBack id p.chunk moved).arbiter.permits := by rw [harbiter]; exact hp
    show Path A s (((s.withArbiter (s.arbiter.withoutPermit p.id)).settleChunk slot id p.chunk moved).jobPermitGone
      slot fun j => j)
    rw [hback]
    cases hj : (s.creditBack id p.chunk moved).job slot with
    | none =>
      dsimp only
      unfold State.jobPermitGone
      have hgone : ((s.creditBack id p.chunk moved).withArbiter (s.arbiter.withoutPermit p.id)).job slot = none := hj
      rw [hgone]
      exact hcredited.trans (.of (.permitStray hp (by simp [howner, State.ownerStands, hj]) (by rw [harbiter]; rfl)
        (by rw [harbiter]; exact fun h => h)) hA)
    | some j =>
      have hlt := State.job_lt _ hj
      have hreturned := hcredited.trans (.of (.jobReturn hp howner hj hmoved) hA)
      rw [harbiter] at hreturned
      dsimp only
      have hjob : (((s.creditBack id p.chunk moved).setJob slot (some (j.returned p.chunk moved))).withArbiter
          (s.arbiter.withoutPermit p.id)).job slot = some (j.returned p.chunk moved) := State.job_setJob_same _ _ hlt
      rw [State.jobPermitGone_eq _ _ hjob]
      refine .trans ?_ (.endJobIfDone hA _ slot)
      have hset := State.setJob_setJob (s.creditBack id p.chunk moved) slot (some (j.returned p.chunk moved))
        (some { j.returned p.chunk moved with permits := j.permits - 1 })
      have : (((s.creditBack id p.chunk moved).setJob slot (some (j.returned p.chunk moved))).withArbiter
          (s.arbiter.withoutPermit p.id)).setJob slot
            (some { j.returned p.chunk moved with permits := j.permits - 1 }) =
          ((s.creditBack id p.chunk moved).setJob slot
            (some { j.returned p.chunk moved with permits := j.permits - 1 })).withArbiter
              (s.arbiter.withoutPermit p.id) := congrArg (·.withArbiter (s.arbiter.withoutPermit p.id)) hset
      exact this ▸ hreturned
  | night v g =>
    dsimp only
    cases hn : (s.volume v).night with
    | none =>
      have hgone : ((s.withArbiter (s.arbiter.withoutPermit p.id)).volume v).night = none := hn
      show Path A s ((s.withArbiter (s.arbiter.withoutPermit p.id)).nightPermitGone v moved)
      unfold State.nightPermitGone
      rw [hgone]
      exact .of (.permitStray hp (by simp [howner, State.ownerStands, hn]) rfl fun h => h) hA
    | some n =>
      show Path A s ((s.withArbiter (s.arbiter.withoutPermit p.id)).nightPermitGone v moved)
      rw [State.nightPermitGone_eq (s.withArbiter (s.arbiter.withoutPermit p.id)) moved hn]
      exact .trans (.of (.nightReturn hp howner hn) hu) (.endNightIfDone hA _ v)

theorem Path.lateAnswer (s : State) {e : ExpiredPermit} (he : e ∈ s.arbiter.expired) {moved : Nat}
    (hmoved : moved ≤ e.chunk) (hk : A .account = true) (hu : A .unsettled = true) :
    Path A s (s.lateAnswer e moved) := by
  have hleaves (t : State) (ht : t.arbiter = s.arbiter) :
      Path A t (t.withArbiter (s.arbiter.withoutExpired e.id)) := by
    rw [← ht]; exact .of (.expiredLeaves t e.id) hA
  unfold State.lateAnswer
  cases howner : e.owner with
  | job slot id =>
    have hcredited := Path.creditBack hA s id e.chunk moved hk
    have harbiter := s.creditBack_arbiter id e.chunk moved
    show Path A s ((s.withArbiter (s.arbiter.withoutExpired e.id)).settleChunk slot id e.chunk moved)
    unfold State.settleChunk
    rw [State.creditBack_withArbiter]
    dsimp only
    have hjob : ((s.creditBack id e.chunk moved).withArbiter (s.arbiter.withoutExpired e.id)).job slot =
        (s.creditBack id e.chunk moved).job slot := rfl
    rw [hjob]
    cases hj : (s.creditBack id e.chunk moved).job slot with
    | none => exact hcredited.trans (hleaves _ harbiter)
    | some j =>
      have hlate := hcredited.trans (.of (.jobLate (e := e) (by rw [harbiter]; exact he) howner hj hmoved) hA)
      rw [harbiter] at hlate
      exact hlate
  | formerJob id =>
    show Path A s ((s.withArbiter (s.arbiter.withoutExpired e.id)).creditBack id e.chunk moved)
    rw [State.creditBack_withArbiter]
    exact (Path.creditBack hA s id e.chunk moved hk).trans (hleaves _ (s.creditBack_arbiter id e.chunk moved))
  | night v g =>
    dsimp only
    split
    · exact hleaves s rfl
    · rename_i n hn
      split
      · exact .trans (hleaves s rfl) (.of (.night (state := n.state) hn (.inl rfl)) hu)
      · exact hleaves s rfl

theorem Path.permitDone (s : State) (id moved : Nat) (hk : A .account = true) (hu : A .unsettled = true) :
    Path A s (s.permitDone id moved).state := by
  unfold State.permitDone
  split
  · rename_i p hp
    exact .trans (.returnPermit hA s (List.mem_of_find?_eq_some hp) (Nat.min_le_right _ _) hk hu) (.settle hA _)
  · split
    · rename_i e he
      exact .trans (.lateAnswer hA s (List.mem_of_find?_eq_some he) (Nat.min_le_right _ _) hk hu) (.settle hA _)
    · exact .refl s

theorem Path.expirePermit (s : State) {p : Permit} (hp : p ∈ s.arbiter.permits) : Path A s (s.expirePermit p) := by
  have hstray (h : s.ownerStands p.owner = false) : Path A s (s.withArbiter (s.arbiter.reclaimed p)) := by
    refine .of (.permitStray hp h rfl fun hcap => ?_) hA
    have hlist (l : List ExpiredPermit) (e : ExpiredPermit) (hl : l.length ≤ 32) :
        ((if l.length < 32 then l else l.drop 1) ++ [e]).length ≤ 32 := by
      split <;> simp <;> omega
    exact hlist _ _ hcap
  unfold State.expirePermit
  obtain ⟨_, owner, _, _⟩ := p
  cases owner with
  | job slot id =>
    dsimp only
    unfold State.jobPermitGone
    split
    · rename_i hj
      have hj : s.job slot = none := hj
      exact (hstray (by simp [State.ownerStands, hj])).trans (.raise hA _ _)
    · rename_i j hj
      exact ((Path.of (.jobExpire hp rfl hj) hA).trans (.raise hA _ _)).trans (.endJobIfDone hA _ slot)
  | night v g =>
    dsimp only
    unfold State.nightPermitGone
    split
    · rename_i hn
      have hn : (s.volume v).night = none := hn
      exact (hstray (by simp [State.ownerStands, hn])).trans (.raise hA _ _)
    · rename_i n hn
      exact ((Path.of (.nightExpire hp rfl hn) hA).trans (.raise hA _ _)).trans (.endNightIfDone hA _ v)

end Rows

end Sys2Proof.Machine
end

section
/-! PROOFS. The arbiter, the hold timeout, the hold line and the configuration load as paths of moves, and with them the
path of every command. -/

namespace Sys2Proof.Machine

/-! ### The configuration that a load can give is legal (R173) -/

theorem clampField_range {low high : Nat} (h : low ≤ high) (v : Nat) :
    low ≤ (clampField low high v).1 ∧ (clampField low high v).1 ≤ high ∧ (clampField low high v).2 ≤ 1 := by
  unfold clampField
  split
  · exact ⟨Nat.le_refl _, h, Nat.le_refl _⟩
  · split
    · exact ⟨h, Nat.le_refl _, Nat.le_refl _⟩
    · exact ⟨by dsimp only; omega, by dsimp only; omega, Nat.zero_le _⟩

theorem clampFlag_count (dflt : Bool) (v : Nat) : (clampFlag dflt v).2 ≤ 1 := by
  unfold clampFlag
  split <;> simp

/-- The isolation time is in its range, or raised to the lapse time, and not below it (R173). -/
theorem clampIsolation_range {lapse : Nat} (h : lapse ≤ 80000) (v : Nat) :
    1000 ≤ (clampIsolation lapse v).1 ∧ (clampIsolation lapse v).1 ≤ 80000 ∧ lapse ≤ (clampIsolation lapse v).1 ∧
    (clampIsolation lapse v).2 ≤ 1 := by
  have hfield := clampField_range (show 1000 ≤ 60000 by decide) v
  unfold clampIsolation
  dsimp only
  split
  · exact ⟨by dsimp only; omega, h, Nat.le_refl _, Nat.le_refl _⟩
  · exact ⟨hfield.1, Nat.le_trans hfield.2.1 (by decide), by omega, hfield.2.2⟩

/-- The lapse time of counts and intervals in their ranges is at most 80,000 (R63, R173). -/
theorem lapse_le {count interval : Nat} (hc : count ≤ 8) (hi : interval ≤ 10000) : count * interval ≤ 80000 :=
  Nat.le_trans (Nat.mul_le_mul hc hi) (by decide)

theorem legalConfig_clampImage (image : List Byte) : legalConfig (clampImage image).1 := by
  have hrange (low high v : Nat) (h : low ≤ high) :
      low ≤ (clampField low high v).1 ∧ (clampField low high v).1 ≤ high :=
    ⟨(clampField_range h v).1, (clampField_range h v).2.1⟩
  have hlapse := lapse_le (hrange 2 8 (valueAt image 7 1) (by decide)).2
    (hrange 100 10000 (valueAt image 5 2) (by decide)).2
  obtain ⟨h1, h2, h3, _⟩ := clampIsolation_range hlapse (valueAt image 8 2)
  exact ⟨hrange _ _ _ (by decide), hrange _ _ _ (by decide), hrange _ _ _ (by decide), ⟨h1, h2⟩, h3,
    (hrange 0 65535 _ (by decide)).2, hrange _ _ _ (by decide), hrange _ _ _ (by decide), hrange _ _ _ (by decide),
    hrange _ _ _ (by decide), hrange _ _ _ (by decide), hrange _ _ _ (by decide), hrange _ _ _ (by decide),
    (hrange 0 500 _ (by decide)).2, hrange _ _ _ (by decide), (hrange 0 _ _ (Nat.zero_le _)).2,
    hrange _ _ _ (by decide), (hrange 0 60 _ (by decide)).2⟩

theorem clampImage_count (image : List Byte) : (clampImage image).2 ≤ 19 := by
  have hfield (low high v : Nat) : (clampField low high v).2 ≤ 1 := by
    unfold clampField
    split
    · exact Nat.le_refl _
    · split <;> simp
  have hisolation (lapse v : Nat) : (clampIsolation lapse v).2 ≤ 1 := by
    unfold clampIsolation
    dsimp only
    split
    · exact Nat.le_refl _
    · exact hfield _ _ _
  have add {a b m n : Nat} (ha : a ≤ m) (hb : b ≤ n) : a + b ≤ m + n := Nat.add_le_add ha hb
  unfold clampImage
  exact add (add (add (add (add (add (add (add (add (add (add (add (add (add (add (add (add (add (hfield _ _ _)
    (hfield _ _ _)) (hfield _ _ _)) (hisolation _ _)) (hfield _ _ _)) (hfield _ _ _)) (hfield _ _ _)) (hfield _ _ _))
    (hfield _ _ _)) (hfield _ _ _)) (hfield _ _ _)) (hfield _ _ _)) (hfield _ _ _)) (hfield _ _ _)) (hfield _ _ _))
    (clampFlag_count _ _)) (clampFlag_count _ _)) (hfield _ _ _)) (hfield _ _ _)

/-- What the loader's record of a load obeys (R173). -/
def Loader.legal (l : Loader) : Prop :=
  legalConfig l.config ∧ l.clamped ≤ 19 ∧ (l.source = .defaults → l.config = {} ∧ l.clamped = 0)

theorem legalConfig_default : legalConfig {} := by
  unfold legalConfig Config.lapseTime
  decide

theorem Loader.legal_defaults {l : Loader} (hconfig : l.config = {}) (hclamped : l.clamped = 0) : l.legal :=
  ⟨by rw [hconfig]; exact legalConfig_default, by omega, fun _ => ⟨hconfig, hclamped⟩⟩

theorem loadOutcome_legal (read : LoadRead) : (loadOutcome read).legal := by
  cases read with
  | noAck place => exact Loader.legal_defaults rfl rfl
  | image bytes =>
    unfold loadOutcome
    dsimp only
    split
    · exact Loader.legal_defaults rfl rfl
    · split
      · exact Loader.legal_defaults rfl rfl
      · exact ⟨legalConfig_clampImage bytes, clampImage_count bytes, nofun⟩

section Rows

variable {A : Tag → Bool} (hA : A .quiet = true)
include hA

/-! ### The configuration load (R172, R174) -/

omit hA in
/-- The end of the load in its blocks: the loader, the peer table, the sweep, the bus controller switched on, and the
port with its records and recorded starts. -/
theorem State.endLoad_eq (s : State) (l : Loader) : ∃ (station : StationState) (p : Peers) (records : List EventRecord),
    station ≠ .configuring ∧ p.station = station ∧
    s.endLoad l =
      { s with
        loader := l
        peers := p
        notice := { s.notice with refreshPointer := 0, sweepCredit := 0 }
        bus := s.bus.switchedOn
        port := (s.port.raises records).recordedStarts } := by
  have hlearn (t : State) : ∃ (station : StationState) (p : Peers) (records : List EventRecord),
      station ≠ .configuring ∧ p.station = station ∧
      t.learn = { t with peers := p, port := t.port.raises records } := by
    unfold State.learn
    dsimp only
    split
    · exact ⟨.joined, _, [_, _], nofun, rfl, rfl⟩
    · exact ⟨.learning, _, [_], nofun, rfl, rfl⟩
  obtain ⟨station, p, records, hne, hp, hlearned⟩ :=
    hlearn (State.raise { s with loader := l } (.configLoaded l.source l.reason l.clamped s.straps.station))
  unfold State.endLoad
  dsimp only
  rw [hlearned]
  refine ⟨station, _, .configLoaded l.source l.reason l.clamped s.straps.station :: records, hne, ?_, rfl⟩
  exact hp

omit hA in
/-- The recorded starts of processes whose rings are set (R162, R166). -/
theorem PortStep.recordedStarts (s : State) : PortStep s s.port.recordedStarts where
  fault h := by
    have hne : ¬ (s.port.requestState = .stopped ∧ s.port.request.startRecorded ∧ s.port.requestRing.size ≠ 0) :=
      fun hs => by rw [h] at hs; cases hs.1
    exact (if_neg hne).trans h
  fits := id
  events := id
  rings := by
    rintro ⟨h1, h2, h3, h4, h5⟩
    refine ⟨h1, h2, ?_, ?_, ?_⟩ <;> simp only [Port.recordedStarts]
    · split
      · rename_i hset; exact fun _ _ => hset.2.2
      · exact h3
    · split
      · rename_i hset; exact fun _ _ => hset.2.2
      · exact h4
    · split
      · exact fun _ => rfl
      · exact h5

theorem Path.endLoad (s : State) (l : Loader) (hs : s.isConfiguring) (hl : l.legal) (hk : A .load = true) :
    Path A s (s.endLoad l) := by
  obtain ⟨station, p, records, hne, hp, heq⟩ := s.endLoad_eq l
  have hloaded := Path.of (A := A) (.load (l := l) (p := p)
    (n := { s.notice with refreshPointer := 0, sweepCredit := 0 })
    (b := s.bus.switchedOn) hs hl (by rw [hp]; exact hne) rfl rfl rfl rfl rfl rfl rfl) hk
  rw [heq]
  exact hloaded.trans (.trans (.raises hA _ records) (.port hA (.recordedStarts _)))

theorem Path.configLoadEnd (read : LoadRead) (s : State) (hk : A .load = true) :
    ReachedBy A (execConfigLoadEnd read s) s := by
  refine .intro ?_
  split
  · rename_i hs
    exact .endLoad hA s { loadOutcome read with driven := _ } hs (loadOutcome_legal read) hk
  · exact .refl s

theorem Path.configLoadBusHeld (s : State) (hk : A .load = true) :
    ReachedBy A (execConfigLoadBusHeld s) s := by
  refine .intro ?_
  split
  · rename_i hs
    exact .endLoad hA s { reason := .busHeld, driven := _ } hs (Loader.legal_defaults rfl rfl) hk
  · exact .refl s

/-! ### The hold line and the reload (R145, R147, R148) -/

theorem Path.offholdRise (s : State) (hk : A .unsettled = true) : ReachedBy A (execOffholdRise s) s := by
  refine .intro ?_
  split
  · exact .refl s
  · split
    · exact .trans (.of (.hold s) hk) (.trans (.shiftNights hA _ _ _ _ hk (.inl rfl) (.inr rfl)) (.settle hA _))
    · rename_i hoff
      exact .of (.pins (by simpa using hoff)) hA

theorem Path.offholdFall (s : State) : ReachedBy A (execOffholdFall s) s :=
  .intro (.of (.pins (by simp [State.holdInForce])) hA)

theorem Path.reload (s : State) (hk : A .unsettled = true) : ReachedBy A (execReload s) s := by
  refine .intro ?_
  split
  · exact .refl s
  · exact .trans (.reloaded hA s hk) (.settle hA _)

/-! ### The hold timeout (R34, R42) -/

omit hA in
/-- A list around the element at a place, and without it. -/
theorem eraseIdx_of_getElem? {α : Type} {l : List α} {place : Nat} {x : α} (h : l[place]? = some x) :
    ∃ l₁ l₂, l = l₁ ++ x :: l₂ ∧ l.eraseIdx place = l₁ ++ l₂ := by
  obtain ⟨hlt, rfl⟩ := List.getElem?_eq_some_iff.1 h
  exact ⟨l.take place, l.drop (place + 1), by simp, List.eraseIdx_eq_take_drop_succ _ _⟩

theorem Path.holdTimeout (place : Nat) (s : State) : ReachedBy A (execHoldTimeout place s) s := by
  refine .intro ?_
  split
  · exact .refl s
  · rename_i e he
    split
    · obtain ⟨l₁, l₂, hheld, herase⟩ := eraseIdx_of_getElem? he
      unfold State.expireHeld
      dsimp only
      refine .trans ?_ (.departure hA _)
      rw [herase]
      cases ho : e.origin with
      | charge address =>
        have hleaves := Path.chargeLeaves hA (s := s) (l₁ := l₁) (l₂ := l₂) (e := e) (by simp [HeldEntry.isChunk, ho])
        rw [← hheld] at hleaves
        exact hleaves.trans (.answerHeld hA _ address _)
      | restore slot =>
        dsimp only
        split
        · rename_i hj
          exact .of (.strayLeaves hheld ho hj) hA
        · rename_i j hj
          exact .of (.chunkLeaves (state := .running) (deferred := j.deferred) hj nofun
            (.inl ⟨l₁, e, l₂, hheld, ho, rfl⟩)) hA
    · exact .refl s

theorem Path.permitTimeout (id : Nat) (s : State) : ReachedBy A (execPermitTimeout id s) s := by
  refine .intro ?_
  split
  · exact .refl s
  · rename_i p hp
    split
    · exact .expirePermit hA s (List.mem_of_find?_eq_some hp)
    · exact .refl s

/-! ### The arbiter (R120 to R122) -/

theorem Path.grantChunk (s : State) {slot : Nat} {j : Job} (hj : s.job slot = some j) (hwaits : j.waiting = true)
    (hslots : s.slotsInUse < s.config.readSlots) (hk : A .chunk = true) (hu : A .unsettled = true)
    (hv : s.evaluateChunk j.principal s.config.chunk = .granted) :
    Path A s (s.grantChunk slot j s.config.chunk) := by
  have hgrant := Path.grant_of_move hA s j.principal s.config.chunk .restore hk fun p hp =>
    .chunk (by rw [State.principal_id hp, hp])
      (State.campus_le_of_evaluateChunk (s := s) (id := j.principal) (by rw [hv]; nofun) hp)
  have hconfig := s.grant_config j.principal s.config.chunk .restore
  have hheld : (s.grant j.principal s.config.chunk .restore).quota.held = s.quota.held := by
    cases h : s.principal j.principal with
    | none => rw [State.grant_none s _ _ h]
    | some p => rw [State.grant_eq_rederive s _ _ h, State.rederive_eq s _ _ h]; rfl
  have hissue := hgrant.trans (.of (.chunkGranted (s := s.grant j.principal s.config.chunk .restore) (slot := slot)
    (j := j)
    ((s.grant_job _ _ _ slot).trans hj) hwaits (by
      simp only [State.slotsInUse, Quota.setAside, hheld, State.grant_arbiter, hconfig]
      exact hslots)) hu)
  rw [hconfig] at hissue
  exact hissue.trans (.raise hA _ _)

theorem Path.chargeChunk (s : State) {slot : Nat} {j : Job} (hj : s.job slot = some j) (hwaits : j.waiting = true)
    (hslots : s.slotsInUse < s.config.readSlots) (hk : A .chunk = true) (hu : A .unsettled = true) :
    Path A s (s.chargeChunk slot j).2 := by
  have hrunning : j.state = .running := by
    simp only [Job.waiting, Bool.and_eq_true, decide_eq_true_eq] at hwaits
    exact hwaits.1.1
  have hfrom : j.state ≠ .syncWait := by rw [hrunning]; nofun
  have hrefuse : Path A s (s.refuseChunk slot j) :=
    .trans (.of (.job (state := .quotaWait) (deferred := j.deferred) hj hfrom nofun (.inl rfl)) hu) (.raise hA _ _)
  unfold State.chargeChunk
  split
  · rename_i hv
    exact .grantChunk hA s hj hwaits hslots hk hu hv
  · rename_i hv
    split
    · rename_i hroom
      have hurgent := Path.of (A := A) (.queueUrgent (s := s) (.inl (State.isSome_of_evaluateChunk_held hv))) hA
      exact hurgent.trans (.of (.heldChunk (s := s.queueUrgent j.principal) (slot := slot) hj hwaits hslots hroom
        ((Notice.queueUrgent_urgent _ _ _).2 (.inl rfl))) hu)
    · exact .of (.job (state := j.state) (deferred := true) hj hfrom hfrom (.inl rfl)) hu
  · exact hrefuse
  · exact hrefuse
  · exact hrefuse

theorem Path.restoreChoice (s : State) (hslots : s.slotsInUse < s.config.readSlots) (hk : A .chunk = true)
    (hu : A .unsettled = true) : Path A s s.restoreChoice.2 := by
  unfold State.restoreChoice
  split
  · exact .refl s
  · rename_i slot hslot
    split
    · exact .refl s
    · rename_i j hj
      obtain ⟨_, _, _, hwaits, _⟩ := firstAfter_some hslot
      rw [hj] at hwaits
      exact .trans (.of (.pointer s slot) hA) (.chargeChunk hA (s.pointedAt slot) hj hwaits hslots hk hu)

theorem Path.duplicationChoice (s : State) (hslots : s.slotsInUse < s.config.readSlots) (hu : A .unsettled = true) :
    Path A s s.duplicationChoice := by
  unfold State.duplicationChoice
  split
  · exact .refl s
  · split
    · exact .refl s
    · rename_i n hn
      exact .trans (.of (.nightIssue hn hslots) hu) (.raise hA _ _)

omit hA in
theorem Path.setPrecedence (s : State) (n : Nat) (hu : A .unsettled = true) (h : n ≤ s.config.restoreWeight) :
    Path A s (s.setPrecedence n) := .of (.precedence fun _ => h) hu

omit hA in
theorem State.restoreChoice_keeps (s : State) :
    s.restoreChoice.2.config = s.config ∧ s.restoreChoice.2.arbiter.precedence = s.arbiter.precedence := by
  unfold State.restoreChoice
  split
  · exact ⟨rfl, rfl⟩
  · rename_i slot _
    split
    · exact ⟨rfl, rfl⟩
    · rename_i j _
      refine ⟨?_, ((s.pointedAt slot).chargeChunk_keeps slot j).2.1⟩
      obtain h | h | h | h := (s.pointedAt slot).chargeChunk_cases slot j
      · refine (congrArg (fun x => x.2.config) h).trans ?_
        exact (s.pointedAt slot).grant_config j.principal s.config.chunk .restore
      all_goals exact congrArg (fun x => x.2.config) h

theorem Path.arbitrate (s : State) (hk : A .chunk = true) (hu : A .unsettled = true) : Path A s s.arbitrate := by
  unfold State.arbitrate
  split
  · exact .refl s
  · rename_i hfull
    have hslots := Nat.lt_of_not_le hfull
    split
    · exact .refl s
    · exact .trans (.setPrecedence s 0 hu (Nat.zero_le _)) (.restoreChoice hA _ hslots hk hu)
    · exact .trans (.setPrecedence s 0 hu (Nat.zero_le _)) (.duplicationChoice hA _ hslots hu)
    · split
      · rename_i hbelow
        obtain ⟨hconfig, _⟩ := s.restoreChoice_keeps
        have hchoice := Path.restoreChoice hA s hslots hk hu
        refine .trans (t := if s.restoreChoice.1 then s.restoreChoice.2.setPrecedence (s.arbiter.precedence + 1)
          else s.restoreChoice.2) ?_ (.settle hA _)
        split
        · exact hchoice.trans (.setPrecedence _ _ hu (by rw [hconfig]; exact hbelow))
        · exact hchoice
      · exact .trans (.setPrecedence s 0 hu (Nat.zero_le _)) (.duplicationChoice hA _ hslots hu)

end Rows

end Sys2Proof.Machine
end

section
/-! PROOFS. Every command answers with a state that a path of the moves allowed to it reaches, and what every step keeps
for that reason alone. -/

namespace Sys2Proof.Machine

/-- A command that only changes the peer table and raises records, or does nothing. -/
theorem Path.peerTimer {A : Tag → Bool} (hA : A .quiet = true) (s : State) :
    (∀ station, ReachedBy A (execPeerLapse station s) s) ∧ ReachedBy A (execIsolation s) s ∧
    ReachedBy A (execLearningTimeReached s) s ∧ ReachedBy A (execPresenceDue s) s := by
  refine ⟨fun station => .intro ?_, .intro ?_, .intro ?_, .intro ?_⟩
  · split
    · split
      · exact .lapse hA s station
      · exact .refl s
    · exact .refl s
  · split
    · rename_i h
      exact .enterStation hA (by rw [h.1]; nofun) .isolated _ nofun rfl
    · exact .refl s
  · split
    · rename_i h
      exact .join hA (by rw [h.1]; nofun)
    · exact .refl s
  · split
    · exact .peers hA { s.peers with presenceCount := 0, presenceDue := true } Iff.rfl
    · exact .refl s

/-- The commands of the transmitter that raise no record and touch no other block. -/
theorem Path.transmitterTimer {A : Tag → Bool} (hA : A .quiet = true) (htx : A .tx = true) (s : State) :
    ReachedBy A (execHoldoffEnd s) s ∧ ReachedBy A (execBackoffEnd s) s ∧
    ReachedBy A (execInterframeGapComplete s) s ∧ ReachedBy A (execCollision s) s := by
  refine ⟨.intro ?_, .intro ?_, .intro ?_, .intro ?_⟩
  · split
    · split
      · exact .setTx s _ htx fun h => ⟨h.1, nofun⟩
      · exact .refl s
    all_goals exact .refl s
  · split
    · rename_i hs
      exact .deferring s _ htx fun h => h.2 hs
    all_goals exact .refl s
  · split
    · exact .trans (.setTx s { s.bus.tx with
        state := .sending, gapRunning := false, driven := (s.bus.tx.frame.map Frame.bytes).getD [] } htx
        fun h => ⟨h.1, nofun⟩) (.line hA _ { s.bus.line with echo := true })
    · exact .refl s
  · split
    · exact .trans (.setTx s { s.bus.tx with state := .jamming } htx fun h => ⟨h.1, nofun⟩)
        (.line hA _ { s.bus.line with busy := true })
    all_goals exact .refl s

theorem Path.jamEnd {A : Tag → Bool} (hA : A .quiet = true) (htx : A .tx = true) (s : State) :
    ReachedBy A (execJamEnd s) s := by
  refine .intro ?_
  split
  · split
    · rename_i hbelow
      exact .backOff hA s htx hbelow
    · exact .abandonFrame hA s _ htx
  · exact .refl s

theorem Path.transmitCompletion {A : Tag → Bool} (hA : A .quiet = true) (htx : A .tx = true)
    (hcharge : A .charge = true) (hchunk : A .chunk = true) (s : State) :
    ReachedBy A (execTransmitCompletion s) s := by
  have hidle : Path A s (s.setTx { s.bus.tx with state := .idle, frame := none }) :=
    .setTx s _ htx fun h => ⟨h.1, nofun⟩
  refine .intro ?_
  split
  · exact hidle.trans (.sync hA hcharge hchunk _ htx)
  · exact hidle
  · exact .refl s

theorem Path.transmitterTakeFrame {A : Tag → Bool} (hA : A .quiet = true) (htx : A .tx = true) (s : State) :
    ReachedBy A (execTransmitterTakeFrame s) s := by
  refine .intro ?_
  split
  · split
    · exact .trans (.peers hA { s.peers with presenceDue := false } Iff.rfl)
        (.deferring _ _ htx fun _ => Nat.le_add_right 1 15)
    · split
      · rename_i hoffers
        simp only [Notice.offers, Bool.and_eq_true, Option.isNone_iff_eq_none, Bool.not_eq_true',
          Bool.and_eq_false_iff, List.isEmpty_eq_false_iff] at hoffers
        refine .trans (.of (.frameTaken hoffers.1 ?_) htx) (.deferring _ _ htx fun _ => Nat.le_add_right 1 15)
        simpa [List.append_eq_nil_iff, Classical.or_iff_not_imp_left] using hoffers.2
      · exact .refl s
  all_goals exact .refl s

theorem Path.burstReceived {A : Tag → Bool} (hA : A .quiet = true) (htx : A .tx = true) (bytes : List Byte)
    (s : State) : ReachedBy A (execBurstReceived bytes s) s := by
  refine .intro ?_
  split
  · exact .refl s
  · split
    · exact .burstEnded hA s bytes htx
    · exact .trans (.lineBusy hA s) (.burstEnded hA _ bytes htx)

theorem Path.frameDelivery {A : Tag → Bool} (hA : A .quiet = true) (s : State) :
    ReachedBy A (execFrameDelivery s) s := by
  refine .intro ?_
  split
  · exact .deliver hA s _
  · exact .refl s
  · exact .refl s

theorem Path.lineBecomesBusy {A : Tag → Bool} (hA : A .quiet = true) (s : State) :
    ReachedBy A (execLineBecomesBusy s) s := by
  refine .intro ?_
  split
  · exact .refl s
  · exact .lineBusy hA s

/-- A query changes nothing but the answer in hand. -/
theorem Path.query {A : Tag → Bool} (hA : A .quiet = true) {s : State} {r : Request} {execute : State → Reply}
    (h : (execute s).state = s) : ReachedBy A (s.serve r execute) s :=
  State.serve_reached hA fun _ => by rw [h]; exact .refl s

theorem State.queryCatalogue_state (s : State) (v start : Nat) : (s.queryCatalogue v start).state = s := by
  unfold State.queryCatalogue
  split
  · rfl
  · split <;> rfl

theorem State.queryNight_state (s : State) (v : Nat) : (s.queryNight v).state = s := by
  unfold State.queryNight
  split
  · rfl
  · split <;> rfl

theorem State.queryPrincipal_state (s : State) (id : Nat) : (s.queryPrincipal id).state = s := by
  unfold State.queryPrincipal
  split
  · rfl
  · split <;> rfl

theorem State.queryPeer_state (s : State) (k : Nat) : (s.queryPeer k).state = s := by
  unfold State.queryPeer
  split <;> rfl

/-- Every command answers with a state that a path of the moves allowed to it reaches. -/
theorem exec_reached (i : Instr) (s : State) : ReachedBy (tagsOf i) (exec i s) s := by
  cases i with
  | hardwareReset station wide => exact .intro (.of .reset rfl)
  | configLoadBusHeld => exact Path.configLoadBusHeld rfl s rfl
  | configLoadEnd read => exact Path.configLoadEnd rfl read s rfl
  | offholdRise => exact Path.offholdRise rfl s rfl
  | offholdFall => exact Path.offholdFall rfl s
  | stationTick => exact .intro (.ticked rfl s)
  | reload => exact Path.reload rfl s rfl
  | deadlineExpiryRun => exact .intro (.of (.takeRun s) rfl)
  | holdTimeout place => exact Path.holdTimeout rfl place s
  | peerLapse station => exact (Path.peerTimer rfl s).1 station
  | isolation => exact (Path.peerTimer rfl s).2.1
  | learningTimeReached => exact (Path.peerTimer rfl s).2.2.1
  | presenceDue => exact (Path.peerTimer rfl s).2.2.2
  | refreshSweepStep => exact Path.refreshSweepStep rfl s
  | evictionSweepStep => exact Path.evictionSweepStep rfl s rfl
  | permitTimeout id => exact Path.permitTimeout rfl id s
  | holdoffEnd => exact (Path.transmitterTimer rfl rfl s).1
  | backoffEnd => exact (Path.transmitterTimer rfl rfl s).2.1
  | interframeGapComplete => exact (Path.transmitterTimer rfl rfl s).2.2.1
  | collision => exact (Path.transmitterTimer rfl rfl s).2.2.2
  | jamEnd => exact Path.jamEnd rfl rfl s
  | transmitCompletion => exact Path.transmitCompletion rfl rfl rfl rfl s
  | transmitterTakeFrame => exact Path.transmitterTakeFrame rfl rfl s
  | burstReceived bytes => exact Path.burstReceived rfl rfl bytes s
  | frameDelivery => exact Path.frameDelivery rfl s
  | usageEntryUpdate => exact Path.usageEntryUpdate rfl s rfl
  | arbiterChoice => exact .intro (.trans (.arbitrate rfl s rfl rfl) (.insertionTest rfl _ s))
  | blockedChargeReexecution => exact Path.blockedChargeReexecution rfl s rfl
  | requestDescriptorFetch bytes => exact Path.requestDescriptorFetch rfl bytes s
  | requestWritebackDone held => exact Path.requestWritebackDone rfl held s
  | eventDescriptorFetch own next => exact Path.eventDescriptorFetch rfl own next s
  | eventPostDone => exact Path.eventPostDone rfl s
  | linkError access => exact Path.linkError rfl access s
  | autoPoll found => exact Path.autoPoll rfl found s
  | requestStart control => exact Path.requestStart rfl control s
  | requestStop control => exact Path.requestStop rfl control s
  | eventStart control => exact Path.eventStart rfl control s
  | eventStop control => exact Path.eventStop rfl control s
  | pollDemand control => exact Path.pollDemand rfl control s
  | portReset control => exact Path.portReset rfl control s
  | ringBaseWrite ring high value => exact Path.ringBaseWrite rfl ring high value s
  | ringSizeWrite ring value => exact Path.ringSizeWrite rfl ring value s
  | flagsClear value => exact .intro (.registers rfl s (s.port.clearFlags value).flags s.port.mask s.port.autoPoll)
  | maskWrite value => exact .intro (.registers rfl s s.port.flags (s.port.writeMask value).mask s.port.autoPoll)
  | autoPollIntervalWrite value => exact .intro (.registers rfl s s.port.flags s.port.mask (value.toNat % 256))
  | otherRegisterWrite offset width value => exact .intro (.refl s)
  | principalAdd id cls soft hard period initial =>
    exact State.serveInserting_reached (execute := (·.addPrincipal id cls soft hard period initial)) rfl
      (.addPrincipal rfl s id cls soft hard period initial rfl)
  | principalLimits id soft hard period =>
    exact State.serveInserting_reached (execute := (·.setLimits id soft hard period)) rfl
      (.setLimits rfl s id soft hard period rfl)
  | principalRemove id =>
    exact State.serve_reached (execute := (·.removePrincipal id)) rfl fun _ => .removePrincipal rfl s id rfl
  | principalQuery id => exact Path.query (execute := (·.queryPrincipal id)) rfl (s.queryPrincipal_state id)
  | credit id amount =>
    exact State.serve_reached (execute := (·.creditRequest id amount)) rfl fun _ => .creditRequest rfl s id amount rfl
  | charge id amount => exact Path.charge rfl id amount s rfl
  | peerEvict station =>
    exact State.serve_reached (execute := (·.evictPeer station)) rfl fun _ => .evictPeer rfl s station
  | peerQuery station => exact Path.query (execute := (·.queryPeer station)) rfl (s.queryPeer_state station)
  | noticeQuery => exact Path.query (execute := State.queryNotice) rfl rfl
  | clockQuery => exact Path.query (execute := State.queryClock) rfl rfl
  | configQuery => exact Path.query (execute := State.queryConfig) rfl rfl
  | volumeDeclare v enable =>
    exact State.serve_reached (execute := (·.declareVolume v enable)) rfl fun _ => .declareVolume rfl s v enable
  | snapCreate v g =>
    exact State.serve_reached (execute := (·.createSnapshot v g)) rfl fun _ => .createSnapshot rfl s v g
  | snapRetire v g =>
    exact State.serve_reached (execute := (·.retireSnapshot v g)) rfl fun _ => .retireSnapshot rfl s v g
  | catalogueQuery v start =>
    exact Path.query (execute := (·.queryCatalogue v start)) rfl (s.queryCatalogue_state v start)
  | restoreStart tag v g id =>
    exact State.serve_reached (execute := (·.startRestore tag v g id)) rfl fun _ => .startRestore rfl s tag v g id
  | restoreEnd slot tag =>
    exact State.serve_reached (execute := (·.finishRestore slot tag)) rfl fun _ => .finishRestore rfl s slot tag rfl
  | restoreCancel slot tag =>
    exact State.serve_reached (execute := (·.cancelRestore slot tag)) rfl fun _ => .cancelRestore rfl s slot tag rfl
  | permitDone id moved =>
    exact State.serve_reached (execute := (·.permitDone id moved)) rfl fun _ => .permitDone rfl s id moved rfl rfl
  | nightOpen v g backlog dawn =>
    exact State.serveInserting_reached (execute := (·.openNight v g backlog dawn)) rfl fun _ =>
      .openNight rfl s v g backlog dawn
  | nightResume v dawn =>
    exact State.serveInserting_reached (execute := (·.resumeNight v dawn)) rfl fun _ => .resumeNight rfl s v dawn
  | nightDone v => exact State.serve_reached (execute := (·.finishNight v)) rfl fun _ => .finishNight rfl s v rfl
  | nightAbandon v => exact State.serve_reached (execute := (·.abandonNight v)) rfl fun _ => .abandonNight rfl s v rfl
  | nightQuery v => exact Path.query (execute := (·.queryNight v)) rfl (s.queryNight_state v)
  | clockSet minute => exact State.serve_reached (execute := (·.setClock minute)) rfl (.setClock rfl s minute rfl)
  | lineBecomesBusy => exact Path.lineBecomesBusy rfl s

/-- A law that every move but the reset keeps, and that holds right after a reset, is kept by a step. -/
theorem step_keeps {L : State → Prop} (hpending : ∀ (s : State) (l : List Instr), L s → L { s with pending := l })
    (hmove : ∀ {k s t}, Move k s t → L s → L t) {s t : State} (hstep : step s = .next t) (hs : L s) : L t := by
  unfold step at hstep
  split at hstep
  · cases hstep; exact hs
  · rename_i i rest _
    obtain ⟨u, hu, hpath⟩ := exec_reached i { s with pending := rest }
    rw [hu] at hstep
    cases hstep
    exact hpath.keeps (fun _ h => hmove h) (hpending s rest hs)

end Sys2Proof.Machine
end

section
/-! PROOFS. O55: the capacities, the configuration's ranges, the rings and the clock, move by move. -/

namespace Sys2Proof.Machine

/-! ### What the composite moves change -/

/-- The expiry run changes nothing but what expiries change (R157). -/
theorem State.expiryRun_expired (s : State) : OnlyExpired s s.expiryRun := by
  have fold (l : List Deadline) (t : State) : OnlyExpired t (l.foldl State.expire t) := by
    induction l generalizing t with
    | nil => exact .refl t
    | cons d l ih => exact (t.expire_expired d).trans (ih _)
  refine OnlyExpired.trans ?_ (fold _ _)
  exact ⟨fun b hb => by cases b <;> simp_all [Block.same], rfl, rfl, fun _ => rfl, fun _ => ⟨rfl, rfl⟩,
    ⟨[], rfl⟩, rfl, .inl rfl⟩

theorem State.settlePrecedence_expired (s : State) : OnlyExpired s s.settlePrecedence := by
  have h := State.settlePrecedence_spec s
  refine ⟨fun b hb => ?_, ?_, ?_, fun id => ?_, fun v => ?_, ⟨[], ?_⟩, ?_, h.2⟩ <;> rw [h.1]
  · cases b <;> simp_all [Block.same]
  · rfl
  · simp [State.volume]
  · rfl

/-- A frame that comes back changes the notice unit alone (R89). -/
theorem State.returnFrame_eq {s : State} {f : FrameRecord} (hf : s.notice.frame = some f) :
    s.returnFrame = { s with notice := s.returnedNotice f } := by
  have fold (l : List NoticeEntry) (n : Notice) :
      l.foldl State.promoteHeld { s with notice := n } =
        { s with notice := l.foldl (fun n e => if n.normal.contains e.principal && s.heldUnfrozen e.principal then
          n.queueUrgent e.principal else n) n } := by
    induction l generalizing n with
    | nil => rfl
    | cons e l ih =>
      rw [List.foldl_cons, List.foldl_cons, ← ih]
      congr 1
      unfold State.promoteHeld
      have hheld : State.heldUnfrozen { s with notice := n } e.principal = s.heldUnfrozen e.principal := rfl
      rw [hheld]
      split
      · rfl
      · rfl
  unfold State.returnFrame
  rw [hf]
  exact fold f.entries _

theorem State.returnFrame_frame (s : State) : s.returnFrame = { s with notice := s.returnFrame.notice } := by
  cases hf : s.notice.frame with
  | none => simp [State.returnFrame, hf]
  | some f => rw [State.returnFrame_eq hf]

/-! ### Tables with one record written -/

theorem State.forall_volume_setVolume {P : Nat → Volume → Prop} {s : State} {v : Nat} {x : Volume}
    (hs : ∀ w < 16, P w (s.volume w)) (hx : P v x) : ∀ w < 16, P w ((s.setVolume v x).volume w) := by
  intro w hw
  by_cases h : w = v
  · subst h; rw [State.volume_setVolume_same s x hw]; exact hx
  · rw [State.volume_setVolume_ne s x h]; exact hs w hw

theorem State.forall_job_setJob {P : Nat → Option Job → Prop} {s : State} {k : Nat} {j : Option Job}
    (hs : ∀ m < 8, P m (s.job m)) (hj : P k j) : ∀ m < 8, P m ((s.setJob k j).job m) := by
  intro m hm
  by_cases h : m = k
  · subst h; rw [State.job_setJob_same s j hm]; exact hj
  · rw [State.job_setJob_ne s j h]; exact hs m hm

/-! ### Capacities (R28, R50, R55, R99, R128, R165) -/

theorem OnlyExpired.snapshots {s t : State} (h : OnlyExpired s t) (v : Nat) :
    (t.volume v).snapshots = (s.volume v).snapshots := by
  obtain ⟨_, _, _, _, hvolumes, _⟩ := h
  simpa using congrArg Volume.snapshots (hvolumes v).1

theorem OnlyExpired.capacities {s t : State} (h : OnlyExpired s t) (hs : Capacities s) : Capacities t := by
  have hsnapshots := h.snapshots
  obtain ⟨hframe, hheld, _, _, _, ⟨l, hport⟩, harbiter, _⟩ := h
  obtain ⟨h1, h2, h3, h4, h5, h6⟩ := hs
  have hbus : t.bus = s.bus := hframe .bus (by simp)
  refine ⟨?_, by rw [hheld]; exact h2, by rw [hbus]; exact h3, by rw [harbiter]; exact h4,
    fun v hv => by rw [hsnapshots]; exact h5 v hv, by rw [hbus]; exact h6⟩
  rw [hport]
  exact Port.raises_events_length _ l h1

theorem Arbiter.reclaimed_expired_length (a : Arbiter) (p : Permit) (h : a.expired.length ≤ 32) :
    (a.reclaimed p).expired.length ≤ 32 := by
  have hlist (l : List ExpiredPermit) (e : ExpiredPermit) (hl : l.length ≤ 32) :
      ((if l.length < 32 then l else l.drop 1) ++ [e]).length ≤ 32 := by
    split <;> simp <;> omega
  exact hlist _ _ h

theorem length_without_le {α : Type} {l₁ l₂ : List α} {x : α} {n : Nat} (h : (l₁ ++ x :: l₂).length ≤ n) :
    (l₁ ++ l₂).length ≤ n := by
  simp only [List.length_append, List.length_cons] at h ⊢
  omega

theorem Volume.release_length_le (x : Volume) (g : Nat) : (x.release g).snapshots.length ≤ x.snapshots.length := by
  unfold Volume.release
  split
  · exact List.length_filter_le _ _
  · exact Nat.le_of_eq (List.length_map _)

theorem Move.capacities {k : Tag} {s t : State} (hm : Move k s t) (hs : Capacities s) : Capacities t := by
  have hs' := hs
  obtain ⟨h1, h2, h3, h4, h5, h6⟩ := hs'
  have setVolume (v : Nat) (x : Volume) (hx : x.snapshots.length ≤ 64) :
      ∀ w < 16, ((s.setVolume v x).volume w).snapshots.length ≤ 64 :=
    State.forall_volume_setVolume (P := fun _ x => x.snapshots.length ≤ 64) h5 hx
  have own (v : Nat) : (s.volume v).snapshots.length ≤ 64 := by
    by_cases hv : v < 16
    · exact h5 v hv
    · simp [State.volume, hv]
  cases hm with
  | port h => exact ⟨h.events h1, h2, h3, h4, h5, h6⟩
  | portReset => exact ⟨Nat.zero_le _, h2, h3, h4, h5, h6⟩
  | bus hstate hframe hattempt hfifo => exact ⟨h1, h2, hfifo h3, h4, h5, by rw [hstate, hattempt]; exact h6⟩
  | tx h => exact ⟨h1, h2, h3, h4, h5, h h6⟩
  | frameReturned => rw [State.returnFrame_frame]; exact hs
  | run => exact s.expiryRun_expired.capacities hs
  | takeRun => exact s.takeRun_expired.capacities hs
  | settle => exact s.settlePrecedence_expired.capacities hs
  | heldCharge hcharge hroom hurgent => exact ⟨h1, by simp [State.withHeld]; omega, h3, h4, h5, h6⟩
  | heldAges => exact ⟨h1, by simpa [State.withHeld] using h2, h3, h4, h5, h6⟩
  | heldLeaves hsub hchunks => exact ⟨h1, Nat.le_trans hsub.length_le h2, h3, h4, h5, h6⟩
  | strayLeaves hheld horigin hjob => exact ⟨h1, length_without_le (hheld ▸ h2), h3, h4, h5, h6⟩
  | heldChunk hjob hwaits hslots hroom hurgent => exact ⟨h1, by simp [State.withHeld]; omega, h3, h4, h5, h6⟩
  | chunkLeaves hjob hstate hheld =>
    refine ⟨h1, ?_, h3, h4, h5, h6⟩
    rcases hheld with ⟨l₁, e, l₂, hheld, _, rfl⟩ | ⟨_, rfl⟩
    · exact length_without_le (hheld ▸ h2)
    · exact Nat.le_trans (List.length_filter_le _ _) h2
  | heldGranted hjob hheld horigin => exact ⟨h1, length_without_le (hheld ▸ h2), h3, h4, h5, h6⟩
  | permitStray hp howner hcount hcap => exact ⟨h1, h2, h3, hcap h4, h5, h6⟩
  | expiredLeaves => exact ⟨h1, h2, h3, Nat.le_trans (List.length_filter_le _ _) h4, h5, h6⟩
  | jobLate => exact ⟨h1, h2, h3, Nat.le_trans (List.length_filter_le _ _) h4, h5, h6⟩
  | jobExpire => exact ⟨h1, h2, h3, s.arbiter.reclaimed_expired_length _ h4, h5, h6⟩
  | nightExpire => exact ⟨h1, h2, h3, s.arbiter.reclaimed_expired_length _ h4, setVolume _ _ (own _), h6⟩
  | nightReturn => exact ⟨h1, h2, h3, h4, setVolume _ _ (own _), h6⟩
  | nightIssue => exact ⟨h1, h2, h3, h4, setVolume _ _ (own _), h6⟩
  | night => exact ⟨h1, h2, h3, h4, setVolume _ _ (own _), h6⟩
  | nightOpens => exact ⟨h1, h2, h3, h4, setVolume _ _ (Nat.le_trans (Nat.le_of_eq (List.length_map _)) (own _)), h6⟩
  | nightResumes => exact ⟨h1, h2, h3, h4, setVolume _ _ (own _), h6⟩
  | nightCloses => exact ⟨h1, h2, h3, h4, setVolume _ _ (own _), h6⟩
  | nightEnds => exact ⟨h1, h2, h3, h4, setVolume _ _ (Nat.le_trans (Nat.le_of_eq (List.length_map _)) (own _)), h6⟩
  | declare => exact ⟨h1, h2, h3, h4, setVolume _ _ (own _), h6⟩
  | create hdeclared hnewer hroom => exact ⟨h1, h2, h3, h4, setVolume _ _ (by simp; omega), h6⟩
  | retireLater => exact ⟨h1, h2, h3, h4, setVolume _ _ (Nat.le_trans (Nat.le_of_eq (List.length_map _)) (own _)), h6⟩
  | retireNow => exact ⟨h1, h2, h3, h4, setVolume _ _ (Nat.le_trans (List.length_filter_le _ _) (own _)), h6⟩
  | jobStarts => exact ⟨h1, h2, h3, h4, setVolume _ _ (Nat.le_trans (Nat.le_of_eq (List.length_map _)) (own _)), h6⟩
  | jobEnds => exact ⟨h1, h2, h3, Nat.le_trans (Nat.le_of_eq (List.length_map _)) h4,
      setVolume _ _ (Nat.le_trans (Volume.release_length_le _ _) (own _)), h6⟩
  | load h hloader hstation hu hn hf hstate hframe hattempt hfifo =>
    exact ⟨h1, h2, by rw [hfifo]; exact h3, h4, h5, by rw [hattempt]; exact h6.1, by rw [hstate]; nofun⟩
  | reset =>
    refine ⟨Nat.zero_le _, Nat.zero_le _, Nat.zero_le _, Nat.zero_le _, fun v hv => ?_, Nat.zero_le _, nofun⟩
    simp [State.volume, hv, State.reset]
  | _ => exact hs

/-! ### The loader, the rings and the clock -/

theorem OnlyExpired.loader {s t : State} (h : OnlyExpired s t) : t.loader = s.loader := h.1 .loader (by simp)

theorem Move.loader {k : Tag} {s t : State} (hm : Move k s t) (hs : LoaderLaw s) : LoaderLaw t := by
  have hexpired (t : State) (h : OnlyExpired s t) : LoaderLaw t := by
    simpa only [LoaderLaw, State.config, h.loader] using hs
  cases hm with
  | frameReturned => rw [State.returnFrame_frame]; exact hs
  | run => exact hexpired _ s.expiryRun_expired
  | takeRun => exact hexpired _ s.takeRun_expired
  | settle => exact hexpired _ s.settlePrecedence_expired
  | load h hloader hstation hu hn hf hstate hframe hattempt hfifo => exact hloader
  | reset => exact Loader.legal_defaults rfl rfl
  | _ => exact hs

/-- Raised records do not touch the rings, the processes or the post. -/
theorem OnlyExpired.rings {s t : State} (h : OnlyExpired s t) (hs : RingLaw s) : RingLaw t := by
  obtain ⟨_, _, _, _, _, ⟨l, hport⟩, _⟩ := h
  simpa only [RingLaw, hport, Port.raises_requestRing, Port.raises_eventRing, Port.raises_requestState,
    Port.raises_eventState, Port.raises_posting] using hs

theorem Move.rings {k : Tag} {s t : State} (hm : Move k s t) (hs : RingLaw s) : RingLaw t := by
  cases hm with
  | port h => exact h.rings hs
  | portReset =>
    obtain ⟨h1, h2, _⟩ := hs
    exact ⟨RingRegs.legal_home h1, RingRegs.legal_home h2, fun h => absurd rfl h, fun h => absurd rfl h, nofun⟩
  | frameReturned => rw [State.returnFrame_frame]; exact hs
  | run => exact s.expiryRun_expired.rings hs
  | takeRun => exact s.takeRun_expired.rings hs
  | settle => exact s.settlePrecedence_expired.rings hs
  | reset =>
    have hlegal (align : Nat) : ({} : RingRegs).legal align := ⟨Nat.zero_mod _, .inl rfl, fun h => absurd rfl h⟩
    exact ⟨hlegal 64, hlegal 32, fun h => absurd rfl h, fun h => absurd rfl h, nofun⟩
  | _ => exact hs

theorem OnlyExpired.clock {s t : State} (h : OnlyExpired s t) (hs : ClockLaw s) : ClockLaw t := by
  obtain ⟨hframe, _, _, _, _, ⟨l, hport⟩, _⟩ := h
  have hclock : t.clock = s.clock := hframe .clock (by simp)
  simpa only [ClockLaw, State.fetchedFits, hclock, hport, Port.raises_phase] using hs

theorem Move.clockLaw {k : Tag} {s t : State} (hm : Move k s t) (hs : ClockLaw s) : ClockLaw t := by
  have hs' := hs
  obtain ⟨hf, h1, h2, h3⟩ := hs'
  cases hm with
  | port h => exact ⟨h.fits hf, h1, h2, h3⟩
  | portReset => exact ⟨trivial, h1, h2, h3⟩
  | clock h => exact ⟨hf, h hf h1 h2 h3⟩
  | frameReturned => rw [State.returnFrame_frame]; exact hs
  | run => exact s.expiryRun_expired.clock hs
  | takeRun => exact s.takeRun_expired.clock hs
  | settle => exact s.settlePrecedence_expired.clock hs
  | reset => exact ⟨trivial, Nat.zero_le _, Nat.zero_le _, Nat.zero_le _⟩
  | _ => exact hs

/-- Settles O55: each law is kept by every move, and every command is a path of moves. -/
theorem stepKeepsCapacitiesAndRanges : Obligations.StepKeepsCapacitiesAndRanges := by
  intro s t _ hstep
  exact ⟨step_keeps (fun _ _ h => h) Move.capacities hstep, step_keeps (fun _ _ h => h) Move.loader hstep,
    step_keeps (fun _ _ h => h) Move.rings hstep, step_keeps (fun _ _ h => h) Move.clockLaw hstep⟩

end Sys2Proof.Machine
end

section
/-! PROOFS. O2: every command answers and leaves the queue of waiting commands alone, and a request out of its occasion
is no step. With it what the laws kept through an expiry run have in common. -/

namespace Sys2Proof.Machine

/-! ### The queue of waiting commands -/

theorem Move.pending {k : Tag} {s t : State} (hm : Move k s t) : t.pending = s.pending := by
  have expired (t : State) (h : OnlyExpired s t) : t.pending = s.pending := h.1 .pending (by simp)
  cases hm with
  | frameReturned => rw [State.returnFrame_frame]
  | run => exact expired _ s.expiryRun_expired
  | takeRun => exact expired _ s.takeRun_expired
  | settle => exact expired _ s.settlePrecedence_expired
  | _ => rfl

/-- A request row out of its occasion is no step of the part (log 2). -/
theorem exec_of_not_takes {i : Instr} {r : Request} {s : State} (hi : i.request? = some r) (ht : s.takes r = false) :
    exec i s = .next s := by
  have serve (execute : State → Reply) : s.serve r execute = .next s := by simp [State.serve, ht]
  have serveInserting (execute : State → Reply) : s.serveInserting r execute = .next s :=
    State.serveInserting_skips ht execute
  cases i with
  | principalAdd | principalLimits | nightOpen | nightResume =>
    cases hi
    simp only [exec, execPrincipalAdd, execPrincipalLimits, execNightOpen, execNightResume, serveInserting]
  | charge id n =>
    cases hi
    show Host.Outcome.next _ = _
    congr 1
    split
    · rw [ht]; rfl
    · rfl
    · rfl
  | principalRemove | principalQuery | credit | peerEvict | peerQuery | noticeQuery | volumeDeclare | snapCreate
  | snapRetire | catalogueQuery | restoreStart | restoreEnd | restoreCancel | permitDone | nightDone | nightAbandon
  | nightQuery | clockSet | clockQuery | configQuery =>
    cases hi
    simp only [exec, execPrincipalRemove, execPrincipalQuery, execCredit, execPeerEvict, execPeerQuery,
      execNoticeQuery, execVolumeDeclare, execSnapCreate, execSnapRetire, execCatalogueQuery, execRestoreStart,
      execRestoreEnd, execRestoreCancel, execPermitDone, execNightDone, execNightAbandon, execNightQuery, execClockSet,
      execClockQuery, execConfigQuery, serve]
  | _ => cases hi

/-- Settles O2: no move touches the queue, and the rows of requests test their occasion first. -/
theorem everyCommandAnswersAndKeepsTheQueue : Obligations.EveryCommandAnswersAndKeepsTheQueue := by
  refine ⟨fun i s => ?_, fun i r s hi ht => exec_of_not_takes hi ht⟩
  obtain ⟨t, ht, hpath⟩ := exec_reached i s
  exact ⟨t, ht, hpath.keeps (L := fun t => t.pending = s.pending) (fun _ hm h => hm.pending.trans h) rfl⟩

/-! ### Laws kept through an expiry run (R157) -/

/-- What one expiry does, its records apart: a grace becomes EXPIRED, or a night SUSPENDED. A law that both keep, and
that raised records and the leaving of deadline entries keep, is kept by the run. -/
theorem State.expiryRun_keeps {L : State → Prop} (hdeadlines : ∀ (s : State) (l : List Deadline), L s →
      L { s with deadlines := l })
    (hraises : ∀ (s : State) (l : List EventRecord), L s → L { s with port := s.port.raises l })
    (hgrace : ∀ (s : State) (p : Principal), s.principal p.id = some p → L s →
      L (s.record { p with grace := .expired }))
    (hnight : ∀ (s : State) (v : Nat) (n : Night), (s.volume v).night = some n →
      n.state = .sending ∨ n.state = .paused →
      L s → L (s.setVolume v { s.volume v with night := some { n with state := .suspended } }))
    {s : State} (hs : L s) : L s.expiryRun := by
  have expire (t : State) (d : Deadline) (ht : L t) : L (t.expire d) := by
    unfold State.expire
    split
    · rename_i id _
      cases hp : t.principal id with
      | none => rw [State.rederive_none t _ _ hp]; exact ht
      | some p =>
        obtain rfl := State.principal_id hp
        rw [State.rederive_eq_record (p := p) .grace _ hp rfl]
        exact hraises _ _ (hgrace t p hp ht)
    · rename_i v _
      unfold State.suspendNight
      split
      · exact ht
      · rename_i n hn
        split
        · rename_i hstate; exact hraises _ [_] (hnight t v n hn (.inl hstate) ht)
        · rename_i hstate; exact hraises _ [_] (hnight t v n hn (.inr hstate) ht)
        · exact ht
        · exact ht
        · exact ht
  have fold (l : List Deadline) (t : State) (ht : L t) : L (l.foldl State.expire t) := by
    induction l generalizing t with
    | nil => exact ht
    | cons d l ih => exact ih _ (expire t d ht)
  exact fold _ _ (hdeadlines s _ hs)

/-- The precedence count settled, for a law that does not depend on it. -/
theorem State.settlePrecedence_keeps {L : State → Prop} (hset : ∀ (s : State) (n : Nat), L s → L (s.setPrecedence n))
    {s : State} (hs : L s) : L s.settlePrecedence := by
  rw [State.settlePrecedence_eq_setPrecedence]
  exact hset s _ hs

end Sys2Proof.Machine
end

section
/-! PROOFS. O56: the principal table, the contribution map and the ranges of a principal's record, move by move. -/

namespace Sys2Proof.Machine

/-! ### Records of the principal table -/

theorem State.isSome_principal_iff {s : State} {id : Nat} :
    (s.principal id).isSome = true ↔ ∃ p ∈ s.quota.principals, p.id = id := by
  simp [State.principal, Quota.find, List.find?_isSome]

theorem State.mem_of_principal {s : State} {id : Nat} {p : Principal} (h : s.principal id = some p) :
    p ∈ s.quota.principals := List.mem_of_find?_eq_some h

/-- In a table of distinct ids the record found under an id is the only one that bears it. -/
theorem State.eq_of_principal {s : State} (hids : (s.quota.principals.map (·.id)).Nodup) {id : Nat} {p : Principal}
    (h : s.principal id = some p) {x : Principal} (hx : x ∈ s.quota.principals) (hid : x.id = id) : x = p :=
  eq_of_nodup_map hids hx (State.mem_of_principal h) (hid.trans (State.principal_id h).symm)

/-- In a table of distinct ids a record is found under its id. -/
theorem State.principal_of_mem {s : State} (hids : (s.quota.principals.map (·.id)).Nodup) {p : Principal}
    (hp : p ∈ s.quota.principals) : s.principal p.id = some p := by
  obtain ⟨q, hq⟩ := Option.isSome_iff_exists.1 (State.isSome_principal_iff.2 ⟨p, hp, rfl⟩)
  rw [hq, State.eq_of_principal hids hq hp rfl]

/-- What the records of the table that bear an id are replaced by. -/
def Principal.replacedBy (x : Principal) (id : Nat) (f : Principal → Principal) : Principal :=
  if x.id = id then f x else x

theorem Quota.update_principals (q : Quota) (id : Nat) (f : Principal → Principal) :
    (q.update id f).principals = q.principals.map fun x => x.replacedBy id f := rfl

theorem Principal.replacedBy_id {x : Principal} {id : Nat} {f : Principal → Principal}
    (h : x.id = id → (f x).id = x.id) :
    (x.replacedBy id f).id = x.id := by
  unfold Principal.replacedBy
  split
  · rename_i hx; exact h hx
  · rfl

/-! ### The contribution map (R4, R5) -/

/-- The sum of a principal's entries. -/
def contributionSum (l : List Contribution) (id : Nat) : Nat :=
  ((l.filter fun c => c.principal == id).map (·.value)).sum

/-- The entries that stand in the map when the entry of a pair is set. -/
def contributionsBut (id station : Nat) (l : List Contribution) : List Contribution :=
  l.filter fun c => !(c.principal == id && c.station == station)

/-- The order of the map (R4). -/
def contributionBefore (a b : Contribution) : Prop :=
  a.principal < b.principal ∨ (a.principal = b.principal ∧ a.station < b.station)

theorem contributionSum_cons (c : Contribution) (l : List Contribution) (id : Nat) :
    contributionSum (c :: l) id = (if c.principal = id then c.value else 0) + contributionSum l id := by
  unfold contributionSum
  by_cases h : c.principal = id <;> simp [h]

theorem contributionSum_perm {l m : List Contribution} (h : l.Perm m) (id : Nat) :
    contributionSum l id = contributionSum m id := ((h.filter _).map _).sum_nat

theorem contributionSum_setContribution (id station value : Nat) (l : List Contribution) (j : Nat) :
    contributionSum (setContribution id station value l) j =
      (if j = id then value else 0) + contributionSum (contributionsBut id station l) j := by
  unfold setContribution
  dsimp only
  split
  · rename_i h; subst h; simp [contributionsBut]
  · rw [contributionSum_perm (insertContribution_perm _ _), contributionSum_cons]
    simp only [eq_comm, contributionsBut]

theorem contributionsBut_eq_self {id station : Nat} {l : List Contribution}
    (h : ∀ c ∈ l, ¬ (c.principal = id ∧ c.station = station)) : contributionsBut id station l = l := by
  refine List.filter_eq_self.2 fun c hc => ?_
  rw [Bool.not_eq_true', ← Bool.not_eq_true]
  simpa using h c hc

/-- A principal's sum without the entry of one station, in a map in order. -/
theorem contributionSum_but {l : List Contribution} (hl : l.Pairwise contributionBefore) (id station : Nat) :
    contributionSum l id = contributionSum (contributionsBut id station l) id +
      (((l.find? fun c => c.principal == id && c.station == station).map (·.value)).getD 0) := by
  induction l with
  | nil => rfl
  | cons c l ih =>
    obtain ⟨hc, hl⟩ := List.pairwise_cons.1 hl
    by_cases h : c.principal = id ∧ c.station = station
    · obtain ⟨rfl, rfl⟩ := h
      have hrest : contributionsBut c.principal c.station l = l := contributionsBut_eq_self fun x hx ⟨h1, h2⟩ => by
        have := hc x hx
        unfold contributionBefore at this
        omega
      have hcons : contributionsBut c.principal c.station (c :: l) = contributionsBut c.principal c.station l := by
        simp [contributionsBut]
      rw [hcons, hrest, contributionSum_cons]
      simp [Nat.add_comm]
    · have hpair : (c.principal == id && c.station == station) = false := by simpa using h
      have hcons : contributionsBut id station (c :: l) = c :: contributionsBut id station l :=
        List.filter_cons_of_pos (by rw [hpair]; rfl)
      rw [hcons, contributionSum_cons, contributionSum_cons, ih hl, List.find?_cons_of_neg (by simp [hpair])]
      omega

theorem contributionSum_but_ne {id station j : Nat} (h : j ≠ id) (l : List Contribution) :
    contributionSum (contributionsBut id station l) j = contributionSum l j := by
  unfold contributionSum contributionsBut
  rw [List.filter_filter]
  congr 2
  refine List.filter_congr fun c _ => ?_
  by_cases hc : c.principal = j
  · simp [hc, h]
  · simp [hc]

theorem mem_setContribution {id station value : Nat} {l : List Contribution} {c : Contribution}
    (h : c ∈ setContribution id station value l) : c ∈ l ∨ (0 < value ∧ c = ⟨id, station, value⟩) := by
  unfold setContribution at h
  dsimp only at h
  split at h
  · exact .inl (List.mem_filter.1 h).1
  · rename_i hv
    rcases List.mem_cons.1 ((insertContribution_perm _ _).mem_iff.1 h) with rfl | h
    · exact .inr ⟨Nat.pos_of_ne_zero hv, rfl⟩
    · exact .inl (List.mem_filter.1 h).1

theorem contributionBefore.trans {a b c : Contribution} (h : contributionBefore a b) (k : contributionBefore b c) :
    contributionBefore a c := by
  unfold contributionBefore at *
  omega

theorem pairwise_insertContribution {c : Contribution} {l : List Contribution} (hl : l.Pairwise contributionBefore)
    (hnew : ∀ x ∈ l, ¬ (x.principal = c.principal ∧ x.station = c.station)) :
    (insertContribution c l).Pairwise contributionBefore := by
  induction l with
  | nil => exact List.pairwise_singleton _ _
  | cons x l ih =>
    obtain ⟨hx, hl⟩ := List.pairwise_cons.1 hl
    unfold insertContribution
    split
    · rename_i hbefore
      refine List.pairwise_cons.2 ⟨fun y hy => ?_, ih hl fun y hy => hnew y (.tail _ hy)⟩
      rcases List.mem_cons.1 ((insertContribution_perm _ _).mem_iff.1 hy) with rfl | hy
      · exact hbefore
      · exact hx y hy
    · rename_i hafter
      have hcx : contributionBefore c x := by
        have := hnew x (.head _)
        unfold contributionBefore
        omega
      refine List.pairwise_cons.2 ⟨fun y hy => ?_, List.pairwise_cons.2 ⟨hx, hl⟩⟩
      rcases List.mem_cons.1 hy with rfl | hy
      · exact hcx
      · exact hcx.trans (hx y hy)

theorem pairwise_setContribution {l : List Contribution} (hl : l.Pairwise contributionBefore)
    (id station value : Nat) : (setContribution id station value l).Pairwise contributionBefore := by
  unfold setContribution
  dsimp only
  split
  · exact hl.filter _
  · refine pairwise_insertContribution (hl.filter _) fun x hx => ?_
    have hbut := (List.mem_filter.1 hx).2
    rw [Bool.not_eq_true', ← Bool.not_eq_true] at hbut
    simpa using hbut

/-! ### The tables (R1, R4) -/

/-- The tables hold, if the records are replaced in their slots and under their ids, with the remote sums of the map
that stands then. -/
theorem QuotaTables.of_map {s t : State} (hs : QuotaTables s) (g : Principal → Principal)
    (hprincipals : t.quota.principals = s.quota.principals.map g)
    (hg : ∀ p ∈ s.quota.principals, (g p).slot = p.slot ∧ (g p).id = p.id)
    (horder : t.quota.contributions.Pairwise contributionBefore)
    (hentries : ∀ c ∈ t.quota.contributions,
      0 < c.value ∧ c.station ≠ t.straps.station ∧ (s.principal c.principal).isSome = true)
    (hremote : ∀ p ∈ s.quota.principals, (g p).remote = contributionSum t.quota.contributions p.id) :
    QuotaTables t := by
  obtain ⟨hslots, hbound, hids, _, _, _⟩ := hs
  refine ⟨?_, ?_, ?_, horder, fun c hc => ?_, ?_⟩
  · rw [hprincipals, List.pairwise_map]
    exact hslots.imp_of_mem fun hp hq h => by rw [(hg _ hp).1, (hg _ hq).1]; exact h
  · rw [hprincipals]
    simp only [List.forall_mem_map]
    exact fun p hp => by rw [(hg p hp).1]; exact hbound p hp
  · have hsame : (s.quota.principals.map g).map (·.id) = s.quota.principals.map (·.id) := by
      rw [List.map_map]
      exact List.map_congr_left fun p hp => (hg p hp).2
    rw [hprincipals, hsame]
    exact hids
  · obtain ⟨h1, h2, h3⟩ := hentries c hc
    refine ⟨h1, h2, State.isSome_principal_iff.2 ?_⟩
    obtain ⟨p, hp, hid⟩ := State.isSome_principal_iff.1 h3
    exact ⟨g p, by rw [hprincipals]; exact List.mem_map_of_mem hp, (hg p hp).2.trans hid⟩
  · rw [hprincipals]
    simp only [List.forall_mem_map]
    exact fun p hp => by rw [hremote p hp, (hg p hp).2]; rfl

/-- The tables hold, if one operation on the records of an id leaves slot, id and remote sum alone. -/
theorem QuotaTables.of_update {s t : State} (hs : QuotaTables s) (id : Nat) (f : Principal → Principal)
    (hquota : t.quota.principals = (s.quota.update id f).principals)
    (hcontributions : t.quota.contributions = s.quota.contributions) (hstraps : t.straps = s.straps)
    (hf : ∀ p ∈ s.quota.principals, p.id = id → (f p).slot = p.slot ∧ (f p).id = p.id ∧ (f p).remote = p.remote) :
    QuotaTables t := by
  have hs' := hs
  obtain ⟨_, _, _, horder, hentries, hremote⟩ := hs'
  have hreplaced (p : Principal) (hp : p ∈ s.quota.principals) : (p.replacedBy id f).slot = p.slot ∧
      (p.replacedBy id f).id = p.id ∧ (p.replacedBy id f).remote = p.remote := by
    unfold Principal.replacedBy
    split
    · rename_i hid; exact hf p hp hid
    · exact ⟨rfl, rfl, rfl⟩
  refine hs.of_map (fun p => p.replacedBy id f) hquota (fun p hp => ⟨(hreplaced p hp).1, (hreplaced p hp).2.1⟩) ?_ ?_ ?_
  · rw [hcontributions]; exact horder
  · rw [hcontributions, hstraps]; exact hentries
  · intro p hp
    rw [hcontributions]
    exact (hreplaced p hp).2.2.trans (hremote p hp)

/-- The writing of a record that keeps its slot, id and remote sum. -/
theorem QuotaTables.record {s : State} (hs : QuotaTables s) {p q : Principal} (hp : s.principal p.id = some p)
    (hslot : q.slot = p.slot) (hid : q.id = p.id) (hremote : q.remote = p.remote) : QuotaTables (s.record q) := by
  refine hs.of_update q.id (fun _ => q.maintained s.clock.minute) rfl rfl rfl fun x hx hxid => ?_
  obtain rfl := State.eq_of_principal hs.2.2.1 hp hx (hxid.trans hid)
  exact ⟨hslot, hid, hremote⟩

theorem QuotaTables.contribute {s : State} (hs : QuotaTables s) {p : Principal} {station value : Nat}
    (hp : s.principal p.id = some p) (hother : station ≠ s.straps.station) :
    QuotaTables ((s.mapped p.id station value).record
      { p with remote := p.remote - s.quota.contribution p.id station + value }) := by
  have hs' := hs
  obtain ⟨_, _, hids, horder, hentries, hremote⟩ := hs'
  refine hs.of_map (fun x => x.replacedBy p.id fun _ =>
    ({ p with remote := p.remote - s.quota.contribution p.id station + value } : Principal).maintained s.clock.minute)
    rfl (fun x hx => ?_) (pairwise_setContribution horder _ _ _) (fun c hc => ?_) fun x hx => ?_
  · unfold Principal.replacedBy
    split
    · rename_i hid
      obtain rfl := State.eq_of_principal hids hp hx hid
      exact ⟨rfl, rfl⟩
    · exact ⟨rfl, rfl⟩
  · rcases mem_setContribution hc with hc | ⟨hv, rfl⟩
    · exact hentries c hc
    · exact ⟨hv, hother, by rw [hp]; rfl⟩
  · show _ = contributionSum (setContribution p.id station value s.quota.contributions) x.id
    rw [contributionSum_setContribution]
    unfold Principal.replacedBy
    split
    · rename_i hid
      have hsum := contributionSum_but horder p.id station
      have hold : p.remote = contributionSum s.quota.contributions p.id := hremote p (State.mem_of_principal hp)
      rw [hid]
      show p.remote - s.quota.contribution p.id station + value = _
      rw [hold, hsum]
      unfold Quota.contribution
      omega
    · rename_i hid
      rw [contributionSum_but_ne hid, Nat.zero_add]
      exact hremote x hx

theorem mem_insertPrincipal {p x : Principal} {l : List Principal} : x ∈ insertPrincipal p l ↔ x = p ∨ x ∈ l := by
  induction l with
  | nil => simp [insertPrincipal]
  | cons q l ih =>
    unfold insertPrincipal
    split
    · simp only [List.mem_cons, ih]
      exact or_left_comm
    · simp only [List.mem_cons]

theorem insertPrincipal_perm (p : Principal) (l : List Principal) : (insertPrincipal p l).Perm (p :: l) := by
  induction l with
  | nil => exact .refl _
  | cons q l ih =>
    unfold insertPrincipal
    split
    · exact (ih.cons q).trans (.swap p q l)
    · exact .refl _

theorem pairwise_insertPrincipal {p : Principal} {l : List Principal} (hl : l.Pairwise fun a b => a.slot < b.slot)
    (hfree : ∀ x ∈ l, x.slot ≠ p.slot) : (insertPrincipal p l).Pairwise fun a b => a.slot < b.slot := by
  induction l with
  | nil => exact List.pairwise_singleton _ _
  | cons q l ih =>
    obtain ⟨hq, hl⟩ := List.pairwise_cons.1 hl
    unfold insertPrincipal
    split
    · rename_i hlt
      refine List.pairwise_cons.2 ⟨fun x hx => ?_, ih hl fun x hx => hfree x (.tail _ hx)⟩
      rcases mem_insertPrincipal.1 hx with rfl | hx
      · exact hlt
      · exact hq x hx
    · rename_i hge
      have hpq : p.slot < q.slot := by
        have := hfree q (.head _)
        omega
      refine List.pairwise_cons.2 ⟨fun x hx => ?_, List.pairwise_cons.2 ⟨hq, hl⟩⟩
      rcases List.mem_cons.1 hx with rfl | hx
      · exact hpq
      · exact Nat.lt_trans hpq (hq x hx)

/-- The ids of a table stay distinct when a principal joins under a new one. -/
theorem nodup_insertPrincipal {p : Principal} {l : List Principal} (hl : (l.map (·.id)).Nodup)
    (hnew : ∀ x ∈ l, x.id ≠ p.id) : ((insertPrincipal p l).map (·.id)).Nodup := by
  rw [((insertPrincipal_perm p l).map _).nodup_iff, List.map_cons, List.nodup_cons]
  refine ⟨fun h => ?_, hl⟩
  obtain ⟨x, hx, hid⟩ := List.mem_map.1 h
  exact hnew x hx hid

theorem State.ne_of_principal_none {s : State} {id : Nat} (h : s.principal id = none) :
    ∀ x ∈ s.quota.principals, x.id ≠ id := fun x hx hid => by
  have := State.isSome_principal_iff.2 ⟨x, hx, hid⟩
  rw [h] at this
  cases this

theorem QuotaTables.added {s : State} (hs : QuotaTables s) {p : Principal} (hnew : s.principal p.id = none)
    (hslot : p.slot = lowestFreeSlot s.quota.principals 0) (hroom : p.slot ≤ 65535) (hremote : p.remote = 0) :
    QuotaTables (s.added p) := by
  obtain ⟨h1, h2, h3, h4, h5, h6⟩ := hs
  have hne := State.ne_of_principal_none hnew
  refine ⟨pairwise_insertPrincipal h1 ?_, fun x hx => ?_, nodup_insertPrincipal h3 hne, h4, fun c hc => ?_,
    fun x hx => ?_⟩
  · rw [hslot]; exact slot_ne_lowestFreeSlot h1 fun _ _ => Nat.zero_le _
  · rcases mem_insertPrincipal.1 hx with rfl | hx
    · exact hroom
    · exact h2 x hx
  · obtain ⟨hv, hst, hp⟩ := h5 c hc
    obtain ⟨x, hx, hid⟩ := State.isSome_principal_iff.1 hp
    exact ⟨hv, hst, State.isSome_principal_iff.2 ⟨x, mem_insertPrincipal.2 (.inr hx), hid⟩⟩
  · rcases mem_insertPrincipal.1 hx with rfl | hx
    · have hnone : s.quota.contributions.filter (fun c => c.principal == x.id) = [] := by
        refine List.filter_eq_nil_iff.2 fun c hc hid => ?_
        have hsome := (h5 c hc).2.2
        rw [beq_iff_eq.1 hid, hnew] at hsome
        cases hsome
      rw [hremote]
      exact (congrArg (fun l => (List.map (fun c => c.value) l).sum) hnone).symm
    · exact h6 x hx

theorem QuotaTables.dropped {s : State} (hs : QuotaTables s) (id : Nat) : QuotaTables (s.dropPrincipal id) := by
  obtain ⟨h1, h2, h3, h4, h5, h6⟩ := hs
  refine ⟨h1.filter _, fun x hx => h2 x (List.mem_filter.1 hx).1, (List.filter_sublist.map _).nodup h3, h4.filter _,
    fun c hc => ?_, fun x hx => ?_⟩
  · obtain ⟨hc, hcid⟩ := List.mem_filter.1 hc
    obtain ⟨hv, hst, hp⟩ := h5 c hc
    obtain ⟨x, hx, hid⟩ := State.isSome_principal_iff.1 hp
    refine ⟨hv, hst, State.isSome_principal_iff.2 ⟨x, List.mem_filter.2 ⟨hx, ?_⟩, hid⟩⟩
    simpa [hid] using hcid
  · obtain ⟨hx, hxid⟩ := List.mem_filter.1 hx
    rw [h6 x hx]
    congr 2
    show _ = (s.quota.contributions.filter fun c => c.principal ≠ id).filter _
    rw [List.filter_filter]
    refine List.filter_congr fun c _ => ?_
    by_cases hc : c.principal = x.id
    · simpa [hc] using hxid
    · simp [hc]

theorem Move.quotaTables {k : Tag} {s t : State} (hm : Move k s t) (hs : QuotaTables s) : QuotaTables t := by
  have run {s : State} (hs : QuotaTables s) : QuotaTables s.expiryRun :=
    State.expiryRun_keeps (fun _ _ h => h) (fun _ _ h => h) (fun _ _ hp h => h.record hp rfl rfl rfl)
      (fun _ _ _ _ _ h => h) hs
  have settle {s : State} (hs : QuotaTables s) : QuotaTables s.settlePrecedence :=
    State.settlePrecedence_keeps (fun _ _ h => h) hs
  cases hm with
  | frameReturned => rw [State.returnFrame_frame]; exact hs
  | charge h | chunk h =>
    rename_i p n _
    refine hs.record h ?_ ?_ ?_ <;> unfold Principal.charged <;> split <;> rfl
  | account h => exact hs.record h rfl rfl rfl
  | contribute h hother => exact hs.contribute h hother
  | announce => exact hs.of_update _ _ rfl rfl rfl fun p _ _ => ⟨rfl, rfl, rfl⟩
  | add hnew hslot hroom hremote => exact hs.added hnew hslot hroom hremote
  | drop => exact hs.dropped _
  | run => exact run hs
  | takeRun => exact settle (run hs)
  | settle => exact settle hs
  | jobStarts => exact hs.of_update _ _ rfl rfl rfl fun p _ _ => ⟨rfl, rfl, rfl⟩
  | jobEnds => exact hs.of_update _ _ rfl rfl rfl fun p _ _ => ⟨rfl, rfl, rfl⟩
  | reset => exact ⟨.nil, nofun, .nil, .nil, nofun, nofun⟩
  | _ => exact hs

/-! ### The ranges of a principal's record (R2) -/

theorem Principal.inRange_charged {p : Principal} {n : Nat} (h : p.inRange)
    (hlimit : p.cls = .limited → p.lc + n ≤ max32) : (p.charged n).inRange := by
  obtain ⟨h1, h2, h3, h4, _, h6⟩ := h
  unfold Principal.charged
  split
  · exact ⟨h1, h2, h3, h4, Nat.min_le_left _ _, h6⟩
  · rename_i hc
    exact ⟨h1, h2, h3, h4, hlimit hc, h6⟩

/-- The ranges hold, if the records of an id are replaced by records in range. -/
theorem PrincipalRanges.of_update {s t : State} (hs : PrincipalRanges s) (id : Nat) (f : Principal → Principal)
    (hquota : t.quota.principals = (s.quota.update id f).principals) (hport : t.port = s.port)
    (hnotice : t.notice = s.notice) (hf : ∀ p ∈ s.quota.principals, p.id = id → p.inRange → (f p).inRange) :
    PrincipalRanges t := by
  obtain ⟨hfetched, hframe, hrange⟩ := hs
  refine ⟨by simpa only [State.fetchedFits, hport] using hfetched,
    by simpa only [State.frameFits, hnotice] using hframe, ?_⟩
  rw [hquota, Quota.update_principals]
  simp only [List.forall_mem_map]
  intro p hp
  unfold Principal.replacedBy
  split
  · rename_i hid; exact hf p hp hid (hrange p hp)
  · exact hrange p hp

theorem PrincipalRanges.record {s : State} (hs : PrincipalRanges s) {q : Principal} (hq : q.inRange) :
    PrincipalRanges (s.record q) :=
  hs.of_update q.id (fun _ => q.maintained s.clock.minute) rfl rfl rfl fun _ _ _ _ => hq

theorem PrincipalRanges.inRange {s : State} (hs : PrincipalRanges s) {id : Nat} {p : Principal}
    (hp : s.principal id = some p) : p.inRange := hs.2.2 p (State.mem_of_principal hp)

/-- The values that a built frame carries are local usages in range (R86). -/
theorem PrincipalRanges.frameTaken {s : State} (hs : PrincipalRanges s) :
    PrincipalRanges { s with notice := s.builtNotice } := by
  refine ⟨hs.1, fun e he => ?_, hs.2.2⟩
  obtain ⟨x, _, rfl⟩ := List.mem_map.1 he
  show ((s.principal x.1).map (·.lc)).getD 0 ≤ max32
  cases hp : s.principal x.1 with
  | none => exact Nat.zero_le _
  | some p =>
    obtain ⟨_, _, _, _, hlc, _⟩ := hs.inRange hp
    exact hlc

theorem State.returnedNotice_frame (s : State) (f : FrameRecord) : (s.returnedNotice f).frame = none := by
  have fold (l : List NoticeEntry) (n : Notice) (hn : n.frame = none) :
      (l.foldl (fun n e => if n.normal.contains e.principal && s.heldUnfrozen e.principal then
        n.queueUrgent e.principal else n) n).frame = none := by
    induction l generalizing n with
    | nil => exact hn
    | cons e l ih =>
      refine ih _ ?_
      dsimp only
      split
      · rw [Notice.queueUrgent_frame, hn]
      · exact hn
  exact fold f.entries _ rfl

theorem Move.principalRanges {k : Tag} {s t : State} (hm : Move k s t) (hs : PrincipalRanges s) :
    PrincipalRanges t := by
  have run {s : State} (hs : PrincipalRanges s) : PrincipalRanges s.expiryRun :=
    State.expiryRun_keeps (fun _ _ h => h)
      (fun _ _ h => ⟨by simpa only [State.fetchedFits, Port.raises_phase] using h.1, h.2⟩)
      (fun _ p hp h => have hp : p.inRange := h.inRange hp; h.record hp) (fun _ _ _ _ _ h => h) hs
  have settle {s : State} (hs : PrincipalRanges s) : PrincipalRanges s.settlePrecedence :=
    State.settlePrecedence_keeps (fun _ _ h => h) hs
  have hs' := hs
  obtain ⟨hfetched, hframe, hrange⟩ := hs'
  cases hm with
  | port h => exact ⟨h.fits hfetched, hframe, hrange⟩
  | portReset => exact ⟨trivial, hframe, hrange⟩
  | frameTaken => exact hs.frameTaken
  | frameDone => exact ⟨hfetched, trivial, hrange⟩
  | frameReturned =>
    cases hf : s.notice.frame with
    | none => simpa [State.returnFrame, hf] using hs
    | some f =>
      rw [State.returnFrame_eq hf]
      exact ⟨hfetched, by simp only [State.frameFits, State.returnedNotice_frame], hrange⟩
  | queueNormal =>
    exact ⟨hfetched, by simpa only [State.frameFits, State.queueNormal_notice, Notice.queueNormal_frame] using hframe,
      hrange⟩
  | queueUrgent =>
    exact ⟨hfetched, by simpa only [State.frameFits, State.queueUrgent_notice, Notice.queueUrgent_frame] using hframe,
      hrange⟩
  | sweep hu hn hf => exact ⟨hfetched, by simpa only [State.frameFits, hf] using hframe, hrange⟩
  | charge h hlimit =>
    rename_i p n
    obtain ⟨_, ⟨_, hhard⟩, _⟩ := hs.inRange h
    refine hs.record (Principal.inRange_charged (hs.inRange h) fun hc => ?_)
    have hcampus := hlimit hc
    unfold Principal.campus at hcampus
    omega
  | chunk h hlimit =>
    rename_i p n
    refine hs.record (Principal.inRange_charged (hs.inRange h) fun hc => ?_)
    have hcampus := Nat.le_trans (hlimit hc) (Nat.min_le_left _ _)
    unfold Principal.campus at hcampus
    omega
  | account h hlc hr => exact hs.record (hr hfetched (hs.inRange h))
  | contribute h hother =>
    rename_i p station value
    have hp : p.inRange := hs.inRange h
    exact PrincipalRanges.record (s := s.mapped p.id station value) hs hp
  | announce hf he =>
    refine hs.of_update _ _ rfl rfl rfl fun p _ _ hp => ?_
    obtain ⟨h1, h2, h3, h4, h5, _⟩ := hp
    simp only [State.frameFits, hf] at hframe
    exact ⟨h1, h2, h3, h4, h5, hframe _ he⟩
  | add hnew hslot hroom hremote hjobs hr =>
    refine ⟨hfetched, hframe, fun x hx => ?_⟩
    rcases mem_insertPrincipal.1 hx with rfl | hx
    · exact hr hfetched
    · exact hrange x hx
  | drop => exact ⟨hfetched, hframe, fun x hx => hrange x (List.mem_filter.1 hx).1⟩
  | run => exact run hs
  | takeRun => exact settle (run hs)
  | settle => exact settle hs
  | jobStarts => exact hs.of_update _ _ rfl rfl rfl fun p _ _ hp => hp
  | jobEnds => exact hs.of_update _ _ rfl rfl rfl fun p _ _ hp => hp
  | load h hloader hstation hu hn hf =>
    exact ⟨hfetched, by simpa only [State.frameFits, hf] using hframe, hrange⟩
  | reset => exact ⟨trivial, trivial, nofun⟩
  | _ => exact hs

/-- Settles O56: the tables and the ranges are kept by every move. -/
theorem stepKeepsQuotaTablesAndRanges : Obligations.StepKeepsQuotaTablesAndRanges := by
  intro s t _ hstep
  exact ⟨step_keeps (fun _ _ h => h) Move.quotaTables hstep, step_keeps (fun _ _ h => h) Move.principalRanges hstep⟩

end Sys2Proof.Machine
end

section
/-! PROOFS. O29: what a move can do to a principal's class, limit and usage, and so what a grant can raise. -/

namespace Sys2Proof.Machine

/-! ### One principal through a move -/

/-- The records of two moments agree in class, H, remote sum and local usage. -/
def Principal.SameUsage (p q : Principal) : Prop :=
  q.cls = p.cls ∧ q.hard = p.hard ∧ q.remote = p.remote ∧ q.lc = p.lc

theorem Principal.SameUsage.refl (p : Principal) : p.SameUsage p := ⟨rfl, rfl, rfl, rfl⟩

theorem Quota.find_update (q : Quota) (id j : Nat) {f : Principal → Principal} (hf : ∀ p, (f p).id = p.id) :
    (q.update id f).find j = (q.find j).map fun x => x.replacedBy id f := by
  have hid (x : Principal) : (x.replacedBy id f).id = x.id := Principal.replacedBy_id fun _ => hf x
  simp only [Quota.find, Quota.update_principals, List.find?_map, Function.comp_def, hid]

/-- A principal of a table in which the records of an id have been changed, other than in usage. -/
theorem Principal.sameUsage_of_update {s t : State} {id j : Nat} {f : Principal → Principal} {q : Principal}
    (hquota : t.quota = s.quota.update j f) (hid : ∀ p, (f p).id = p.id) (hf : ∀ p : Principal, p.SameUsage (f p))
    (hq : t.principal id = some q) : ∃ p, s.principal id = some p ∧ p.SameUsage q := by
  have hfound : (s.quota.update j f).find id = some q := hquota ▸ hq
  rw [Quota.find_update _ _ _ hid, Option.map_eq_some_iff] at hfound
  obtain ⟨p, hp, rfl⟩ := hfound
  refine ⟨p, hp, ?_⟩
  unfold Principal.replacedBy
  split
  · exact hf p
  · exact .refl p

theorem OnlyExpired.sameUsage {s t : State} (h : OnlyExpired s t) {id : Nat} {q : Principal}
    (hq : t.principal id = some q) : ∃ p, s.principal id = some p ∧ p.SameUsage q := by
  obtain ⟨_, _, _, hprincipals, _⟩ := h
  have hmap := hprincipals id
  rw [hq] at hmap
  obtain ⟨p, hp, hsame⟩ := Option.map_eq_some_iff.1 hmap.symm
  exact ⟨p, hp, (congrArg (·.cls) hsame).symm, (congrArg (·.hard) hsame).symm, (congrArg (·.remote) hsame).symm,
    (congrArg (·.lc) hsame).symm⟩

/-- A principal after the writing of a record: the one written, or as before. -/
theorem State.principal_record {s : State} {r p' : Principal} (hr : s.principal r.id = some p') {id : Nat}
    {q : Principal} (hq : (s.record r).principal id = some q) :
    (id = r.id ∧ q = r.maintained s.clock.minute) ∨ s.principal id = some q := by
  by_cases hid : id = r.id
  · subst hid
    have hsame := Quota.find_update_same s.quota r.id (r.maintained s.clock.minute) rfl hr
    exact .inl ⟨rfl, Option.some.inj (hq.symm.trans hsame)⟩
  · have hne := Quota.find_update_ne s.quota r.id id (fun _ => r.maintained s.clock.minute) (fun _ _ => rfl) hid
    exact .inr (hne.symm.trans hq)

/-- The usage that a principal's grant reaches stays within its limit, and class, H and remote sum stand. -/
def Principal.GrantedWithin (p q : Principal) (limit : Nat) : Prop :=
  q.cls = p.cls ∧ q.hard = p.hard ∧ q.remote = p.remote ∧ (p.cls = .limited → q.campus ≤ limit)

theorem Principal.grantedWithin_charged {p : Principal} {n limit minute : Nat}
    (h : p.cls = .limited → p.campus + n ≤ limit) : p.GrantedWithin ((p.charged n).maintained minute) limit := by
  unfold Principal.charged
  split
  · rename_i hc
    exact ⟨rfl, rfl, rfl, fun hl => by rw [hc] at hl; cases hl⟩
  · refine ⟨rfl, rfl, rfl, fun hl => ?_⟩
    have hcampus := h hl
    unfold Principal.campus at hcampus ⊢
    simp only [Principal.maintained]
    omega

theorem State.principal_dropPrincipal_same (s : State) (id : Nat) : (s.dropPrincipal id).principal id = none := by
  refine List.find?_eq_none.2 fun p hp => ?_
  simpa using (List.mem_filter.1 hp).2

theorem State.principal_dropPrincipal_ne (s : State) {id j : Nat} (h : j ≠ id) :
    (s.dropPrincipal id).principal j = s.principal j := by
  show (s.quota.principals.filter fun p => p.id ≠ id).find? _ = s.quota.principals.find? _
  rw [List.find?_filter]
  congr 1
  funext p
  by_cases hp : p.id = j
  · simp [hp, h]
  · simp [hp]

/-- What a move of a tag can do to a principal's usage: a charge or a chunk raises it within a limit, another change of
the account does not raise it, and any other move leaves it. -/
def Principal.UsageStep (k : Tag) (restoreLimit : Nat) (p q : Principal) : Prop :=
  p.SameUsage q ∨ (k = .account ∧ q.lc ≤ p.lc) ∨ (k = .charge ∧ p.GrantedWithin q p.hard) ∨
  (k = .chunk ∧ p.GrantedWithin q restoreLimit)

theorem Move.usage {k : Tag} {s t : State} (hm : Move k s t) {id : Nat} {q : Principal}
    (hq : t.principal id = some q) : (k = .add ∧ s.principal id = none) ∨
      ∃ p, s.principal id = some p ∧ p.UsageStep k (s.restoreLimit p) q := by
  have same (h : ∃ p, s.principal id = some p ∧ p.SameUsage q) : (k = .add ∧ s.principal id = none) ∨
      ∃ p, s.principal id = some p ∧ p.UsageStep k (s.restoreLimit p) q :=
    .inr (h.imp fun _ ⟨hp, husage⟩ => ⟨hp, .inl husage⟩)
  have kept (h : s.principal id = some q) := same ⟨q, h, .refl q⟩
  cases hm with
  | frameReturned => rw [State.returnFrame_frame] at hq; exact kept hq
  | @charge _ p n h hlimit =>
    rcases State.principal_record (s := s) (by rw [Principal.charged_id]; exact h) hq with ⟨rfl, rfl⟩ | hq
    · rw [Principal.charged_id]
      exact .inr ⟨p, h, .inr (.inr (.inl ⟨rfl, Principal.grantedWithin_charged hlimit⟩))⟩
    · exact kept hq
  | @chunk _ p n h hlimit =>
    rcases State.principal_record (s := s) (by rw [Principal.charged_id]; exact h) hq with ⟨rfl, rfl⟩ | hq
    · rw [Principal.charged_id]
      exact .inr ⟨p, h, .inr (.inr (.inr ⟨rfl, Principal.grantedWithin_charged hlimit⟩))⟩
    · exact kept hq
  | @account _ p soft hard period lc h hlc hrange =>
    rcases State.principal_record (s := s) (p' := p) (by exact h) hq with ⟨rfl, rfl⟩ | hq
    · exact .inr ⟨p, h, .inr (.inl ⟨rfl, hlc⟩)⟩
    · exact kept hq
  | @contribute _ p station value h hother =>
    rcases State.principal_record (s := s.mapped p.id station value) (p' := p) (by exact h) hq with ⟨rfl, rfl⟩ | hq
    · exact .inr ⟨p, h, .inr (.inl ⟨rfl, Nat.le_refl _⟩)⟩
    · exact kept hq
  | @announce _ _ e hf he =>
    exact same (Principal.sameUsage_of_update (f := fun p => { p with la := e.value }) rfl (fun _ => rfl)
      (fun _ => ⟨rfl, rfl, rfl, rfl⟩) hq)
  | @add _ p hnew hslot hroom hremote hjobs hrange =>
    by_cases hid : id = p.id
    · subst hid; exact .inl ⟨rfl, hnew⟩
    · exact kept ((State.principal_added_ne s hid).symm.trans hq)
  | @drop _ dropped p h hused hframe =>
    by_cases hid : id = dropped
    · subst hid; rw [State.principal_dropPrincipal_same] at hq; cases hq
    · exact kept ((State.principal_dropPrincipal_ne s hid).symm.trans hq)
  | run => exact same (s.expiryRun_expired.sameUsage hq)
  | takeRun => exact same (s.takeRun_expired.sameUsage hq)
  | settle => exact same (s.settlePrecedence_expired.sameUsage hq)
  | jobStarts =>
    exact same (Principal.sameUsage_of_update (f := fun p => { p with restoreJobs := p.restoreJobs + 1 }) rfl
      (fun _ => rfl) (fun _ => ⟨rfl, rfl, rfl, rfl⟩) hq)
  | jobEnds =>
    exact same (Principal.sameUsage_of_update (f := fun p => { p with restoreJobs := p.restoreJobs - 1 }) rfl
      (fun _ => rfl) (fun _ => ⟨rfl, rfl, rfl, rfl⟩) hq)
  | reset => cases hq
  | _ => exact kept hq

theorem State.isSome_principal_of_map {s t : State} {g : Principal → Principal}
    (hprincipals : t.quota.principals = s.quota.principals.map g) (hg : ∀ p ∈ s.quota.principals, (g p).id = p.id)
    {id : Nat} (h : (s.principal id).isSome = true) : (t.principal id).isSome = true := by
  obtain ⟨p, hp, rfl⟩ := State.isSome_principal_iff.1 h
  exact State.isSome_principal_iff.2 ⟨g p, by rw [hprincipals]; exact List.mem_map_of_mem hp, hg p hp⟩

theorem State.isSome_principal_of_update {s t : State} {j : Nat} {f : Principal → Principal}
    (hquota : t.quota.principals = (s.quota.update j f).principals) (hf : ∀ p, p.id = j → (f p).id = p.id) {id : Nat}
    (h : (s.principal id).isSome = true) : (t.principal id).isSome = true :=
  State.isSome_principal_of_map hquota (fun p _ => Principal.replacedBy_id (hf p)) h

theorem OnlyExpired.isSome_principal {s t : State} (h : OnlyExpired s t) (id : Nat) :
    (t.principal id).isSome = (s.principal id).isSome := by
  obtain ⟨_, _, _, hprincipals, _⟩ := h
  simpa using congrArg Option.isSome (hprincipals id)

/-- A principal leaves the table by its removal and by the hardware reset only. -/
theorem Move.isSome_principal {k : Tag} {s t : State} (hm : Move k s t) {id : Nat}
    (h : (s.principal id).isSome = true) :
    (t.principal id).isSome = true ∨ k = .reset ∨ (k = .account ∧ t = s.dropPrincipal id ∧ s.inFrame id = false ∧
      ∃ p, s.principal id = some p ∧ s.inUse p = false) := by
  have written (s : State) (r : Principal) (h : (s.principal id).isSome = true) :
      ((s.record r).principal id).isSome = true :=
    State.isSome_principal_of_update (s := s) (j := r.id) (f := fun _ => r.maintained s.clock.minute) rfl
      (fun _ hid => hid.symm) h
  cases hm with
  | frameReturned => rw [State.returnFrame_frame]; exact .inl h
  | charge | chunk | account => exact .inl (written s _ h)
  | contribute => exact .inl (written (s.mapped _ _ _) _ h)
  | @announce _ _ e =>
    exact .inl (State.isSome_principal_of_update (s := s) (f := fun p => { p with la := e.value }) rfl
      (fun _ _ => rfl) h)
  | jobStarts =>
    exact .inl (State.isSome_principal_of_update (s := s)
      (f := fun p => { p with restoreJobs := p.restoreJobs + 1 }) rfl (fun _ _ => rfl) h)
  | jobEnds =>
    exact .inl (State.isSome_principal_of_update (s := s)
      (f := fun p => { p with restoreJobs := p.restoreJobs - 1 }) rfl (fun _ _ => rfl) h)
  | add =>
    obtain ⟨p, hp, hid⟩ := State.isSome_principal_iff.1 h
    exact .inl (State.isSome_principal_iff.2 ⟨p, mem_insertPrincipal.2 (.inr hp), hid⟩)
  | @drop _ dropped p hp hused hframe =>
    by_cases hid : id = dropped
    · subst hid; exact .inr (.inr ⟨rfl, rfl, hframe, p, hp, hused⟩)
    · rw [State.principal_dropPrincipal_ne s hid]; exact .inl h
  | run => exact .inl ((s.expiryRun_expired.isSome_principal id).trans h)
  | takeRun => exact .inl ((s.takeRun_expired.isSome_principal id).trans h)
  | settle => exact .inl ((s.settlePrecedence_expired.isSome_principal id).trans h)
  | reset => exact .inr (.inl rfl)
  | _ => exact .inl h

theorem Move.loader_eq {k : Tag} {s t : State} (hm : Move k s t) (hload : k ≠ .load) (hreset : k ≠ .reset) :
    t.loader = s.loader := by
  cases hm with
  | frameReturned => rw [State.returnFrame_frame]
  | run => exact s.expiryRun_expired.loader
  | takeRun => exact s.takeRun_expired.loader
  | settle => exact s.settlePrecedence_expired.loader
  | load => exact absurd rfl hload
  | reset => exact absurd rfl hreset
  | _ => rfl

/-! ### Whole commands -/

/-- Along a path of charges, chunks and moves that leave usages alone, a principal's class, H and remote sum stand,
and its usage is as it was or within the limit of what was granted. -/
theorem Path.grantedWithin {A : Tag → Bool} (hA : ∀ k, A k = true → k = .quiet ∨ k = .charge ∨ k = .chunk ∨
      k = .tx ∨ k = .unsettled) {s t : State} (h : Path A s t) {id : Nat} {p q : Principal}
    (hp : s.principal id = some p) {limit : Nat} (hhard : A .charge = true → p.hard ≤ limit)
    (hrestore : A .chunk = true → s.restoreLimit p ≤ limit) (hq : t.principal id = some q) :
    q.cls = p.cls ∧ q.hard = p.hard ∧ (q.lc = p.lc ∨ (p.cls = .limited → q.campus ≤ limit)) := by
  have hlaw : t.config = s.config ∧ ∀ q, t.principal id = some q → q.cls = p.cls ∧ q.hard = p.hard ∧
      q.remote = p.remote ∧ (q.lc = p.lc ∨ (p.cls = .limited → q.campus ≤ limit)) := by
    refine h.keeps (L := fun t => t.config = s.config ∧ ∀ q, t.principal id = some q → q.cls = p.cls ∧
      q.hard = p.hard ∧ q.remote = p.remote ∧ (q.lc = p.lc ∨ (p.cls = .limited → q.campus ≤ limit))) ?_
      ⟨rfl, fun q hq => ?_⟩
    · rintro k u v hk hm ⟨hconfig, hu⟩
      have htag := hA k hk
      have hloader := hm.loader_eq (by rintro rfl; simp at htag) (by rintro rfl; simp at htag)
      refine ⟨(congrArg Loader.config hloader).trans hconfig, fun q hq => ?_⟩
      rcases hm.usage hq with ⟨rfl, _⟩ | ⟨r, hr, husage⟩
      · simp at htag
      · obtain ⟨hcls, hh, hrem, hlc⟩ := hu r hr
        rcases husage with ⟨h1, h2, h3, h4⟩ | ⟨rfl, _⟩ | ⟨rfl, h1, h2, h3, h4⟩ | ⟨rfl, h1, h2, h3, h4⟩
        · refine ⟨h1.trans hcls, h2.trans hh, h3.trans hrem, hlc.imp h4.trans fun hl hc => ?_⟩
          rw [Principal.campus, h4, h3]
          exact hl hc
        · simp at htag
        · exact ⟨h1.trans hcls, h2.trans hh, h3.trans hrem, .inr fun hc =>
            Nat.le_trans (h4 (hcls.trans hc)) (hh ▸ hhard hk)⟩
        · refine ⟨h1.trans hcls, h2.trans hh, h3.trans hrem, .inr fun hc => Nat.le_trans (h4 (hcls.trans hc)) ?_⟩
          have hlimit : u.restoreLimit r = s.restoreLimit p := by simp only [State.restoreLimit, hh, hconfig]
          exact hlimit ▸ hrestore hk
    · cases hp.symm.trans hq
      exact ⟨rfl, rfl, rfl, .inl rfl⟩
  obtain ⟨h1, h2, _, h3⟩ := hlaw.2 q hq
  exact ⟨h1, h2, h3⟩

/-- Along a path without charges, chunks or new principals no usage rises. -/
theorem Path.usage_le {A : Tag → Bool} (hA : ∀ k, A k = true → k ≠ .charge ∧ k ≠ .chunk ∧ k ≠ .add) {s t : State}
    (h : Path A s t) {id : Nat} {p q : Principal} (hp : s.principal id = some p) (hq : t.principal id = some q) :
    q.lc ≤ p.lc := by
  refine h.keeps (L := fun t => ∀ q, t.principal id = some q → q.lc ≤ p.lc) ?_ ?_ q hq
  · intro k u v hk hm hu q hq
    obtain ⟨hcharge, hchunk, hadd⟩ := hA k hk
    rcases hm.usage hq with ⟨h, _⟩ | ⟨r, hr, ⟨_, _, _, h⟩ | ⟨_, h⟩ | ⟨h, _⟩ | ⟨h, _⟩⟩
    · exact absurd h hadd
    · exact Nat.le_trans (Nat.le_of_eq h) (hu r hr)
    · exact Nat.le_trans h (hu r hr)
    · exact absurd h hcharge
    · exact absurd h hchunk
  · intro q hq
    cases hp.symm.trans hq
    exact Nat.le_refl _

/-- Along the path of PRINCIPAL ADD no usage of a listed principal changes. -/
theorem Path.usage_le_add {A : Tag → Bool} (hA : ∀ k, A k = true → k = .quiet ∨ k = .add) {s t : State}
    (h : Path A s t) {id : Nat} {p q : Principal} (hp : s.principal id = some p) (hq : t.principal id = some q) :
    q.lc ≤ p.lc := by
  have hlaw : ∃ q, t.principal id = some q ∧ q.lc ≤ p.lc := by
    refine h.keeps (L := fun t => ∃ q, t.principal id = some q ∧ q.lc ≤ p.lc) ?_ ⟨p, hp, Nat.le_refl _⟩
    rintro k u v hk hm ⟨r, hr, hle⟩
    have htag := hA k hk
    rcases hm.isSome_principal (id := id) (by rw [hr]; rfl) with hv | rfl | ⟨rfl, _⟩
    · obtain ⟨q, hq⟩ := Option.isSome_iff_exists.1 hv
      refine ⟨q, hq, ?_⟩
      rcases hm.usage hq with ⟨_, hnone⟩ | ⟨r', hr', husage⟩
      · rw [hr] at hnone; cases hnone
      · cases hr.symm.trans hr'
        rcases husage with ⟨_, _, _, h⟩ | ⟨rfl, _⟩ | ⟨rfl, _⟩ | ⟨rfl, _⟩
        · exact Nat.le_trans (Nat.le_of_eq h) hle
        all_goals simp at htag
    all_goals simp at htag
  obtain ⟨q', hq', hle⟩ := hlaw
  cases hq.symm.trans hq'
  exact hle

/-- Settles O29: only grants raise a usage, and each is made within its limit: a CHARGE within H, a restore chunk
within the restore limit. -/
theorem grantsStayWithinTheLimits : Obligations.GrantsStayWithinTheLimits := by
  intro s t i id p q hranges hexec hp hq hc hlt
  obtain ⟨u, hu, hpath⟩ := exec_reached i s
  cases hexec.symm.trans hu
  obtain ⟨_, ⟨_, hmax⟩, _⟩ := hranges.inRange hp
  have hle : p.hard ≤ s.restoreLimit p := Nat.le_min.2 ⟨hmax, Nat.le_add_right _ _⟩
  have within {limit : Nat}
      (h : q.cls = p.cls ∧ q.hard = p.hard ∧ (q.lc = p.lc ∨ (p.cls = .limited → q.campus ≤ limit))) :
      q.cls = .limited ∧ q.hard = p.hard ∧ q.lc + q.remote ≤ limit := by
    obtain ⟨h1, h2, h3⟩ := h
    refine ⟨h1.trans hc, h2, ?_⟩
    rcases h3 with h3 | h3
    · omega
    · exact h3 hc
  have chunked (hA : ∀ k, tagsOf i k = true → k = .quiet ∨ k = .charge ∨ k = .chunk ∨ k = .tx ∨ k = .unsettled)
      (hi : ¬ ((∃ id n, i = .charge id n) ∨ i = .blockedChargeReexecution)) : q.cls = .limited ∧ q.hard = p.hard ∧
      q.lc + q.remote ≤ min max32 (q.hard + q.hard * s.config.restoreAllowance / 1000) ∧
      (((∃ id n, i = .charge id n) ∨ i = .blockedChargeReexecution) → q.lc + q.remote ≤ q.hard) := by
    obtain ⟨h1, h2, h3⟩ := within (hpath.grantedWithin hA hp (fun _ => hle) (fun _ => (Nat.le_refl _)) hq)
    exact ⟨h1, h2, by rw [h2]; exact h3, fun h => absurd h hi⟩
  have charged (hA : ∀ k, tagsOf i k = true → k = .quiet ∨ k = .charge) : q.cls = .limited ∧ q.hard = p.hard ∧
      q.lc + q.remote ≤ min max32 (q.hard + q.hard * s.config.restoreAllowance / 1000) ∧
      (((∃ id n, i = .charge id n) ∨ i = .blockedChargeReexecution) → q.lc + q.remote ≤ q.hard) := by
    have hno : tagsOf i .chunk = false := by
      refine Classical.byContradiction fun h => ?_
      have := hA .chunk (by simpa using h)
      simp at this
    obtain ⟨h1, h2, h3⟩ := within (hpath.grantedWithin (fun k hk => by rcases hA k hk with h | h <;> simp [h]) hp
      (fun _ => (Nat.le_refl _)) (fun h => by rw [hno] at h; cases h) hq)
    exact ⟨h1, h2, by rw [h2]; exact Nat.le_trans h3 hle, fun _ => by rw [h2]; exact h3⟩
  cases i with
  | charge | blockedChargeReexecution => exact charged (by intro k; cases k <;> simp [tagsOf])
  | transmitCompletion | arbiterChoice => exact chunked (by intro k; cases k <;> simp [tagsOf]) (by simp)
  | principalAdd => exact absurd (hpath.usage_le_add (by intro k; cases k <;> simp [tagsOf]) hp hq) (by omega)
  | _ => exact absurd (hpath.usage_le (by intro k; cases k <;> simp [tagsOf]) hp hq) (by omega)

end Sys2Proof.Machine
end

section
/-! PROOFS. O57: the notice queue, the transmitter and the held list. -/

namespace Sys2Proof.Machine

/-! ### The notice queue (R81 to R89) -/

/-- The queue's part of the law (R81): each principal once, and only listed ones. -/
def Notice.queueLaw (n : Notice) (listed : Nat → Prop) : Prop :=
  (n.urgent ++ n.normal).Nodup ∧ ∀ id ∈ n.urgent ++ n.normal, listed id

theorem Notice.queueLaw_queueNormal {n : Notice} {listed : Nat → Prop} (h : n.queueLaw listed) {id : Nat}
    (hid : listed id) : (n.queueNormal id).queueLaw listed := by
  refine ⟨?_, fun x hx => ?_⟩
  · by_cases hq : n.queued id = true
    · rw [Notice.queueNormal_of_queued (Notice.queued_iff.1 hq)]; exact h.1
    · have hnot : id ∉ n.urgent ++ n.normal := fun hm => hq (Notice.queued_iff.2 (List.mem_append.1 hm))
      simp only [Notice.queueNormal, hq, Bool.false_eq_true, if_false, ← List.append_assoc]
      exact List.nodup_append.2 ⟨h.1, by simp, fun x hx y hy => by
        rw [List.mem_singleton.1 hy]; rintro rfl; exact hnot hx⟩
  · rcases (Notice.queueNormal_mem n id x).1 hx with rfl | hx
    · exact hid
    · exact h.2 x hx

/-- Queueing URGENT adds the principal to the queue and takes none away (R82). -/
theorem Notice.queueUrgent_mem (n : Notice) (id x : Nat) :
    x ∈ (n.queueUrgent id).urgent ++ (n.queueUrgent id).normal ↔ x = id ∨ x ∈ n.urgent ++ n.normal := by
  by_cases h : id ∈ n.urgent
  · rw [Notice.queueUrgent_of_urgent h]
    constructor
    · exact .inr
    · rintro (rfl | hx)
      · exact List.mem_append_left _ h
      · exact hx
  · rw [Notice.queueUrgent_of_not_urgent h]
    simp only [List.mem_append, List.mem_filter, List.mem_singleton, decide_eq_true_eq]
    by_cases hx : x = id
    · subst hx
      exact ⟨fun _ => .inl rfl, fun _ => .inl (.inr rfl)⟩
    · simp only [hx, or_false, false_or, ne_eq, not_false_eq_true, and_true]

theorem Notice.queueLaw_queueUrgent {n : Notice} {listed : Nat → Prop} (h : n.queueLaw listed) {id : Nat}
    (hid : listed id) : (n.queueUrgent id).queueLaw listed := by
  refine ⟨?_, fun x hx => ?_⟩
  · by_cases hu : id ∈ n.urgent
    · rw [Notice.queueUrgent_of_urgent hu]; exact h.1
    · obtain ⟨hurgent, hnormal, hdisjoint⟩ := List.nodup_append.1 h.1
      rw [Notice.queueUrgent_of_not_urgent hu]
      refine List.nodup_append.2 ⟨?_, hnormal.filter _, fun x hx y hy => ?_⟩
      · exact List.nodup_append.2 ⟨hurgent, by simp, fun x hx y hy => by
          rw [List.mem_singleton.1 hy]; rintro rfl; exact hu hx⟩
      · obtain ⟨hy, hne⟩ := List.mem_filter.1 hy
        rcases List.mem_append.1 hx with hx | hx
        · exact hdisjoint x hx y hy
        · rw [List.mem_singleton.1 hx]
          exact Ne.symm (of_decide_eq_true hne)
  · rcases (Notice.queueUrgent_mem n id x).1 hx with rfl | hx
    · exact hid
    · exact h.2 x hx

/-- The frame record's part of the law (R84). -/
def FrameRecord.recordLaw (f : FrameRecord) (listed : Nat → Prop) : Prop :=
  (f.entries.map (·.principal)).Nodup ∧ 1 ≤ f.entries.length ∧ f.entries.length ≤ f.format.limit ∧
  ∀ e ∈ f.entries, listed e.principal

/-- The notice unit's law (R81, R84). -/
def Notice.law (n : Notice) (listed : Nat → Prop) : Prop :=
  n.queueLaw listed ∧ ∀ f, n.frame = some f → f.recordLaw listed

theorem noticeQueueLaw_iff {s : State} :
    NoticeQueueLaw s ↔ s.notice.law fun id => (s.principal id).isSome = true := by
  unfold NoticeQueueLaw Notice.law Notice.queueLaw FrameRecord.recordLaw
  cases s.notice.frame <;> simp [and_assoc]

theorem Notice.law.mono {n : Notice} {p q : Nat → Prop} (h : n.law p) (hpq : ∀ id, p id → q id) : n.law q :=
  ⟨⟨h.1.1, fun id hid => hpq id (h.1.2 id hid)⟩, fun f hf =>
    have ⟨h1, h2, h3, h4⟩ := h.2 f hf
    ⟨h1, h2, h3, fun e he => hpq _ (h4 e he)⟩⟩

/-- A change of the queue that keeps the frame record. -/
theorem Notice.law.of_queue {n m : Notice} {p : Nat → Prop} (h : n.law p) (hq : m.queueLaw p)
    (hf : m.frame = n.frame) : m.law p := ⟨hq, fun f hm => h.2 f (hf.symm.trans hm)⟩

theorem Notice.queue_principals (n : Notice) : n.queue.map (·.1) = n.urgent ++ n.normal := by
  simp [Notice.queue, Function.comp_def]

theorem UsageFormat.one_le_limit (f : UsageFormat) : 1 ≤ f.limit := by cases f <;> decide

theorem State.builtRecord_principals (s : State) : s.builtRecord.entries.map (·.principal) =
    (s.notice.urgent ++ s.notice.normal).take s.peers.format.limit := by
  rw [← Notice.queue_principals, ← List.map_take, State.builtRecord]
  simp [Function.comp_def]

/-- The queue after a build is what the build has left of it (R86). -/
theorem State.builtNotice_queue (s : State) : s.builtNotice.urgent ++ s.builtNotice.normal =
    (s.notice.urgent ++ s.notice.normal).drop s.peers.format.limit := List.drop_append.symm

theorem Notice.law_builtNotice {s : State} {p : Nat → Prop} (h : s.notice.law p)
    (hsome : s.notice.urgent ++ s.notice.normal ≠ []) : s.builtNotice.law p := by
  obtain ⟨⟨hnodup, hlisted⟩, _⟩ := h
  have hlength : s.builtRecord.entries.length =
      min s.peers.format.limit (s.notice.urgent ++ s.notice.normal).length := by
    rw [← List.length_take, ← State.builtRecord_principals, List.length_map]
  refine ⟨⟨?_, fun id hid => ?_⟩, ?_⟩
  · rw [State.builtNotice_queue]
    exact (List.drop_sublist _ _).nodup hnodup
  · rw [State.builtNotice_queue] at hid
    exact hlisted id (List.mem_of_mem_drop hid)
  · rintro _ ⟨⟩
    refine ⟨?_, ?_, ?_, fun e he => ?_⟩
    · rw [State.builtRecord_principals]
      exact (List.take_sublist _ _).nodup hnodup
    · rw [hlength]
      exact Nat.le_min.2 ⟨s.peers.format.one_le_limit, List.length_pos_iff.2 hsome⟩
    · rw [hlength]
      exact Nat.min_le_left _ _
    · have hmem := List.mem_map_of_mem (f := (·.principal)) he
      rw [State.builtRecord_principals] at hmem
      exact hlisted _ (List.mem_of_mem_take hmem)

/-- The queue after the carried principals that are not in it have gone back (R89 steps 2 and 3). -/
theorem Notice.queueLaw_putBack {n : Notice} {p : Nat → Prop} (h : n.queueLaw p) {f : FrameRecord}
    (hf : f.recordLaw p) : (n.putBack f.entries).queueLaw p := by
  obtain ⟨hnodup, hlisted⟩ := h
  obtain ⟨hentries, _, _, hcarried⟩ := hf
  have hperm : ((n.putBack f.entries).urgent ++ (n.putBack f.entries).normal).Perm
      (((f.entries.filter fun e => !n.queued e.principal).map (·.principal)) ++ (n.urgent ++ n.normal)) := by
    have haway := (List.filter_append_perm (fun e : NoticeEntry => e.urgent)
      (f.entries.filter fun e => !n.queued e.principal)).map (·.principal)
    rw [List.map_append] at haway
    unfold Notice.putBack
    dsimp only
    refine .trans ?_ (haway.append_right _)
    simp only [List.append_assoc]
    refine .append_left _ ?_
    rw [← List.append_assoc, ← List.append_assoc]
    exact .append_right _ List.perm_append_comm
  refine ⟨hperm.nodup_iff.2 (List.nodup_append.2 ⟨?_, hnodup, ?_⟩), fun id hid => ?_⟩
  · exact (List.filter_sublist.map _).nodup hentries
  · rintro _ hx y hy rfl
    obtain ⟨e, he, rfl⟩ := List.mem_map.1 hx
    have hqueued := Notice.queued_iff.2 (List.mem_append.1 hy)
    simp [hqueued] at he
  · rcases List.mem_append.1 (hperm.mem_iff.1 hid) with hid | hid
    · obtain ⟨e, he, rfl⟩ := List.mem_map.1 hid
      exact hcarried e (List.mem_filter.1 he).1
    · exact hlisted id hid

/-- Step 4 of a frame's return, entry by entry (R89). -/
def State.promotes (s : State) (n : Notice) (e : NoticeEntry) : Notice :=
  if n.normal.contains e.principal && s.heldUnfrozen e.principal then n.queueUrgent e.principal else n

theorem State.returnedNotice_eq (s : State) (f : FrameRecord) :
    s.returnedNotice f = f.entries.foldl s.promotes { s.notice.putBack f.entries with frame := none } := rfl

theorem State.returnedNotice_queueLaw {s : State} {p : Nat → Prop} {f : FrameRecord} (h : s.notice.queueLaw p)
    (hf : f.recordLaw p) : (s.returnedNotice f).queueLaw p := by
  have fold (l : List NoticeEntry) (n : Notice) (hn : n.queueLaw p) (hl : ∀ e ∈ l, p e.principal) :
      (l.foldl s.promotes n).queueLaw p := by
    induction l generalizing n with
    | nil => exact hn
    | cons e l ih =>
      refine ih _ ?_ fun x hx => hl x (.tail _ hx)
      unfold State.promotes
      split
      · exact Notice.queueLaw_queueUrgent hn (hl e (.head _))
      · exact hn
  rw [State.returnedNotice_eq]
  exact fold _ _ (Notice.queueLaw_putBack h hf) hf.2.2.2

theorem Notice.law_leave {n : Notice} {p : Nat → Prop} (h : n.law p) {id : Nat}
    (hframe : ∀ f, n.frame = some f → ∀ e ∈ f.entries, e.principal ≠ id) : (n.leave id).law fun j => p j ∧ j ≠ id := by
  obtain ⟨⟨hnodup, hlisted⟩, hrecord⟩ := h
  have hqueue : (n.leave id).urgent ++ (n.leave id).normal = (n.urgent ++ n.normal).filter (· ≠ id) :=
    (List.filter_append ..).symm
  refine ⟨⟨?_, fun j hj => ?_⟩, fun f hf => ?_⟩
  · rw [hqueue]; exact hnodup.filter _
  · rw [hqueue] at hj
    obtain ⟨hj, hne⟩ := List.mem_filter.1 hj
    exact ⟨hlisted j hj, by simpa using hne⟩
  · obtain ⟨h1, h2, h3, h4⟩ := hrecord f hf
    exact ⟨h1, h2, h3, fun e he => ⟨h4 e he, hframe f hf e he⟩⟩

theorem State.ne_of_inFrame_eq_false {s : State} {id : Nat} (h : s.inFrame id = false) {f : FrameRecord}
    (hf : s.notice.frame = some f) : ∀ e ∈ f.entries, e.principal ≠ id := by
  simpa [State.inFrame, hf] using h

theorem Move.noticeQueueLaw {k : Tag} {s t : State} (hm : Move k s t) (hs : NoticeQueueLaw s) : NoticeQueueLaw t := by
  have hs' := noticeQueueLaw_iff.1 hs
  have listed (hn : t.notice = s.notice) (hp : ∀ id, (s.principal id).isSome = true → (t.principal id).isSome = true) :
      NoticeQueueLaw t := noticeQueueLaw_iff.2 (hn ▸ hs'.mono hp)
  have expired (h : OnlyExpired s t) : NoticeQueueLaw t :=
    listed (h.1 .notice (by simp)) fun id hid => (h.isSome_principal id).trans hid
  have written (s : State) (r : Principal) (id : Nat) (h : (s.principal id).isSome = true) :
      ((s.record r).principal id).isSome = true :=
    State.isSome_principal_of_update (s := s) (j := r.id) (f := fun _ => r.maintained s.clock.minute) rfl
      (fun _ hid => hid.symm) h
  have still (hk : k ≠ .account) (hr : k ≠ .reset) (id : Nat) (hid : (s.principal id).isSome = true) :
      (t.principal id).isSome = true := by
    rcases hm.isSome_principal hid with h | h | ⟨h, _⟩
    · exact h
    · exact absurd h hr
    · exact absurd h hk
  cases hm with
  | frameTaken hnone hsome => exact noticeQueueLaw_iff.2 (Notice.law_builtNotice hs' hsome)
  | frameDone => exact noticeQueueLaw_iff.2 ⟨hs'.1, nofun⟩
  | frameReturned =>
    cases hf : s.notice.frame with
    | none => simpa [State.returnFrame, hf] using hs
    | some f =>
      rw [State.returnFrame_eq hf]
      refine noticeQueueLaw_iff.2 ⟨State.returnedNotice_queueLaw hs'.1 (hs'.2 f hf), fun g hg => ?_⟩
      rw [State.returnedNotice_frame] at hg
      cases hg
  | sweep hu hn hf =>
    refine noticeQueueLaw_iff.2 (hs'.of_queue ?_ hf)
    simpa only [Notice.queueLaw, hu, hn] using hs'.1
  | queueNormal h =>
    exact noticeQueueLaw_iff.2 (hs'.of_queue (Notice.queueLaw_queueNormal hs'.1 h) (Notice.queueNormal_frame _ _))
  | @queueUrgent _ id h =>
    refine noticeQueueLaw_iff.2 (hs'.of_queue (Notice.queueLaw_queueUrgent hs'.1 ?_) (Notice.queueUrgent_frame _ _))
    rcases h with h | h
    · exact h
    · cases hf : s.notice.frame with
      | none => simp [State.inFrame, hf] at h
      | some f =>
        obtain ⟨_, _, _, hcarried⟩ := hs'.2 f hf
        simp only [State.inFrame, hf, List.any_eq_true, beq_iff_eq] at h
        obtain ⟨e, he, rfl⟩ := h
        exact hcarried e he
  | charge | chunk => exact listed rfl (still nofun nofun)
  | account h => exact listed rfl (written s _)
  | contribute h => exact listed rfl (written (s.mapped _ _ _) _)
  | announce | add | jobStarts | jobEnds => exact listed rfl (still nofun nofun)
  | @drop _ id p h hused hframe =>
    refine noticeQueueLaw_iff.2 ((Notice.law_leave hs' fun f hf => State.ne_of_inFrame_eq_false hframe hf).mono ?_)
    rintro j ⟨hj, hne⟩
    rw [State.principal_dropPrincipal_ne s hne]
    exact hj
  | run => exact expired s.expiryRun_expired
  | takeRun => exact expired s.takeRun_expired
  | settle => exact expired s.settlePrecedence_expired
  | load h hloader hstation hu hn hf =>
    refine noticeQueueLaw_iff.2 (hs'.of_queue ?_ hf)
    simpa only [Notice.queueLaw, hu, hn] using hs'.1
  | reset => exact ⟨.nil, nofun, trivial⟩
  | _ => exact hs

end Sys2Proof.Machine
end

section
/-! PROOFS. O57: the held list. -/

namespace Sys2Proof.Machine

/-! ### The held list (R28, R38) -/

theorem State.inFrame_iff {s : State} {f : FrameRecord} (hf : s.notice.frame = some f) {id : Nat} :
    s.inFrame id = true ↔ ∃ x ∈ f.entries, x.principal = id := by
  simp [State.inFrame, hf]

theorem State.inFrame_congr {s t : State} (h : t.notice.frame = s.notice.frame) (id : Nat) :
    t.inFrame id = s.inFrame id := by simp only [State.inFrame, h]

/-- An entry that was frozen is frozen where a FAULT stays. -/
theorem State.frozen_of_origin {s t : State} {e x : HeldEntry} (horigin : x.origin = e.origin)
    (hfault : s.port.requestState = .fault → t.port.requestState = .fault) (h : t.frozen e = false) :
    s.frozen x = false := by
  unfold State.frozen at h ⊢
  rw [horigin]
  split at h
  · rename_i address _
    simp only [decide_eq_false_iff_not] at h ⊢
    exact fun hs => h (hfault hs)
  · rfl

/-- The law of the held list stands where every held entry comes from one of the same origin and principal, a FAULT
stays, and neither URGENT nor the frame record loses a principal. -/
theorem HeldLaw.of_sub {s t : State} (hs : HeldLaw s)
    (hheld : ∀ e ∈ t.quota.held, ∃ x ∈ s.quota.held, x.origin = e.origin ∧ x.principal = e.principal)
    (hfault : s.port.requestState = .fault → t.port.requestState = .fault)
    (hurgent : ∀ id ∈ s.notice.urgent, id ∈ t.notice.urgent) (hframe : t.notice.frame = s.notice.frame) :
    HeldLaw t := by
  intro e he hfrozen
  obtain ⟨x, hx, horigin, hprincipal⟩ := hheld e he
  rw [State.inFrame_congr hframe, ← hprincipal]
  exact (hs x hx (State.frozen_of_origin horigin hfault hfrozen)).imp_left (hurgent _)

/-- The law with fewer held entries. -/
theorem HeldLaw.of_sublist {s t : State} (hs : HeldLaw s) (hheld : t.quota.held.Sublist s.quota.held)
    (hport : t.port = s.port) (hnotice : t.notice = s.notice) : HeldLaw t :=
  hs.of_sub (fun e he => ⟨e, hheld.subset he, rfl, rfl⟩) (by rw [hport]; exact id) (by rw [hnotice]; exact fun _ => id)
    (by rw [hnotice])

/-- The law with one entry more, of a principal that is URGENT. -/
theorem HeldLaw.of_added {s t : State} (hs : HeldLaw s) {e : HeldEntry} (hheld : t.quota.held = s.quota.held ++ [e])
    (hurgent : e.principal ∈ s.notice.urgent) (hport : t.port = s.port) (hnotice : t.notice = s.notice) :
    HeldLaw t := by
  intro x hx hfrozen
  have hframe : t.inFrame x.principal = s.inFrame x.principal := State.inFrame_congr (by rw [hnotice]) _
  rw [hheld] at hx
  rw [hframe, hnotice]
  rcases List.mem_append.1 hx with hx | hx
  · exact hs x hx (State.frozen_of_origin rfl (by rw [hport]; exact id) hfrozen)
  · rw [List.mem_singleton.1 hx]
    exact .inl hurgent

theorem OnlyExpired.heldLaw {s t : State} (h : OnlyExpired s t) (hs : HeldLaw s) : HeldLaw t := by
  obtain ⟨hblocks, hheld, _, _, _, ⟨l, hport⟩, _⟩ := h
  have hnotice : t.notice = s.notice := hblocks .notice (by simp)
  refine hs.of_sub (fun e he => ⟨e, hheld ▸ he, rfl, rfl⟩) (by rw [hport]; simp) (by rw [hnotice]; exact fun _ => id)
    (by rw [hnotice])

/-- A build takes principals off the queue into the frame record (R86). -/
theorem HeldLaw.built {s : State} (hs : HeldLaw s) (hnone : s.notice.frame = none) :
    HeldLaw { s with notice := s.builtNotice } := by
  intro e he hfrozen
  have hurgent : e.principal ∈ s.notice.urgent := by
    rcases hs e he hfrozen with h | h
    · exact h
    · simp [State.inFrame, hnone] at h
  have htaken : e.principal ∈ s.builtNotice.urgent ∨ e.principal ∈ s.builtRecord.entries.map (·.principal) := by
    rw [State.builtRecord_principals, List.take_append]
    rw [← List.take_append_drop s.peers.format.limit s.notice.urgent] at hurgent
    rcases List.mem_append.1 hurgent with h | h
    · exact .inr (List.mem_append_left _ h)
    · exact .inl h
  refine htaken.imp_right fun h => ?_
  obtain ⟨x, hx, hprincipal⟩ := List.mem_map.1 h
  exact (State.inFrame_iff (s := { s with notice := s.builtNotice }) rfl).2 ⟨x, hx, hprincipal⟩

/-- A returned principal that stands in URGENT, or in NORMAL with held entries, ends in URGENT (R89 step 4). -/
theorem State.mem_urgent_of_promotes (s : State) {id : Nat} (hheld : s.heldUnfrozen id = true) (l : List NoticeEntry)
    (n : Notice) (h : id ∈ n.urgent ∨ (id ∈ n.normal ∧ ∃ e ∈ l, e.principal = id)) :
    id ∈ (l.foldl s.promotes n).urgent := by
  induction l generalizing n with
  | nil =>
    rcases h with h | ⟨_, e, he, _⟩
    · exact h
    · cases he
  | cons e l ih =>
    refine ih _ ?_
    rcases h with h | ⟨hnormal, x, hx, hid⟩
    · left
      unfold State.promotes
      split
      · exact (Notice.queueUrgent_urgent n _ id).2 (.inr h)
      · exact h
    · by_cases hsame : e.principal = id
      · left
        have hcontains : n.normal.contains id = true := List.contains_iff_mem.2 hnormal
        rw [State.promotes, hsame, hcontains, hheld]
        exact (Notice.queueUrgent_urgent n id id).2 (.inl rfl)
      · have htail : ∃ e ∈ l, e.principal = id := by
          rcases List.mem_cons.1 hx with rfl | hx
          · exact absurd hid hsame
          · exact ⟨x, hx, hid⟩
        right
        refine ⟨?_, htail⟩
        unfold State.promotes
        split
        · by_cases hu : e.principal ∈ n.urgent
          · rwa [Notice.queueUrgent_of_urgent hu]
          · rw [Notice.queueUrgent_of_not_urgent hu]
            exact List.mem_filter.2 ⟨hnormal, by simpa using Ne.symm hsame⟩
        · exact hnormal

/-- A carried principal stands in the queue after the return of its frame (R89). -/
theorem Notice.mem_putBack (n : Notice) {entries : List NoticeEntry} {e : NoticeEntry} (he : e ∈ entries) :
    e.principal ∈ (n.putBack entries).urgent ∨ e.principal ∈ (n.putBack entries).normal := by
  unfold Notice.putBack
  simp only [List.mem_append]
  by_cases hq : n.queued e.principal = true
  · rcases Notice.queued_iff.1 hq with h | h
    · exact .inl (.inr h)
    · exact .inr (.inr h)
  · have haway : e ∈ entries.filter fun e => !n.queued e.principal := List.mem_filter.2 ⟨he, by simpa using hq⟩
    by_cases hu : e.urgent = true
    · exact .inl (.inl (List.mem_map_of_mem (List.mem_filter.2 ⟨haway, hu⟩)))
    · exact .inr (.inl (List.mem_map_of_mem (List.mem_filter.2 ⟨haway, by simpa using hu⟩)))

theorem HeldLaw.frameReturned {s : State} (hs : HeldLaw s) : HeldLaw s.returnFrame := by
  cases hf : s.notice.frame with
  | none => simpa [State.returnFrame, hf] using hs
  | some f =>
    rw [State.returnFrame_eq hf]
    intro e he hfrozen
    have hfrozen : s.frozen e = false := hfrozen
    have hunfrozen : s.heldUnfrozen e.principal = true :=
      List.any_eq_true.2 ⟨e, he, by simp [hfrozen]⟩
    have hafter : e.principal ∈ (s.returnedNotice f).urgent := by
      rw [State.returnedNotice_eq]
      refine s.mem_urgent_of_promotes hunfrozen _ _ ?_
      rcases hs e he hfrozen with h | h
      · exact .inl (List.mem_append_right _ h)
      · obtain ⟨x, hx, hid⟩ := (State.inFrame_iff hf).1 h
        rw [← hid]
        exact (Notice.mem_putBack s.notice hx).imp_right fun h => ⟨h, x, hx, rfl⟩
    exact .inl hafter

/-- A principal that is not in use has no held entry (R16). -/
theorem HeldLaw.dropPrincipal {s : State} (hs : HeldLaw s) {id : Nat} {p : Principal} (hp : s.principal id = some p)
    (hused : s.inUse p = false) : HeldLaw (s.dropPrincipal id) := by
  intro e he hfrozen
  have hne : e.principal ≠ id := by
    simp only [State.inUse, Bool.or_eq_false_iff, List.any_eq_false] at hused
    obtain ⟨_, hnone⟩ := hused
    rw [← State.principal_id hp]
    simpa using hnone e he
  refine (hs e he hfrozen).imp_left fun h => List.mem_filter.2 ⟨h, by simpa using hne⟩

theorem Move.heldLaw {k : Tag} {s t : State} (hm : Move k s t) (hs : HeldLaw s) : HeldLaw t := by
  have left {l₁ l₂ : List HeldEntry} {e : HeldEntry} (h : s.quota.held = l₁ ++ e :: l₂) :
      (l₁ ++ l₂).Sublist s.quota.held := by
    rw [h]
    exact .append (.refl _) (List.sublist_cons_self _ _)
  cases hm with
  | port h => exact hs.of_sub (fun e he => ⟨e, he, rfl, rfl⟩) h.fault (fun _ => id) rfl
  | portReset h =>
    intro e he _
    refine hs e he ?_
    have hchunk := h e he
    cases horigin : e.origin with
    | charge address => simp only [HeldEntry.isCharge, horigin, Bool.true_eq_false] at hchunk
    | restore slot => simp only [State.frozen, horigin]
  | frameTaken hnone => exact hs.built hnone
  | frameDone h =>
    intro e he hfrozen
    rcases hs e he hfrozen with hu | hcarried
    · exact .inl hu
    · exact .inl (h e he hfrozen hcarried)
  | frameReturned => exact hs.frameReturned
  | sweep hu hn hf => exact hs.of_sub (fun e he => ⟨e, he, rfl, rfl⟩) id (by rw [hu]; exact fun _ => id) hf
  | queueNormal =>
    refine hs.of_sub (fun e he => ⟨e, he, rfl, rfl⟩) id ?_ (Notice.queueNormal_frame _ _)
    rw [show (State.queueNormal s _).notice.urgent = s.notice.urgent from Notice.queueNormal_urgent _ _]
    exact fun _ => id
  | queueUrgent =>
    exact hs.of_sub (fun e he => ⟨e, he, rfl, rfl⟩) id (fun x h => (Notice.queueUrgent_urgent _ _ x).2 (.inr h))
      (Notice.queueUrgent_frame _ _)
  | drop hp hused => exact hs.dropPrincipal hp hused
  | run => exact s.expiryRun_expired.heldLaw hs
  | takeRun => exact s.takeRun_expired.heldLaw hs
  | settle => exact s.settlePrecedence_expired.heldLaw hs
  | heldCharge _ _ hurgent => exact hs.of_added rfl hurgent rfl rfl
  | heldAges =>
    refine hs.of_sub (fun e he => ?_) id (fun _ => id) rfl
    obtain ⟨x, hx, rfl⟩ := List.mem_map.1 he
    refine ⟨x, hx, ?_⟩
    unfold State.agedHeld
    split <;> exact ⟨rfl, rfl⟩
  | heldLeaves hsub => exact hs.of_sublist hsub rfl rfl
  | strayLeaves hheld => exact hs.of_sublist (left hheld) rfl rfl
  | heldChunk _ _ _ _ hurgent => exact hs.of_added rfl hurgent rfl rfl
  | chunkLeaves _ _ hheld =>
    refine hs.of_sublist ?_ rfl rfl
    rcases hheld with ⟨l₁, e, l₂, h, _, rfl⟩ | ⟨_, rfl⟩
    · exact left h
    · exact List.filter_sublist
  | heldGranted _ hheld => exact hs.of_sublist (left hheld) rfl rfl
  | load h hloader hstation hu hn hf =>
    exact hs.of_sub (fun e he => ⟨e, he, rfl, rfl⟩) id (by rw [hu]; exact fun _ => id) hf
  | reset => exact nofun
  | _ => exact hs

end Sys2Proof.Machine
end

section
/-! PROOFS. O57: the transmitter and its frame, and the settled statement. -/

namespace Sys2Proof.Machine

/-! ### What the transmitter's law speaks of -/

/-- The transmitter's state and frame, the frame record, the station's number and whether the load goes on. -/
def State.transmits (s : State) : TxState × Option Frame × Option FrameRecord × Nat × Bool :=
  (s.bus.tx.state, s.bus.tx.frame, s.notice.frame, s.straps.station, decide (s.peers.station = .configuring))

theorem State.transmits_eq {s t : State} : t.transmits = s.transmits ↔
    t.bus.tx.state = s.bus.tx.state ∧ t.bus.tx.frame = s.bus.tx.frame ∧ t.notice.frame = s.notice.frame ∧
    t.straps.station = s.straps.station ∧ (t.peers.station = .configuring ↔ s.peers.station = .configuring) := by
  simp [State.transmits]

/-- The law where the transmitter goes between states that both hold a frame, or both hold none. -/
theorem TransmitterLaw.of_frame {s t : State} (hs : TransmitterLaw s)
    (hoff : t.peers.station = .configuring → t.bus.tx.state = .off)
    (hholds : t.bus.tx.state.holdsFrame = s.bus.tx.state.holdsFrame) (hframe : t.bus.tx.frame = s.bus.tx.frame)
    (hrecord : t.notice.frame = s.notice.frame) (hstation : t.straps.station = s.straps.station) :
    TransmitterLaw t := by
  refine ⟨hoff, ?_, ?_⟩
  · rw [hframe, hholds]; exact hs.2.1
  · rw [hframe, hrecord, hstation]; exact hs.2.2

theorem TransmitterLaw.of_transmits {s t : State} (hs : TransmitterLaw s) (h : t.transmits = s.transmits) :
    TransmitterLaw t := by
  obtain ⟨hstate, hframe, hrecord, hstation, hconf⟩ := State.transmits_eq.1 h
  exact hs.of_frame (fun hc => hstate.trans (hs.1 (hconf.1 hc))) (by rw [hstate]) hframe hrecord hstation

/-- The law with no frame and no frame record. -/
theorem TransmitterLaw.of_none {t : State} (hoff : t.peers.station = .configuring → t.bus.tx.state = .off)
    (hholds : t.bus.tx.state.holdsFrame = false) (hframe : t.bus.tx.frame = none) (hrecord : t.notice.frame = none) :
    TransmitterLaw t := by
  refine ⟨hoff, ?_, ?_⟩
  · rw [hframe, hholds]; rfl
  · rw [hframe, hrecord]

/-- The law with an own PRESENCE and no frame record. -/
theorem TransmitterLaw.of_presence {t : State} {minute : Nat} {extended : Bool} {claim : Option Claim}
    (hoff : t.peers.station = .configuring → t.bus.tx.state = .off) (hholds : t.bus.tx.state.holdsFrame = true)
    (hframe : t.bus.tx.frame = some (.presence t.straps.station extended minute claim))
    (hrecord : t.notice.frame = none) : TransmitterLaw t := by
  refine ⟨hoff, ?_, ?_⟩
  · rw [hframe, hholds]; rfl
  · rw [hframe, hrecord]

/-- Without a frame there is no frame record. -/
theorem TransmitterLaw.record_none {s : State} (hs : TransmitterLaw s) (h : s.bus.tx.frame = none) :
    s.notice.frame = none := by
  obtain ⟨_, _, hagree⟩ := hs
  rw [h] at hagree
  exact hagree

/-- With a PRESENCE there is no frame record. -/
theorem TransmitterLaw.record_none_of_presence {s : State} (hs : TransmitterLaw s) {sender minute : Nat}
    {extended : Bool} {claim : Option Claim} (h : s.bus.tx.frame = some (.presence sender extended minute claim)) :
    s.notice.frame = none := by
  obtain ⟨_, _, hagree⟩ := hs
  rw [h] at hagree
  cases hf : s.notice.frame with
  | none => rfl
  | some f => rw [hf] at hagree; exact hagree.elim

theorem TransmitterLaw.frame_none {s : State} (hs : TransmitterLaw s) (h : s.bus.tx.state.holdsFrame = false) :
    s.bus.tx.frame = none := by
  have hholds := hs.2.1
  rw [h] at hholds
  simpa using hholds

/-- A transmitter that is not OFF is that of a station whose load has ended. -/
theorem TransmitterLaw.loaded {s : State} (hs : TransmitterLaw s) (h : s.bus.tx.state ≠ .off) :
    s.peers.station ≠ .configuring := fun hc => h (hs.1 hc)

/-! ### Moves and paths that leave the transmitter alone -/

theorem OnlyExpired.transmits {s t : State} (h : OnlyExpired s t) : t.transmits = s.transmits := by
  obtain ⟨hblocks, _⟩ := h
  have hnotice : t.notice = s.notice := hblocks .notice (by simp)
  have hbus : t.bus = s.bus := hblocks .bus (by simp)
  have hstraps : t.straps = s.straps := hblocks .straps (by simp)
  have hpeers : t.peers = s.peers := hblocks .peers (by simp)
  unfold State.transmits
  rw [hnotice, hbus, hstraps, hpeers]

theorem Move.transmits {k : Tag} {s t : State} (hm : Move k s t) (htx : k ≠ .tx) (hload : k ≠ .load)
    (hreset : k ≠ .reset) : t.transmits = s.transmits := by
  cases hm with
  | peers h => exact State.transmits_eq.2 ⟨rfl, rfl, rfl, rfl, h⟩
  | bus hstate hframe => exact State.transmits_eq.2 ⟨hstate, hframe, rfl, rfl, .rfl⟩
  | sweep _ _ hf => exact State.transmits_eq.2 ⟨rfl, rfl, hf, rfl, .rfl⟩
  | queueNormal => exact State.transmits_eq.2 ⟨rfl, rfl, Notice.queueNormal_frame _ _, rfl, .rfl⟩
  | queueUrgent => exact State.transmits_eq.2 ⟨rfl, rfl, Notice.queueUrgent_frame _ _, rfl, .rfl⟩
  | run => exact s.expiryRun_expired.transmits
  | takeRun => exact s.takeRun_expired.transmits
  | settle => exact s.settlePrecedence_expired.transmits
  | tx | frameTaken | frameDone | frameReturned => exact absurd rfl htx
  | load => exact absurd rfl hload
  | reset => exact absurd rfl hreset
  | _ => rfl

theorem Path.transmits {A : Tag → Bool} (htx : A .tx = false) (hload : A .load = false) (hreset : A .reset = false)
    {s t : State} (h : Path A s t) : t.transmits = s.transmits := by
  have ne {k j : Tag} (hk : A k = true) (hj : A j = false) : k ≠ j := by
    rintro rfl
    rw [hk] at hj
    cases hj
  exact h.keeps (L := fun t => t.transmits = s.transmits)
    (fun hk hm ih => (hm.transmits (ne hk htx) (ne hk hload) (ne hk hreset)).trans ih) rfl

/-! ### The commands of the transmitter -/

/-- The frame that the transmitter held is given up: the record ends with it (R52, R89). -/
theorem TransmitterLaw.giveUp {s t : State} (hs : TransmitterLaw s) (hrecord : t.notice.frame = s.notice.frame)
    (hstation : t.peers.station ≠ .configuring) (hholds : t.bus.tx.state.holdsFrame = false)
    (hframe : t.bus.tx.frame = none) : TransmitterLaw (t.giveUp s.bus.tx.frame) := by
  have stays (h : s.notice.frame = none) : TransmitterLaw t :=
    .of_none (fun hc => absurd hc hstation) hholds hframe (hrecord.trans h)
  unfold State.giveUp
  split
  · cases hf : t.notice.frame with
    | none =>
      have hsame : t.returnFrame = t := by simp [State.returnFrame, hf]
      rw [hsame]
      exact stays (hrecord.symm.trans hf)
    | some f =>
      rw [State.returnFrame_eq hf]
      exact .of_none (fun hc => absurd hc hstation) hholds hframe (State.returnedNotice_frame _ _)
  · rename_i h
    exact stays (hs.record_none_of_presence h)
  · rename_i h
    exact stays (hs.record_none h)

theorem TransmitterLaw.jamEnd {s t : State} (hs : TransmitterLaw s) (h : execJamEnd s = .next t) :
    TransmitterLaw t := by
  unfold execJamEnd at h
  cases h
  split
  · rename_i f hstate hframe
    have hloaded := hs.loaded (by rw [hstate]; nofun)
    split
    · exact hs.of_frame (fun hc => absurd hc hloaded) (by rw [hstate]; rfl) rfl rfl rfl
    · unfold State.abandonFrame
      rw [← hframe]
      exact hs.giveUp rfl hloaded rfl rfl
  · exact hs

theorem TransmitterLaw.backoffEnd {s t : State} (hs : TransmitterLaw s) (h : execBackoffEnd s = .next t) :
    TransmitterLaw t := by
  unfold execBackoffEnd at h
  cases h
  split
  · rename_i hstate
    exact hs.of_frame (fun hc => absurd hc (hs.loaded (by rw [hstate]; nofun))) (by rw [hstate]; rfl) rfl rfl rfl
  all_goals exact hs

theorem TransmitterLaw.holdoffEnd {s t : State} (hs : TransmitterLaw s) (h : execHoldoffEnd s = .next t) :
    TransmitterLaw t := by
  unfold execHoldoffEnd at h
  cases h
  split
  · rename_i hstate
    split
    · exact hs.of_frame (fun hc => absurd hc (hs.loaded (by rw [hstate]; nofun))) (by rw [hstate]; rfl) rfl rfl rfl
    · exact hs
  all_goals exact hs

theorem TransmitterLaw.interframeGapComplete {s t : State} (hs : TransmitterLaw s)
    (h : execInterframeGapComplete s = .next t) : TransmitterLaw t := by
  unfold execInterframeGapComplete at h
  cases h
  split
  · rename_i hstate _
    exact hs.of_frame (fun hc => absurd hc (hs.loaded (by rw [hstate]; nofun))) (by rw [hstate]; rfl) rfl rfl rfl
  · exact hs

theorem TransmitterLaw.collision {s t : State} (hs : TransmitterLaw s) (h : execCollision s = .next t) :
    TransmitterLaw t := by
  unfold execCollision at h
  cases h
  split
  · rename_i hstate
    exact hs.of_frame (fun hc => absurd hc (hs.loaded (by rw [hstate]; nofun))) (by rw [hstate]; rfl) rfl rfl rfl
  all_goals exact hs

theorem TransmitterLaw.transmitterTakeFrame {s t : State} (hs : TransmitterLaw s)
    (h : execTransmitterTakeFrame s = .next t) : TransmitterLaw t := by
  unfold execTransmitterTakeFrame at h
  cases h
  split
  · rename_i hstate
    have hloaded := hs.loaded (by rw [hstate]; nofun)
    have hrecord := hs.record_none (hs.frame_none (by rw [hstate]; rfl))
    split
    · exact .of_presence (fun hc => absurd hc hloaded) rfl rfl hrecord
    · split
      · exact ⟨fun hc => absurd hc hloaded, rfl, rfl⟩
      · exact hs
  all_goals exact hs

theorem TransmitterLaw.transmitCompletion {s t : State} (hs : TransmitterLaw s)
    (h : execTransmitCompletion s = .next t) : TransmitterLaw t := by
  unfold execTransmitCompletion at h
  cases h
  split
  · rename_i hstate hframe
    have hloaded := hs.loaded (by rw [hstate]; nofun)
    cases hf : s.notice.frame with
    | none =>
      obtain ⟨_, _, hagree⟩ := hs
      rw [hframe, hf] at hagree
      exact hagree.elim
    | some f =>
      have hidle : (s.setTx { s.bus.tx with state := .idle, frame := none }).notice.frame = some f := hf
      rw [State.sync_eq hidle]
      have hpath := Path.carriedResolved (A := fun k => k = .quiet || k = .charge || k = .chunk) rfl rfl rfl hidle
      obtain ⟨hst, hfr, _, _, hconf⟩ := State.transmits_eq.1 (hpath.transmits rfl rfl rfl)
      refine .of_none (fun hc => absurd (hconf.1 hc) hloaded) ?_ hfr rfl
      rw [show TxState.holdsFrame _ = _ from congrArg _ hst]
      rfl
  · rename_i hstate hframe
    exact .of_none (fun hc => absurd hc (hs.loaded (by rw [hstate]; nofun))) rfl rfl (hs.record_none_of_presence hframe)
  · exact hs

theorem TransmitterLaw.enterClash {s : State} (hs : TransmitterLaw s) : TransmitterLaw s.enterClash :=
  hs.giveUp rfl nofun rfl rfl

theorem TransmitterLaw.receive {s : State} (hs : TransmitterLaw s) (f : Frame) : TransmitterLaw (s.receive f) := by
  unfold State.receive
  split
  · split
    · exact hs.enterClash
    · exact hs
  · split
    · have hpath := Path.noteArrival (A := fun k => k = .quiet) rfl
        { s with bus := { s.bus with fifo := s.bus.fifo ++ [{ frame := f }] } } f.sender
      exact hs.of_transmits (hpath.transmits rfl rfl rfl)
    · exact hs

theorem TransmitterLaw.burstEnded {s : State} (hs : TransmitterLaw s) (bytes : List Byte) :
    TransmitterLaw (s.burstEnded bytes) := by
  have hquiet : TransmitterLaw s.lineQuiet := hs
  unfold State.burstEnded
  dsimp only
  split
  · exact hquiet
  · split
    · exact hquiet
    · exact hquiet.receive _

theorem TransmitterLaw.burstReceived {s t : State} (hs : TransmitterLaw s) {bytes : List Byte}
    (h : execBurstReceived bytes s = .next t) : TransmitterLaw t := by
  unfold execBurstReceived at h
  cases h
  split
  · exact hs
  · split
    · exact hs.burstEnded bytes
    · exact TransmitterLaw.burstEnded (s := s.lineBusy) hs bytes

theorem TransmitterLaw.endLoad {s : State} (hs : TransmitterLaw s) (hc : s.peers.station = .configuring) (l : Loader) :
    TransmitterLaw (s.endLoad l) := by
  obtain ⟨station, p, records, hne, hp, heq⟩ := s.endLoad_eq l
  have hframe := hs.frame_none (by rw [hs.1 hc]; rfl)
  rw [heq]
  exact .of_none (fun h => absurd (hp.symm.trans h) hne) rfl hframe (hs.record_none hframe)

theorem TransmitterLaw.exec {s t : State} {i : Instr} (hs : TransmitterLaw s) (h : exec i s = .next t) :
    TransmitterLaw t := by
  have still (htx : tagsOf i .tx = false) (hload : tagsOf i .load = false) (hreset : tagsOf i .reset = false) :
      TransmitterLaw t := by
    obtain ⟨u, hu, hpath⟩ := exec_reached i s
    cases hu.symm.trans h
    exact hs.of_transmits (hpath.transmits htx hload hreset)
  cases i with
  | hardwareReset =>
    cases h
    exact .of_none (fun _ => rfl) rfl rfl rfl
  | configLoadEnd read =>
    cases (show execConfigLoadEnd read s = .next t from h)
    split
    · rename_i hc; exact hs.endLoad hc _
    · exact hs
  | configLoadBusHeld =>
    cases (show execConfigLoadBusHeld s = .next t from h)
    split
    · rename_i hc; exact hs.endLoad hc _
    · exact hs
  | jamEnd => exact hs.jamEnd h
  | backoffEnd => exact hs.backoffEnd h
  | holdoffEnd => exact hs.holdoffEnd h
  | interframeGapComplete => exact hs.interframeGapComplete h
  | collision => exact hs.collision h
  | transmitterTakeFrame => exact hs.transmitterTakeFrame h
  | transmitCompletion => exact hs.transmitCompletion h
  | burstReceived bytes => exact hs.burstReceived h
  | _ => exact still rfl rfl rfl

theorem step_keeps_transmitterLaw {s t : State} (hstep : step s = .next t) (hs : TransmitterLaw s) :
    TransmitterLaw t := by
  unfold step at hstep
  split at hstep
  · cases hstep; exact hs
  · rename_i i rest _
    exact TransmitterLaw.exec (s := { s with pending := rest }) hs hstep

/-- Settles O57: the notice queue's and the held list's laws move by move, the transmitter's command by command. -/
theorem stepKeepsNoticeTransmitterAndHeldLaws : Obligations.StepKeepsNoticeTransmitterAndHeldLaws := by
  intro s t _ hstep
  exact ⟨step_keeps (fun _ _ h => h) Move.noticeQueueLaw hstep, step_keeps_transmitterLaw hstep,
    step_keeps (fun _ _ h => h) Move.heldLaw hstep⟩

end Sys2Proof.Machine
end

section
/-! PROOFS. The expiry run exactly (R157), and O10. -/

namespace Sys2Proof.Machine

/-! ### What one expiry makes of its owner (R9, R135) -/

/-- A principal after the expiry of its grace. -/
def Principal.graceEnded (p : Principal) : Principal :=
  { p with grace := ({ p with grace := .expired } : Principal).graceAfter 0 }

/-- A volume after the dawn of its night. -/
def Volume.dawned (x : Volume) : Volume :=
  { x with night := x.night.map fun n => { n with state := .suspended } }

/-- Grace maintenance of an expired grace starts none, so that the minute does not matter (R8). -/
theorem Principal.graceAfter_expired (p : Principal) (minute : Nat) :
    ({ p with grace := .expired } : Principal).graceAfter minute =
      ({ p with grace := .expired } : Principal).graceAfter 0 := by
  unfold Principal.graceAfter
  cases p.cls <;> rfl

theorem Principal.expiredAt_due {p : Principal} {due minute : Nat} (h : p.graceDue = some due) (hm : due ≤ minute) :
    p.expiredAt minute = p.graceEnded := by
  unfold Principal.graceDue at h
  unfold Principal.expiredAt
  split at h
  · rename_i deadline hg
    cases h
    simp only [if_pos hm, Principal.graceAfter_expired p minute, Principal.graceEnded]
  · cases h
  · cases h

theorem Principal.expiredAt_not_due {p : Principal} {minute : Nat} (h : ∀ due, p.graceDue = some due → minute < due) :
    p.expiredAt minute = p := by
  unfold Principal.expiredAt
  split
  · rename_i due hg
    have hdue : p.graceDue = some due := by simp [Principal.graceDue, hg]
    exact if_neg (Nat.not_le.2 (h due hdue))
  · rfl
  · rfl

theorem Volume.dawnDue_eq_some {x : Volume} {due : Nat} :
    x.dawnDue = some due ↔ ∃ n, x.night = some n ∧ (n.state = .sending ∨ n.state = .paused) ∧ n.dawn = due := by
  unfold Volume.dawnDue
  cases x.night with
  | none => simp
  | some n => cases hs : n.state <;> simp [hs]

theorem Volume.dawnedAt_due {x : Volume} {due minute : Nat} (h : x.dawnDue = some due) (hm : due ≤ minute) :
    x.dawnedAt minute = x.dawned := by
  obtain ⟨n, hn, hstate, rfl⟩ := Volume.dawnDue_eq_some.1 h
  unfold Volume.dawnedAt Volume.dawned
  rcases hstate with hs | hs <;> simp [hn, hs, hm]

theorem Volume.dawnedAt_not_due {x : Volume} {minute : Nat} (h : ∀ due, x.dawnDue = some due → minute < due) :
    x.dawnedAt minute = x := by
  obtain ⟨declared, offsite, snapshots, base, night⟩ := x
  cases night with
  | none => rfl
  | some n =>
    have hstays (hs : n.state = .sending ∨ n.state = .paused) : ¬ n.dawn ≤ minute :=
      Nat.not_le.2 (h n.dawn (Volume.dawnDue_eq_some.2 ⟨n, rfl, hs, rfl⟩))
    simp only [Volume.dawnedAt, Option.map_some]
    congr 2
    split
    · rename_i hs; exact if_neg (hstays (.inl hs))
    · rename_i hs; exact if_neg (hstays (.inr hs))
    all_goals rfl

/-- What the expiry of an entry raises (R10, R135). -/
def State.expiryRecord (s : State) (d : Deadline) : List EventRecord :=
  match d.object with
  | .grace id => ((s.principal id).map fun p => quotaRecords p p.graceEnded .grace).getD []
  | .dawn v => ((s.volume v).night.map fun n =>
      [.nightState v n.generation (some n.state) (some .suspended) n.remaining .dawn]).getD []

theorem State.expiryRecords_due {s : State} {d : Deadline} {minute : Nat} (h : s.dueOf d.object = some d.due)
    (hm : d.due ≤ minute) : s.expiryRecords minute d = s.expiryRecord d := by
  unfold State.expiryRecords State.expiryRecord
  cases ho : d.object with
  | grace id =>
    rw [ho] at h
    dsimp only
    cases hp : s.principal id with
    | none => rfl
    | some p =>
      have hdue : p.graceDue = some d.due := by simpa [State.dueOf, hp] using h
      dsimp only
      rw [Principal.expiredAt_due hdue hm, ← State.principal_id hp]
      rfl
  | dawn v =>
    dsimp only
    cases (s.volume v).night <;> rfl

/-! ### Entries expired, and nothing else -/

/-- The owners of the entries have acted, with their records, and nothing else of the quota unit, the catalogue and
the port has changed. -/
structure ObjectsExpired (s t : State) (l : List Deadline) : Prop where
  principal : ∀ id, t.principal id =
    (s.principal id).map fun p => if DeadlineObject.grace id ∈ l.map (·.object) then p.graceEnded else p
  volume : ∀ v, t.volume v = if DeadlineObject.dawn v ∈ l.map (·.object) then (s.volume v).dawned else s.volume v
  contributions : t.quota.contributions = s.quota.contributions
  held : t.quota.held = s.quota.held
  port : t.port = s.port.raises (l.flatMap s.expiryRecord)

theorem ObjectsExpired.refl (s : State) : ObjectsExpired s s [] :=
  ⟨fun id => by simp, fun v => by simp, rfl, rfl, rfl⟩

/-- An owner that has no entry among the expired ones is as it was. -/
theorem ObjectsExpired.principal_of_not_mem {s t : State} {l : List Deadline} (h : ObjectsExpired s t l) {id : Nat}
    (hid : DeadlineObject.grace id ∉ l.map (·.object)) : t.principal id = s.principal id := by
  rw [h.principal id]
  simp only [if_neg hid, Option.map_id']

theorem ObjectsExpired.volume_of_not_mem {s t : State} {l : List Deadline} (h : ObjectsExpired s t l) {v : Nat}
    (hv : DeadlineObject.dawn v ∉ l.map (·.object)) : t.volume v = s.volume v := by
  rw [h.volume v, if_neg hv]

theorem ObjectsExpired.dueOf_of_not_mem {s t : State} {l : List Deadline} (h : ObjectsExpired s t l)
    {o : DeadlineObject} (ho : o ∉ l.map (·.object)) : t.dueOf o = s.dueOf o := by
  cases o with
  | grace id => exact congrArg (Option.bind · _) (h.principal_of_not_mem ho)
  | dawn v => exact congrArg Volume.dawnDue (h.volume_of_not_mem ho)

theorem ObjectsExpired.expiryRecord_of_not_mem {s t : State} {l : List Deadline} (h : ObjectsExpired s t l)
    {d : Deadline} (hd : d.object ∉ l.map (·.object)) : t.expiryRecord d = s.expiryRecord d := by
  unfold State.expiryRecord
  cases ho : d.object with
  | grace id => rw [ho] at hd; simp only [h.principal_of_not_mem hd]
  | dawn v => rw [ho] at hd; simp only [h.volume_of_not_mem hd]

theorem ObjectsExpired.trans {s t u : State} {l m : List Deadline} (h : ObjectsExpired s t l)
    (k : ObjectsExpired t u m) (hne : ∀ d ∈ m, d.object ∉ l.map (·.object)) : ObjectsExpired s u (l ++ m) := by
  have apart (o : DeadlineObject) (ho : o ∈ m.map (·.object)) : o ∉ l.map (·.object) := by
    obtain ⟨d, hd, rfl⟩ := List.mem_map.1 ho
    exact hne d hd
  refine ⟨fun id => ?_, fun v => ?_, k.contributions.trans h.contributions, k.held.trans h.held, ?_⟩
  · rw [k.principal id, List.map_append]
    by_cases hm : DeadlineObject.grace id ∈ m.map (·.object)
    · rw [h.principal_of_not_mem (apart _ hm)]
      simp only [hm, List.mem_append, or_true]
    · rw [h.principal id]
      simp only [hm, List.mem_append, or_false, if_false, Option.map_id']
  · rw [k.volume v, List.map_append]
    by_cases hm : DeadlineObject.dawn v ∈ m.map (·.object)
    · rw [h.volume_of_not_mem (apart _ hm)]
      simp only [hm, List.mem_append, or_true]
    · rw [h.volume v]
      simp only [hm, List.mem_append, or_false, if_false]
  · have hsame : m.flatMap t.expiryRecord = m.flatMap s.expiryRecord :=
      flatMap_congr_of_mem fun d hd => h.expiryRecord_of_not_mem (hne d hd)
    rw [k.port, h.port, hsame, List.flatMap_append, Port.raises_append]

/-- Only the deadline list, the clock, the pins of the state change between two states. -/
theorem ObjectsExpired.of_owners {s t u : State} {l : List Deadline} (h : ObjectsExpired s t l)
    (hquota : u.quota = t.quota) (hvolumes : u.volumes = t.volumes) (hport : u.port = t.port) :
    ObjectsExpired s u l := by
  have hp (id : Nat) : u.principal id = t.principal id := congrArg (Quota.find · id) hquota
  have hv (v : Nat) : u.volume v = t.volume v := by simp only [State.volume, hvolumes]
  exact ⟨fun id => (hp id).trans (h.principal id), fun v => (hv v).trans (h.volume v),
    (congrArg Quota.contributions hquota).trans h.contributions, (congrArg Quota.held hquota).trans h.held,
    hport.trans h.port⟩

theorem ObjectsExpired.expire {s : State} {d : Deadline} {due : Nat} (h : s.dueOf d.object = some due) :
    ObjectsExpired s (s.expire d) [d] := by
  unfold State.expire
  cases ho : d.object with
  | grace id =>
    rw [ho] at h
    obtain ⟨p, hp, hdue⟩ := Option.bind_eq_some_iff.1 h
    obtain rfl := State.principal_id hp
    dsimp only
    rw [State.rederive_eq_record (p := p) .grace _ hp rfl]
    have hended : ({ p with grace := .expired } : Principal).maintained s.clock.minute = p.graceEnded := by
      simp only [Principal.maintained, Principal.graceAfter_expired p s.clock.minute, Principal.graceEnded]
    refine ⟨fun id => ?_, fun v => ?_, rfl, rfl, ?_⟩
    · have hfind := Quota.find_update s.quota p.id id (f := fun q => { p.graceEnded with id := q.id }) fun _ => rfl
      by_cases hid : id = p.id
      · subst hid
        have hsame := Quota.find_update_same s.quota p.id
          (({ p with grace := .expired } : Principal).maintained s.clock.minute) rfl hp
        simp only [List.map_cons, ho, List.map_nil, List.mem_singleton, if_true, hp, Option.map_some]
        exact hsame.trans (congrArg some hended)
      · have hne := Quota.find_update_ne s.quota p.id id
          (fun _ => ({ p with grace := .expired } : Principal).maintained s.clock.minute) (fun _ _ => rfl) hid
        simp only [List.map_cons, ho, List.map_nil, List.mem_singleton, DeadlineObject.grace.injEq, if_neg hid,
          Option.map_id']
        exact hne
    · simp [ho, State.volume, State.record]
    · simp only [List.flatMap_cons, List.flatMap_nil, List.append_nil, State.expiryRecord, ho, hp, Option.map_some,
        Option.getD_some, hended]
  | dawn v =>
    rw [ho] at h
    obtain ⟨n, hn, hstate, _⟩ := Volume.dawnDue_eq_some.1 h
    have hv : v < 16 := by
      refine Classical.byContradiction fun hv => ?_
      simp [State.volume, hv] at hn
    have hmoved : s.suspendNight v = s.moveNight v n .suspended .dawn := by
      unfold State.suspendNight
      rw [hn]
      rcases hstate with hs | hs <;> simp [hs]
    dsimp only
    rw [hmoved]
    refine ⟨fun id => ?_, fun w => ?_, rfl, rfl, ?_⟩
    · simp only [List.map_cons, ho, List.map_nil, List.mem_singleton, reduceCtorEq, if_false, Option.map_id']
      rfl
    · change (s.setVolume v { s.volume v with night := some { n with state := .suspended } }).volume w = _
      by_cases hw : w = v
      · subst hw
        rw [State.volume_setVolume_same _ _ hv]
        simp [ho, Volume.dawned, hn]
      · rw [State.volume_setVolume_ne _ _ hw]
        simp [ho, hw]
    · simp only [List.flatMap_cons, List.flatMap_nil, List.append_nil, State.expiryRecord, ho, hn, Option.map_some,
        Option.getD_some]
      rfl

theorem ObjectsExpired.fold {l : List Deadline} {s : State} (hnodup : (l.map (·.object)).Nodup)
    (hdue : ∀ d ∈ l, s.dueOf d.object = some d.due) : ObjectsExpired s (l.foldl State.expire s) l := by
  induction l generalizing s with
  | nil => exact .refl s
  | cons d l ih =>
    obtain ⟨hd, hl⟩ := List.nodup_cons.1 hnodup
    have hfirst := ObjectsExpired.expire (hdue d (.head _))
    have hapart (x : Deadline) (hx : x ∈ l) : x.object ∉ [d].map (·.object) := by
      rw [List.map_singleton, List.mem_singleton]
      exact fun heq => hd (List.mem_map.2 ⟨x, hx, heq⟩)
    have hrest : ∀ x ∈ l, (s.expire d).dueOf x.object = some x.due := fun x hx => by
      rw [hfirst.dueOf_of_not_mem (hapart x hx)]
      exact hdue x (.tail _ hx)
    exact hfirst.trans (ih hl hrest) hapart

theorem State.expire_deadlines (s : State) (d : Deadline) : (s.expire d).deadlines = s.deadlines := by
  unfold State.expire
  split
  · rename_i id _
    cases hp : s.principal id with
    | none => rw [State.rederive_none s _ _ hp]
    | some p => rw [State.rederive_eq s _ _ hp]; rfl
  · rename_i v _
    unfold State.suspendNight
    split
    · rfl
    · split <;> rfl

theorem State.expire_all_deadlines (l : List Deadline) (s : State) :
    (l.foldl State.expire s).deadlines = s.deadlines := by
  induction l generalizing s with
  | nil => rfl
  | cons d l ih => exact (ih _).trans (s.expire_deadlines d)

/-! ### The run (R157) -/

/-- In a list in order of due minute the head that is due is all that is due. -/
theorem takeWhile_due {l : List Deadline} (h : l.Pairwise fun a b => a.due ≤ b.due) (minute : Nat) :
    (l.takeWhile fun d => d.due ≤ minute) = l.filter (fun d => d.due ≤ minute) ∧
    (l.dropWhile fun d => d.due ≤ minute) = l.filter (fun d => minute < d.due) := by
  induction l with
  | nil => exact ⟨rfl, rfl⟩
  | cons d l ih =>
    obtain ⟨hd, hl⟩ := List.pairwise_cons.1 h
    by_cases hm : d.due ≤ minute
    · have hnot : ¬ minute < d.due := Nat.not_lt.2 hm
      simp [hm, hnot, ih hl]
    · have hlater : ∀ x ∈ l, minute < x.due := fun x hx => Nat.lt_of_lt_of_le (Nat.not_le.1 hm) (hd x hx)
      constructor
      · simp only [List.takeWhile_cons, List.filter_cons, hm, decide_false, Bool.false_eq_true, if_false]
        exact (List.filter_eq_nil_iff.2 fun x hx => by simpa using hlater x hx).symm
      · simp only [List.dropWhile_cons, List.filter_cons, hm, decide_false, Bool.false_eq_true, if_false,
          Nat.not_le.1 hm, decide_true, if_true]
        rw [List.filter_eq_self.2 fun x hx => decide_eq_true (hlater x hx)]

/-- What a run needs of the deadline list: its order, and that every entry is one that its owner asks for. -/
structure RunLaw (s : State) : Prop where
  order : s.deadlines.Pairwise fun a b => a.due ≤ b.due
  nodup : (s.deadlines.map (·.object)).Nodup
  due : ∀ d ∈ s.deadlines, s.dueOf d.object = some d.due

theorem RunLaw.of_law {s : State} (h : DeadlineLaw s) : RunLaw s := ⟨h.1, h.2.1, h.2.2.2.1⟩

/-- The entries due by a minute. -/
def State.dueBy (s : State) (minute : Nat) : List Deadline := s.deadlines.filter fun d => d.due ≤ minute

/-- A run expires the entries that are due and takes them off the list (R157). -/
theorem RunLaw.expiryRun {s : State} (h : RunLaw s) :
    ObjectsExpired s s.expiryRun (s.dueBy s.clock.minute) ∧
    s.expiryRun.deadlines = s.deadlines.filter fun d => s.clock.minute < d.due := by
  obtain ⟨htake, hdrop⟩ := takeWhile_due h.order s.clock.minute
  have hsub : (s.dueBy s.clock.minute).Sublist s.deadlines := List.filter_sublist
  unfold State.expiryRun
  dsimp only
  rw [htake, hdrop]
  refine ⟨?_, State.expire_all_deadlines _ _⟩
  have hfold := ObjectsExpired.fold
    (s := { s with deadlines := s.deadlines.filter fun d => s.clock.minute < d.due })
    ((hsub.map _).nodup h.nodup) fun d hd => h.due d (hsub.subset hd)
  exact ⟨hfold.principal, hfold.volume, hfold.contributions, hfold.held, hfold.port⟩

/-- The law of the list that a run needs stands after it. -/
theorem RunLaw.after {s : State} (h : RunLaw s) : RunLaw s.expiryRun := by
  obtain ⟨hexpired, hdeadlines⟩ := h.expiryRun
  refine ⟨?_, ?_, fun d hd => ?_⟩
  · rw [hdeadlines]; exact h.order.filter _
  · rw [hdeadlines]; exact (List.filter_sublist.map _).nodup h.nodup
  · rw [hdeadlines] at hd
    obtain ⟨hd, hlater⟩ := List.mem_filter.1 hd
    rw [hexpired.dueOf_of_not_mem, h.due d hd]
    intro hmem
    obtain ⟨x, hx, hobject⟩ := List.mem_map.1 hmem
    obtain ⟨hx, hdue⟩ := List.mem_filter.1 hx
    obtain rfl := eq_of_nodup_map h.nodup hx hd hobject
    have hlate := of_decide_eq_true hlater
    have hdue := of_decide_eq_true hdue
    omega

/-- With the law of the list, what is due by a minute has expired exactly where those entries have. -/
theorem ObjectsExpired.expiresDue {s t : State} {minute : Nat} (hlaw : DeadlineLaw s)
    (h : ObjectsExpired s t (s.dueBy minute)) (hdeadlines : t.deadlines = s.deadlines.filter fun d => minute < d.due) :
    ExpiresDue s t minute ∧ t.port = s.port.raises (s.runRecords minute) := by
  obtain ⟨_, hnodup, hids, hdue, hgrace, hdawn⟩ := hlaw
  have hlisted (o : DeadlineObject) (due : Nat) (ho : ⟨o, due⟩ ∈ s.deadlines) :
      o ∈ (s.dueBy minute).map (·.object) ↔ due ≤ minute := by
    constructor
    · intro hmem
      obtain ⟨x, hx, hobject⟩ := List.mem_map.1 hmem
      obtain ⟨hx, hxdue⟩ := List.mem_filter.1 hx
      obtain rfl := eq_of_nodup_map hnodup hx ho hobject
      exact of_decide_eq_true hxdue
    · exact fun hm => List.mem_map.2 ⟨⟨o, due⟩, List.mem_filter.2 ⟨ho, decide_eq_true hm⟩, rfl⟩
  have hentry {o : DeadlineObject} (ho : o ∈ (s.dueBy minute).map (·.object)) :
      ∃ due, s.dueOf o = some due ∧ due ≤ minute := by
    obtain ⟨x, hx, rfl⟩ := List.mem_map.1 ho
    obtain ⟨hx, hxdue⟩ := List.mem_filter.1 hx
    exact ⟨x.due, hdue x hx, of_decide_eq_true hxdue⟩
  refine ⟨⟨hdeadlines, fun id => ?_, fun v hv => ?_, h.contributions, h.held⟩, ?_⟩
  · rw [h.principal id]
    cases hp : s.principal id with
    | none => rfl
    | some p =>
      rw [Option.map_some, Option.map_some]
      congr 1
      by_cases hmem : DeadlineObject.grace id ∈ (s.dueBy minute).map (·.object)
      · obtain ⟨due, howner, hm⟩ := hentry hmem
        have hgraceDue : p.graceDue = some due := by simpa [State.dueOf, hp] using howner
        rw [if_pos hmem, Principal.expiredAt_due hgraceDue hm]
      · rw [if_neg hmem]
        refine (Principal.expiredAt_not_due fun due hgraceDue => ?_).symm
        have hin := hgrace p (State.mem_of_principal hp)
        rw [hgraceDue, Option.all_some, List.contains_iff_mem, State.principal_id hp] at hin
        exact Nat.not_le.1 fun hm => hmem ((hlisted _ _ hin).2 hm)
  · rw [h.volume v]
    by_cases hmem : DeadlineObject.dawn v ∈ (s.dueBy minute).map (·.object)
    · obtain ⟨due, howner, hm⟩ := hentry hmem
      rw [if_pos hmem, Volume.dawnedAt_due howner hm]
    · rw [if_neg hmem]
      refine (Volume.dawnedAt_not_due fun due hdawnDue => ?_).symm
      have hin := hdawn v hv
      rw [hdawnDue, Option.all_some, List.contains_iff_mem] at hin
      exact Nat.not_le.1 fun hm => hmem ((hlisted _ _ hin).2 hm)
  · rw [h.port]
    congr 1
    refine (flatMap_congr_of_mem fun d hd => ?_).symm
    obtain ⟨hd, hm⟩ := List.mem_filter.1 hd
    exact State.expiryRecords_due (hdue d hd) (of_decide_eq_true hm)

end Sys2Proof.Machine
end

section
/-! PROOFS. O10: the expiry run, CLOCK SET and the test after an insertion. -/

namespace Sys2Proof.Machine

theorem ObjectsExpired.settled {s t : State} {l : List Deadline} (h : ObjectsExpired s t l) :
    ObjectsExpired s t.settlePrecedence l := by
  unfold State.settlePrecedence
  split
  · exact h
  · exact h.of_owners rfl rfl rfl

theorem State.settlePrecedence_deadlines (s : State) : s.settlePrecedence.deadlines = s.deadlines := by
  unfold State.settlePrecedence
  split <;> rfl

/-- The part with another minute set (R158). -/
def State.clockSetTo (s : State) (minute : Nat) : State :=
  { s with clock := { s.clock with minute := minute, seconds := 0, millis := 0 } }

/-- The expiry test under the law of the list: what is due has expired, and the precedence count may have returned
to 0 (R157, R120). -/
theorem DeadlineLaw.takeRun {s : State} (h : DeadlineLaw s) :
    ExpiresDue s s.takeRun s.clock.minute ∧ s.takeRun.port = s.port.raises (s.runRecords s.clock.minute) := by
  obtain ⟨hexpired, hdeadlines⟩ := (RunLaw.of_law h).expiryRun
  exact hexpired.settled.expiresDue h ((State.settlePrecedence_deadlines _).trans hdeadlines)

/-- The entries due by the later of two minutes, in a list in order of due minute. -/
theorem dueBy_max {l : List Deadline} (h : l.Pairwise fun a b => a.due ≤ b.due) (a b : Nat) :
    (l.filter fun d => d.due ≤ max a b) =
      (l.filter fun d => d.due ≤ a) ++ ((l.filter fun d => a < d.due).filter fun d => d.due ≤ b) := by
  obtain ⟨htake, hdrop⟩ := takeWhile_due h a
  have hsplit : l = (l.filter fun d => d.due ≤ a) ++ l.filter fun d => a < d.due := by
    rw [← htake, ← hdrop, List.takeWhile_append_dropWhile]
  conv => lhs; rw [hsplit, List.filter_append]
  congr 1
  · refine List.filter_eq_self.2 fun d hd => ?_
    have hda := of_decide_eq_true (List.mem_filter.1 hd).2
    exact decide_eq_true (Nat.le_trans hda (Nat.le_max_left a b))
  · refine List.filter_congr fun d hd => ?_
    have hda := of_decide_eq_true (List.mem_filter.1 hd).2
    have hmax : d.due ≤ max a b ↔ d.due ≤ b := by omega
    simp only [hmax]

/-- The two runs of CLOCK SET, at the old minute and at the new one (R158, log 20). -/
theorem DeadlineLaw.setClock {s : State} (h : DeadlineLaw s) (minute : Nat) :
    ExpiresDue s (s.setClock minute).state (max s.clock.minute minute) ∧
    (s.setClock minute).state.port = s.port.raises (s.runRecords (max s.clock.minute minute)) := by
  have hrun := RunLaw.of_law h
  obtain ⟨hold, holdLeft⟩ := hrun.expiryRun
  let set := s.expiryRun.clockSetTo minute
  have hset : RunLaw set := ⟨hrun.after.order, hrun.after.nodup, hrun.after.due⟩
  obtain ⟨hnew, hnewLeft⟩ := hset.expiryRun
  have hsecond : ObjectsExpired s.expiryRun set.expiryRun (set.dueBy minute) :=
    ⟨hnew.principal, hnew.volume, hnew.contributions, hnew.held, hnew.port⟩
  have hdue : s.dueBy (max s.clock.minute minute) = s.dueBy s.clock.minute ++ set.dueBy minute := by
    rw [State.dueBy, dueBy_max hrun.order, ← holdLeft]
    rfl
  have hleft : set.expiryRun.deadlines = s.deadlines.filter fun d => max s.clock.minute minute < d.due := by
    rw [hnewLeft]
    show s.expiryRun.deadlines.filter _ = _
    rw [holdLeft, List.filter_filter]
    refine List.filter_congr fun d _ => ?_
    show (decide (minute < d.due) && decide (s.clock.minute < d.due)) = _
    rw [Bool.and_comm, ← Bool.decide_and]
    exact decide_eq_decide.2 Nat.max_lt.symm
  have hapart : ∀ d ∈ set.dueBy minute, d.object ∉ (s.dueBy s.clock.minute).map (·.object) := by
    intro d hd hmem
    obtain ⟨x, hx, hobject⟩ := List.mem_map.1 hmem
    obtain ⟨hx, hxdue⟩ := List.mem_filter.1 hx
    have hd : d ∈ s.expiryRun.deadlines := (List.mem_filter.1 hd).1
    rw [holdLeft] at hd
    obtain ⟨hd, hlater⟩ := List.mem_filter.1 hd
    obtain rfl := eq_of_nodup_map hrun.nodup hx hd hobject
    exact absurd (of_decide_eq_true hxdue) (Nat.not_le.2 (of_decide_eq_true hlater))
  have hboth := hold.trans hsecond hapart
  rw [← hdue] at hboth
  exact hboth.settled.expiresDue h ((State.settlePrecedence_deadlines _).trans hleft)

theorem State.setClock_frame (s : State) (minute : Nat) :
    (s.setClock minute).state.clock = { s.clock with minute := minute, seconds := 0, millis := 0 } ∧
    (s.setClock minute).state.arbiter =
      { s.arbiter with precedence := (s.setClock minute).state.arbiter.precedence } ∧
    Unchanged [.clock, .deadlines, .quota, .volumes, .port, .arbiter] s (s.setClock minute).state := by
  obtain ⟨hblocks, _, _, _, _, _, harbiter, _⟩ := s.expiryRun_expired
  let set := s.expiryRun.clockSetTo minute
  obtain ⟨kblocks, _, _, _, _, _, karbiter, _⟩ := set.takeRun_expired
  have hset : Unchanged [.clock] s.expiryRun set := by
    intro b hb
    cases b with
    | clock => simp at hb
    | _ => rfl
  refine ⟨?_, ?_, ((hblocks.trans hset).trans kblocks).mono (by simp)⟩
  · have hclock : s.expiryRun.clock = s.clock := hblocks .clock (by simp)
    have kclock : set.takeRun.clock = set.clock := kblocks .clock (by simp)
    exact kclock.trans (congrArg (fun c : Clock => { c with minute := minute, seconds := 0, millis := 0 }) hclock)
  · show set.takeRun.arbiter = _
    rw [karbiter]
    exact congrArg (fun a : Arbiter => { a with precedence := set.takeRun.arbiter.precedence }) harbiter

/-- Settles O10: a run is a fold of expiries, each of which changes its own owner alone. -/
theorem expiryRunAndClockSet : Obligations.ExpiryRunAndClockSet := by
  refine ⟨fun s hlaw => ⟨s.takeRun, rfl, ?_⟩, fun s a minute hlaw hserves => ?_, fun before s => ⟨fun hsub => ?_, ?_⟩⟩
  · obtain ⟨hblocks, _, _, _, _, _, harbiter, _⟩ := s.takeRun_expired
    exact ⟨hlaw.takeRun.1, hlaw.takeRun.2, harbiter, hblocks⟩
  · obtain ⟨hexpires, hport⟩ := hlaw.setClock minute
    obtain ⟨hclock, harbiter, hblocks⟩ := s.setClock_frame minute
    have hphase : (s.setClock minute).state.port.phase = .executing a (.clockSet minute) := by
      rw [hport, Port.raises_phase]; exact hserves.2
    refine ⟨_, State.serve_takes hserves fun s => s.setClock minute, ?_⟩
    rw [Reply.answered_eq hphase]
    refine ⟨hclock, hexpires, ?_, harbiter, (hblocks.setPort _).mono (by simp)⟩
    unfold Answers
    rw [← hport]
    rfl
  · have hnone : s.hasInserted before = false := by
      simpa [State.hasInserted] using hsub
    simp [State.insertionTest, hnone]
  · rintro ⟨d, hd, hnew⟩ hlaw
    obtain ⟨hblocks, _, _, _, _, _, harbiter, hprecedence⟩ := s.takeRun_expired
    dsimp only
    rw [State.insertionTest_of_mem hd hnew]
    exact ⟨hlaw.takeRun.1, hlaw.takeRun.2, harbiter, hprecedence, hblocks⟩

end Sys2Proof.Machine
end

section
/-! PROOFS. O58: the deadline list, move by move. -/

namespace Sys2Proof.Machine

/-! ### A list of exactly the entries asked for (R154, R155) -/

/-- The list is in order of due minute and holds one entry for each object, at the minute that its owner asks for. -/
def ListsDues (l : List Deadline) (asked : DeadlineObject → Option Nat) : Prop :=
  l.Pairwise (fun a b => a.due ≤ b.due) ∧ (l.map (·.object)).Nodup ∧ ∀ o due, ⟨o, due⟩ ∈ l ↔ asked o = some due

/-- What owners ask for when one of them asks for something else. -/
def withAsked (asked : DeadlineObject → Option Nat) (o : DeadlineObject) (due : Option Nat) :
    DeadlineObject → Option Nat := fun x => if x = o then due else asked x

@[simp] theorem withAsked_same (asked : DeadlineObject → Option Nat) (o : DeadlineObject) (due : Option Nat) :
    withAsked asked o due o = due := if_pos rfl

@[simp] theorem withAsked_ne {asked : DeadlineObject → Option Nat} {o x : DeadlineObject} {due : Option Nat}
    (h : x ≠ o) : withAsked asked o due x = asked x := if_neg h

theorem withAsked_eq_self (o : DeadlineObject) (asked : DeadlineObject → Option Nat) :
    withAsked asked o (asked o) = asked := by
  funext x
  by_cases h : x = o
  · rw [h, withAsked_same]
  · rw [withAsked_ne h]

theorem insertDeadline_perm (d : Deadline) (l : List Deadline) : (insertDeadline d l).Perm (d :: l) := by
  induction l with
  | nil => exact .refl _
  | cons e l ih =>
    unfold insertDeadline
    split
    · exact (ih.cons e).trans (.swap d e l)
    · exact .refl _

theorem ListsDues.insert {l : List Deadline} {asked : DeadlineObject → Option Nat} (h : ListsDues l asked)
    {o : DeadlineObject} (hnone : asked o = none) (due : Nat) :
    ListsDues (insertDeadline ⟨o, due⟩ l) (withAsked asked o (some due)) := by
  obtain ⟨horder, hnodup, hlists⟩ := h
  refine ⟨pairwise_insertDeadline _ horder, ?_, fun x m => ?_⟩
  · rw [((insertDeadline_perm ⟨o, due⟩ l).map _).nodup_iff, List.map_cons, List.nodup_cons]
    refine ⟨fun hmem => ?_, hnodup⟩
    obtain ⟨d, hd, rfl⟩ := List.mem_map.1 hmem
    rw [(hlists d.object d.due).1 hd] at hnone
    cases hnone
  · rw [mem_insertDeadline]
    by_cases hx : x = o
    · subst hx
      have habsent : ⟨x, m⟩ ∉ l := fun hm => by rw [(hlists x m).1 hm] at hnone; cases hnone
      simp [withAsked_same, habsent, eq_comm]
    · simp [hx, hlists]

theorem ListsDues.remove {l : List Deadline} {asked : DeadlineObject → Option Nat} (h : ListsDues l asked)
    (o : DeadlineObject) : ListsDues (removeDeadline o l) (withAsked asked o none) := by
  obtain ⟨horder, hnodup, hlists⟩ := h
  refine ⟨horder.filter _, (List.filter_sublist.map _).nodup hnodup, fun x m => ?_⟩
  rw [mem_removeDeadline]
  by_cases hx : x = o
  · subst hx
    simp
  · simp [hx, hlists]

/-- Entries of owners that ask for none may stay as they are. -/
theorem ListsDues.same {l : List Deadline} {asked : DeadlineObject → Option Nat} (h : ListsDues l asked)
    {o : DeadlineObject} {due : Option Nat} (ho : asked o = due) : ListsDues l (withAsked asked o due) := by
  rw [← ho, withAsked_eq_self]
  exact h

/-- The minute that a grace asks for (R8). -/
def Grace.due : Grace → Option Nat
  | .running deadline => some deadline
  | .absent | .expired => none

theorem Principal.graceDue_eq (p : Principal) : p.graceDue = p.grace.due := by
  unfold Principal.graceDue Grace.due
  cases p.grace <;> rfl

/-- What grace maintenance can make of a grace (R8). -/
def Grace.maintainsTo (g g' : Grace) : Prop :=
  match g with
  | .absent => True
  | .running _ => g' = g ∨ g' = .absent
  | .expired => g' = .expired ∨ g' = .absent

theorem Principal.graceAfter_maintainsTo (p : Principal) (minute : Nat) :
    p.grace.maintainsTo (p.graceAfter minute) := by
  unfold Principal.graceAfter
  cases p.cls with
  | exempt => cases hg : p.grace <;> simp [Grace.maintainsTo]
  | limited =>
    dsimp only
    split
    · cases hg : p.grace <;> simp [Grace.maintainsTo]
    · cases hg : p.grace <;> simp [Grace.maintainsTo]

theorem ListsDues.grace {l : List Deadline} {asked : DeadlineObject → Option Nat} (h : ListsDues l asked)
    {id : Nat} {g g' : Grace} (hasked : asked (.grace id) = g.due) (hg : g.maintainsTo g') :
    ListsDues (graceDeadlines id g g' l) (withAsked asked (.grace id) g'.due) := by
  cases g with
  | absent =>
    cases g' with
    | running d => exact h.insert hasked d
    | absent | expired => exact h.same hasked
  | running d =>
    rcases hg with rfl | rfl
    · exact h.same hasked
    · exact h.remove _
  | expired =>
    rcases hg with rfl | rfl
    · exact h.same hasked
    · exact h.same hasked

theorem deadlineLaw_iff {s : State} :
    DeadlineLaw s ↔ (s.quota.principals.map (·.id)).Nodup ∧ ListsDues s.deadlines s.dueOf := by
  constructor
  · rintro ⟨horder, hnodup, hids, hdue, hgrace, hdawn⟩
    refine ⟨hids, horder, hnodup, fun o due => ⟨hdue ⟨o, due⟩, fun howner => ?_⟩⟩
    cases o with
    | grace id =>
      obtain ⟨p, hp, hg⟩ := Option.bind_eq_some_iff.1 howner
      have hin := hgrace p (State.mem_of_principal hp)
      rwa [hg, Option.all_some, List.contains_iff_mem, State.principal_id hp] at hin
    | dawn v =>
      have hv : v < 16 := by
        refine Classical.byContradiction fun hv => ?_
        simp [State.dueOf, State.volume, hv, Volume.dawnDue] at howner
      have hin := hdawn v hv
      rwa [show (s.volume v).dawnDue = some due from howner, Option.all_some, List.contains_iff_mem] at hin
  · rintro ⟨hids, horder, hnodup, hlists⟩
    refine ⟨horder, hnodup, hids, fun d hd => (hlists d.object d.due).1 hd, fun p hp => ?_, fun v _ => ?_⟩
    · rw [Option.all_eq_true]
      intro m hm
      refine List.contains_iff_mem.2 ((hlists (.grace p.id) m).2 ?_)
      simp only [State.dueOf, State.principal_of_mem hids hp, Option.bind_some, hm]
    · rw [Option.all_eq_true]
      exact fun m hm => List.contains_iff_mem.2 ((hlists (.dawn v) m).2 hm)

/-! ### What a change makes of the minutes asked for -/

theorem State.ids_update {s t : State} {id : Nat} {f : Principal → Principal}
    (h : t.quota.principals = (s.quota.update id f).principals) (hf : ∀ p : Principal, p.id = id → (f p).id = p.id) :
    t.quota.principals.map (·.id) = s.quota.principals.map (·.id) := by
  rw [h, Quota.update_principals, List.map_map]
  exact List.map_congr_left fun p _ => Principal.replacedBy_id (hf p)

theorem State.dueOf_setVolume (s : State) {v : Nat} (hv : v < 16) (x : Volume) :
    (s.setVolume v x).dueOf = withAsked s.dueOf (.dawn v) x.dawnDue := by
  funext o
  cases o with
  | grace id => rw [withAsked_ne (by nofun)]; rfl
  | dawn w =>
    by_cases hw : w = v
    · subst hw
      rw [withAsked_same]
      exact congrArg Volume.dawnDue (State.volume_setVolume_same s x hv)
    · rw [withAsked_ne (by simpa using hw)]
      exact congrArg Volume.dawnDue (State.volume_setVolume_ne s x hw)

theorem State.setVolume_of_le (s : State) {v : Nat} (hv : ¬ v < 16) (x : Volume) : s.setVolume v x = s := by
  have hsame : s.volumes.setIfInBounds v x = s.volumes := by
    ext i hi
    rw [Vector.getElem_setIfInBounds, if_neg (by omega)]
  simp only [State.setVolume, hsame]

/-- A volume is written whose night asks for the same minute. -/
theorem DeadlineLaw.of_setVolume {s t : State} (h : DeadlineLaw s) {v : Nat} {x : Volume}
    (hvolumes : t.volumes = (s.setVolume v x).volumes) (hquota : t.quota.principals = s.quota.principals)
    (hdeadlines : t.deadlines = s.deadlines) (hx : x.dawnDue = (s.volume v).dawnDue) : DeadlineLaw t := by
  obtain ⟨hids, hlists⟩ := deadlineLaw_iff.1 h
  have hdue : t.dueOf = (s.setVolume v x).dueOf := by
    funext o
    cases o with
    | grace id => exact congrArg (fun l : List Principal => (l.find? fun p => p.id == id).bind (·.graceDue)) hquota
    | dawn w => exact congrArg Volume.dawnDue (by simp only [State.volume, hvolumes])
  have hsame : (s.setVolume v x).dueOf = s.dueOf := by
    by_cases hv : v < 16
    · rw [State.dueOf_setVolume s hv, hx]
      exact withAsked_eq_self (DeadlineObject.dawn v) s.dueOf
    · rw [State.setVolume_of_le s hv]
  refine deadlineLaw_iff.2 ⟨by rw [hquota]; exact hids, ?_⟩
  rw [hdeadlines, hdue, hsame]
  exact hlists

/-- Records of the table change, but no id and no grace. -/
theorem DeadlineLaw.of_update {s t : State} (h : DeadlineLaw s) {id : Nat} {f : Principal → Principal}
    (hf : ∀ p : Principal, (f p).id = p.id ∧ (f p).grace = p.grace)
    (hquota : t.quota.principals = (s.quota.update id f).principals) (hvolumes : t.volumes = s.volumes)
    (hdeadlines : t.deadlines = s.deadlines) : DeadlineLaw t := by
  obtain ⟨hids, hlists⟩ := deadlineLaw_iff.1 h
  have hsame : t.dueOf = s.dueOf := by
    funext o
    cases o with
    | grace j =>
      have hfind : t.principal j = (s.principal j).map fun p => p.replacedBy id f := by
        unfold State.principal
        rw [← Quota.find_update s.quota id j fun p => (hf p).1]
        unfold Quota.find
        rw [hquota]
      simp only [State.dueOf, hfind, Option.bind_map, Function.comp_def]
      congr 1
      funext p
      rw [Principal.graceDue_eq, Principal.graceDue_eq]
      congr 1
      unfold Principal.replacedBy
      split
      · exact (hf p).2
      · rfl
    | dawn w => exact congrArg Volume.dawnDue (by simp only [State.volume, hvolumes])
  refine deadlineLaw_iff.2 ⟨?_, ?_⟩
  · rw [State.ids_update hquota fun p _ => (hf p).1]; exact hids
  · rw [hdeadlines, hsame]; exact hlists

/-- A record is replaced by one of the same grace and re-derived (R10). -/
theorem DeadlineLaw.of_record {s : State} (h : DeadlineLaw s) {p r : Principal} (hp : s.principal r.id = some p)
    (hgrace : r.grace = p.grace) : DeadlineLaw (s.record r) := by
  obtain ⟨hids, hlists⟩ := deadlineLaw_iff.1 h
  have hdue : (s.record r).dueOf =
      withAsked s.dueOf (.grace r.id) (r.graceAfter s.clock.minute).due := by
    funext o
    cases o with
    | grace id =>
      by_cases hid : id = r.id
      · subst hid
        have hsame := Quota.find_update_same s.quota r.id (r.maintained s.clock.minute) rfl hp
        rw [withAsked_same]
        show Option.bind ((s.record r).principal r.id) _ = _
        rw [show (s.record r).principal r.id = _ from hsame, Option.bind_some, Principal.graceDue_eq]
        rfl
      · have hne := Quota.find_update_ne s.quota r.id id (fun _ => r.maintained s.clock.minute) (fun _ _ => rfl) hid
        rw [withAsked_ne (by simpa using hid)]
        exact congrArg (Option.bind · _) hne
    | dawn w => rw [withAsked_ne (by nofun)]; rfl
  refine deadlineLaw_iff.2 ⟨?_, ?_⟩
  · rw [State.ids_update (s := s) (id := r.id) (f := fun _ => r.maintained s.clock.minute) rfl fun _ hid => hid.symm]
    exact hids
  · rw [hdue]
    refine hlists.grace ?_ (r.graceAfter_maintainsTo _)
    rw [hgrace, ← Principal.graceDue_eq]
    simp only [State.dueOf, hp, Option.bind_some]

theorem DeadlineLaw.added {s : State} (h : DeadlineLaw s) {p : Principal} (hnew : s.principal p.id = none) :
    DeadlineLaw (s.added p) := by
  obtain ⟨hids, hlists⟩ := deadlineLaw_iff.1 h
  have hdue : (s.added p).dueOf = withAsked s.dueOf (.grace p.id) p.grace.due := by
    funext o
    cases o with
    | grace id =>
      by_cases hid : id = p.id
      · subst hid
        rw [withAsked_same, ← Principal.graceDue_eq]
        show Option.bind ((s.added p).principal p.id) _ = _
        rw [State.principal_added_same hnew, Option.bind_some]
      · rw [withAsked_ne (by simpa using hid)]
        exact congrArg (Option.bind · _) (State.principal_added_ne s hid)
    | dawn w => rw [withAsked_ne (by nofun)]; rfl
  refine deadlineLaw_iff.2 ⟨nodup_insertPrincipal hids (State.ne_of_principal_none hnew), ?_⟩
  rw [hdue]
  exact hlists.grace (g := .absent) (by simp [State.dueOf, hnew, Grace.due]) trivial

theorem DeadlineLaw.dropPrincipal {s : State} (h : DeadlineLaw s) (id : Nat) : DeadlineLaw (s.dropPrincipal id) := by
  obtain ⟨hids, hlists⟩ := deadlineLaw_iff.1 h
  have hdue : (s.dropPrincipal id).dueOf = withAsked s.dueOf (.grace id) none := by
    funext o
    cases o with
    | grace j =>
      by_cases hj : j = id
      · subst hj
        rw [withAsked_same]
        show Option.bind ((s.dropPrincipal j).principal j) _ = _
        rw [State.principal_dropPrincipal_same, Option.bind_none]
      · rw [withAsked_ne (by simpa using hj)]
        exact congrArg (Option.bind · _) (State.principal_dropPrincipal_ne s hj)
    | dawn w => rw [withAsked_ne (by nofun)]; rfl
  refine deadlineLaw_iff.2 ⟨(List.filter_sublist.map _).nodup hids, ?_⟩
  rw [hdue]
  exact hlists.remove _

/-! ### The run and the nights -/

theorem State.ids_expiryRun {s : State} (h : (s.quota.principals.map (·.id)).Nodup) :
    (s.expiryRun.quota.principals.map (·.id)).Nodup :=
  State.expiryRun_keeps (L := fun s : State => (s.quota.principals.map fun p : Principal => p.id).Nodup)
    (fun _ _ h => h) (fun _ _ h => h)
    (fun s p _ h => by
      rw [State.ids_update (s := s) (id := p.id)
        (f := fun _ => ({ p with grace := .expired } : Principal).maintained s.clock.minute) rfl fun _ hid => hid.symm]
      exact h)
    (fun _ _ _ _ _ h => h) h

theorem DeadlineLaw.settled {s : State} (h : DeadlineLaw s) : DeadlineLaw s.settlePrecedence := by
  unfold State.settlePrecedence
  split
  · exact h
  · exact h

/-- After a run the list holds the entries that are left, and their owners ask for no other (R157). -/
theorem DeadlineLaw.expiryRun {s : State} (h : DeadlineLaw s) : DeadlineLaw s.expiryRun := by
  obtain ⟨hids, _, _, hlists⟩ := deadlineLaw_iff.1 h
  obtain ⟨hexpired, hdeadlines⟩ := (RunLaw.of_law h).expiryRun
  have hafter := (RunLaw.of_law h).after
  refine deadlineLaw_iff.2 ⟨State.ids_expiryRun hids, hafter.order, hafter.nodup, fun o due =>
    ⟨hafter.due ⟨o, due⟩, fun hasked => ?_⟩⟩
  have hstays : o ∉ (s.dueBy s.clock.minute).map (·.object) := by
    intro hmem
    cases o with
    | grace id =>
      obtain ⟨p, hp, hdue⟩ := Option.bind_eq_some_iff.1 hasked
      rw [hexpired.principal id] at hp
      obtain ⟨q, _, rfl⟩ := Option.map_eq_some_iff.1 hp
      rw [if_pos hmem, Principal.graceDue_eq] at hdue
      have hended := Principal.graceAfter_maintainsTo { q with grace := .expired } 0
      rcases hended with hg | hg
      · rw [show q.graceEnded.grace = .expired from hg] at hdue; cases hdue
      · rw [show q.graceEnded.grace = .absent from hg] at hdue; cases hdue
    | dawn v =>
      have hdue : (s.expiryRun.volume v).dawnDue = some due := hasked
      rw [hexpired.volume v, if_pos hmem] at hdue
      obtain ⟨n, hn, hstate, _⟩ := Volume.dawnDue_eq_some.1 hdue
      obtain ⟨m, _, rfl⟩ := Option.map_eq_some_iff.1 hn
      rcases hstate with hs | hs <;> cases hs
  rw [hexpired.dueOf_of_not_mem hstays] at hasked
  have hin := (hlists o due).2 hasked
  rw [hdeadlines]
  refine List.mem_filter.2 ⟨hin, decide_eq_true (Nat.not_le.1 fun hm => hstays ?_)⟩
  exact List.mem_map.2 ⟨⟨o, due⟩, List.mem_filter.2 ⟨hin, decide_eq_true hm⟩, rfl⟩

/-- A night is opened or resumed with its DAWN entry (R134, R136). -/
theorem DeadlineLaw.setNight {s : State} (h : DeadlineLaw s) {v : Nat} (hv : v < 16) {x : Volume} {dawn : Nat}
    (hbefore : (s.volume v).dawnDue = none) (hafter : x.dawnDue = some dawn) : DeadlineLaw (s.setNight v x dawn) := by
  obtain ⟨hids, hlists⟩ := deadlineLaw_iff.1 h
  have hinserted := hlists.insert (o := .dawn v) hbefore dawn
  rw [← hafter, ← State.dueOf_setVolume s hv x] at hinserted
  exact deadlineLaw_iff.2 ⟨hids, hinserted⟩

theorem Volume.dawnDue_of_closing {x : Volume} {n : Night} (hn : x.night = some n) (hc : n.state.closing = true) :
    x.dawnDue = none := by
  refine Option.eq_none_iff_forall_ne_some.2 fun due hdue => ?_
  obtain ⟨m, hm, hs, _⟩ := Volume.dawnDue_eq_some.1 hdue
  rw [hn] at hm
  cases hm
  rcases hs with hs | hs <;> rw [hs] at hc <;> cases hc

/-- A night takes its last state, and its DAWN entry leaves (R137, R138). -/
theorem DeadlineLaw.lastNight {s : State} (h : DeadlineLaw s) {v : Nat} {n : Night} {last : NightState}
    (hn : (s.volume v).night = some n) (hlast : last.closing = true) : DeadlineLaw (s.lastNight v n last) := by
  have hv : v < 16 := by
    refine Classical.byContradiction fun hv => ?_
    simp [State.volume, hv] at hn
  obtain ⟨hids, hlists⟩ := deadlineLaw_iff.1 h
  have hnone : ({ s.volume v with night := some { n with state := last } } : Volume).dawnDue = none := by
    exact Volume.dawnDue_of_closing rfl hlast
  have hclosed : ListsDues (s.lastNight v n last).deadlines (withAsked s.dueOf (.dawn v) none) := by
    unfold State.lastNight
    dsimp only
    split
    · exact hlists.remove _
    · rename_i hstate
      refine hlists.same (Option.eq_none_iff_forall_ne_some.2 fun due hdue => ?_)
      obtain ⟨m, hm, hs, _⟩ := Volume.dawnDue_eq_some.1 (show (s.volume v).dawnDue = some due from hdue)
      rw [hn] at hm
      cases hm
      exact hstate hs
  rw [← hnone, ← State.dueOf_setVolume s hv] at hclosed
  exact deadlineLaw_iff.2 ⟨hids, hclosed⟩

theorem Volume.release_night (x : Volume) (generation : Nat) : (x.release generation).night = x.night := by
  unfold Volume.release
  split <;> rfl

theorem Volume.dawnDue_congr {x y : Volume} (h : x.night = y.night) : x.dawnDue = y.dawnDue := by
  unfold Volume.dawnDue; rw [h]

theorem Principal.charged_grace (p : Principal) (n : Nat) : (p.charged n).grace = p.grace := by
  rw [Principal.charged_eq]

theorem Move.deadlineLaw {k : Tag} {s t : State} (hm : Move k s t) (hs : DeadlineLaw s) : DeadlineLaw t := by
  have returned {v : Nat} {n : Night} (hn : (s.volume v).night = some n) {m : Night} (hstate : m.state = n.state)
      (hdawn : m.dawn = n.dawn) : ({ s.volume v with night := some m } : Volume).dawnDue = (s.volume v).dawnDue := by
    unfold Volume.dawnDue
    rw [hn]
    simp only [hstate, hdawn]
  cases hm with
  | frameReturned => rw [State.returnFrame_frame]; exact hs
  | @charge _ p n h => exact hs.of_record (p := p) (by rw [Principal.charged_id]; exact h) (Principal.charged_grace p n)
  | @chunk _ p n h => exact hs.of_record (p := p) (by rw [Principal.charged_id]; exact h) (Principal.charged_grace p n)
  | @account _ p _ _ _ _ h => exact hs.of_record (p := p) h rfl
  | @contribute _ p station value h =>
    have hmapped : DeadlineLaw (s.mapped p.id station value) := hs
    exact hmapped.of_record (p := p) h rfl
  | @announce _ _ e =>
    exact hs.of_update (id := e.principal) (f := fun p => { p with la := e.value }) (fun _ => ⟨rfl, rfl⟩) rfl rfl rfl
  | add hnew => exact hs.added hnew
  | drop => exact hs.dropPrincipal _
  | run => exact hs.expiryRun
  | takeRun => exact hs.expiryRun.settled
  | settle => exact hs.settled
  | nightReturn _ _ hn | nightExpire _ _ hn | nightIssue hn => exact hs.of_setVolume rfl rfl rfl (returned hn rfl rfl)
  | @night _ v remaining n state hn hstate =>
    refine hs.of_setVolume rfl rfl rfl ?_
    rcases hstate with rfl | ⟨hold, hnew⟩
    · exact returned hn rfl rfl
    · have hbefore := Volume.dawnDue_eq_some.2 ⟨n, hn, hold, rfl⟩
      rw [hbefore]
      exact Volume.dawnDue_eq_some.2 ⟨_, rfl, hnew, rfl⟩
  | nightOpens hv _ hn _ _ _ _ hstate =>
    refine hs.setNight hv (by simp [Volume.dawnDue, hn]) (Volume.dawnDue_eq_some.2 ⟨_, rfl, hstate, rfl⟩)
  | @nightResumes _ v _ n _ hn hsuspended hstate =>
    have hv : v < 16 := by
      refine Classical.byContradiction fun hv => ?_
      simp [State.volume, hv] at hn
    exact hs.setNight hv (by simp [Volume.dawnDue, hn, hsuspended])
      (Volume.dawnDue_eq_some.2 ⟨_, rfl, hstate, rfl⟩)
  | nightCloses hn hlast => exact hs.lastNight hn hlast
  | nightEnds hn hclosing =>
    exact hs.of_setVolume rfl rfl rfl (Volume.dawnDue_of_closing hn hclosing).symm
  | declare => exact hs.of_setVolume rfl rfl rfl (Volume.dawnDue_congr rfl)
  | create => exact hs.of_setVolume rfl rfl rfl (Volume.dawnDue_congr rfl)
  | retireLater => exact hs.of_setVolume rfl rfl rfl (Volume.dawnDue_congr rfl)
  | retireNow => exact hs.of_setVolume rfl rfl rfl (Volume.dawnDue_congr rfl)
  | @jobStarts _ slot tag v generation principal =>
    have hheld : DeadlineLaw (s.setVolume v ((s.volume v).hold generation)) :=
      hs.of_setVolume rfl rfl rfl (Volume.dawnDue_congr rfl)
    exact hheld.of_update (id := principal) (f := fun p => { p with restoreJobs := p.restoreJobs + 1 })
      (fun _ => ⟨rfl, rfl⟩) rfl rfl rfl
  | @jobEnds _ slot j =>
    have hreleased : DeadlineLaw (s.setVolume j.volume ((s.volume j.volume).release j.generation)) :=
      hs.of_setVolume rfl rfl rfl (Volume.dawnDue_congr (Volume.release_night _ _))
    exact hreleased.of_update (id := j.principal) (f := fun p => { p with restoreJobs := p.restoreJobs - 1 })
      (fun _ => ⟨rfl, rfl⟩) rfl rfl rfl
  | reset =>
    exact deadlineLaw_iff.2 ⟨.nil, .nil, .nil, fun o due => by
      cases o <;> simp [State.dueOf, State.reset, State.principal, Quota.find, State.volume, Volume.dawnDue]⟩
  | _ => exact hs

/-- Settles O58, move by move: each move that changes what an owner asks for changes the list by that entry. -/
theorem stepKeepsDeadlineLaw : Obligations.StepKeepsDeadlineLaw := by
  intro s t _ hstep
  exact step_keeps (fun _ _ h => h) Move.deadlineLaw hstep

end Sys2Proof.Machine
end

section
/-! PROOFS. O59: the catalogue, move by move. -/

namespace Sys2Proof.Machine

/-! ### The law of one volume (R96, R99, R101, R103) -/

/-- A record's hold count, status and RETIRE-PENDING, by the jobs on it, whether the night names it, and the base. -/
def Snapshot.lawful (r : Snapshot) (jobs : Nat) (sending : Bool) (base : Option Nat) : Prop :=
  r.holds = jobs + (if sending then 1 else 0) ∧ (r.status = .sending ↔ sending = true) ∧
  (r.status = .offsite → ∃ b, base = some b ∧ r.generation ≤ b) ∧
  (r.retirePending = true → 0 < r.holds ∧ r.status ≠ .sending)

/-- The laws of a volume, with the number of jobs on each generation. -/
structure Volume.law (x : Volume) (jobs : Nat → Nat) : Prop where
  order : x.snapshots.Pairwise fun a b => a.generation < b.generation
  base : ∀ b, x.base = some b →
    ∃ r ∈ x.snapshots, r.generation = b ∧ r.status = .offsite ∧ r.retirePending = false
  records : ∀ r ∈ x.snapshots, r.lawful (jobs r.generation) (x.nightNames r.generation) x.base
  night : ∀ n, x.night = some n →
    (x.snapshot n.generation).isSome = true ∧ ∀ b, x.base = some b → b < n.generation
  undeclared : x.declared = false → x.snapshots = [] ∧ x.base = none ∧ x.night = none
  listed : ∀ g, 0 < jobs g → (x.snapshot g).isSome = true

theorem Volume.isSome_snapshot_iff {x : Volume} {g : Nat} :
    (x.snapshot g).isSome = true ↔ ∃ r ∈ x.snapshots, r.generation = g := by
  simp [Volume.snapshot, List.find?_isSome]

theorem Volume.mem_of_snapshot {x : Volume} {g : Nat} {r : Snapshot} (h : x.snapshot g = some r) :
    r ∈ x.snapshots := List.mem_of_find?_eq_some h

theorem Volume.snapshot_generation {x : Volume} {g : Nat} {r : Snapshot} (h : x.snapshot g = some r) :
    r.generation = g := by simpa using List.find?_some h

/-- In a list in rising order a generation has one record. -/
theorem Volume.law.eq_of_generation {x : Volume} {jobs : Nat → Nat} (h : x.law jobs) {r q : Snapshot}
    (hr : r ∈ x.snapshots) (hq : q ∈ x.snapshots) (hg : r.generation = q.generation) : r = q := by
  have hnodup : (x.snapshots.map (·.generation)).Nodup :=
    List.pairwise_map.2 (h.order.imp fun hlt => Nat.ne_of_lt hlt)
  exact eq_of_nodup_map hnodup hr hq hg

theorem Volume.law.declared_of_mem {x : Volume} {jobs : Nat → Nat} (h : x.law jobs) {r : Snapshot}
    (hr : r ∈ x.snapshots) : x.declared = true := by
  refine Classical.byContradiction fun hd => ?_
  rw [(h.undeclared (by simpa using hd)).1] at hr
  cases hr

theorem Volume.law.nightNames_listed {x : Volume} {jobs : Nat → Nat} (h : x.law jobs) {g : Nat}
    (hg : x.nightNames g = true) : (x.snapshot g).isSome = true := by
  obtain ⟨n, hn, heq⟩ := (Option.any_eq_true ..).1 hg
  rw [← eq_of_beq heq]
  exact (h.night n hn).1

/-- The records of a volume are changed in place, and its base and night with them. -/
theorem Volume.law.rewritten {x y : Volume} {jobs jobs' : Nat → Nat} (h : x.law jobs) {f : Snapshot → Snapshot}
    (hsnapshots : y.snapshots = x.snapshots.map f) (hgeneration : ∀ r, (f r).generation = r.generation)
    (hdeclared : y.declared = true)
    (hbase : ∀ b, y.base = some b →
      ∃ r ∈ x.snapshots, r.generation = b ∧ (f r).status = .offsite ∧ (f r).retirePending = false)
    (hrecords : ∀ r ∈ x.snapshots, (f r).lawful (jobs' r.generation) (y.nightNames r.generation) y.base)
    (hnight : ∀ n, y.night = some n →
      (x.snapshot n.generation).isSome = true ∧ ∀ b, y.base = some b → b < n.generation)
    (hlisted : ∀ g, 0 < jobs' g → (x.snapshot g).isSome = true) : y.law jobs' := by
  have hkeeps (g : Nat) (hg : (x.snapshot g).isSome = true) : (y.snapshot g).isSome = true := by
    obtain ⟨r, hr, hrg⟩ := Volume.isSome_snapshot_iff.1 hg
    exact Volume.isSome_snapshot_iff.2
      ⟨f r, by rw [hsnapshots]; exact List.mem_map_of_mem hr, (hgeneration r).trans hrg⟩
  constructor
  · rw [hsnapshots, List.pairwise_map]
    exact h.order.imp fun hlt => by rw [hgeneration, hgeneration]; exact hlt
  · intro b hb
    obtain ⟨r, hr, hrg, hstatus, hpending⟩ := hbase b hb
    exact ⟨f r, by rw [hsnapshots]; exact List.mem_map_of_mem hr, (hgeneration r).trans hrg, hstatus, hpending⟩
  · rw [hsnapshots, List.forall_mem_map]
    intro r hr
    rw [hgeneration]
    exact hrecords r hr
  · exact fun n hn => ⟨hkeeps _ (hnight n hn).1, (hnight n hn).2⟩
  · intro hd
    rw [hdeclared] at hd
    cases hd
  · exact fun g hg => hkeeps g (hlisted g hg)

/-- The night takes other values, but for its generation. -/
theorem Volume.law.of_night {x : Volume} {jobs : Nat → Nat} (h : x.law jobs) {n m : Night} (hn : x.night = some n)
    (hm : m.generation = n.generation) : ({ x with night := some m } : Volume).law jobs := by
  have hnames (g : Nat) : ({ x with night := some m } : Volume).nightNames g = x.nightNames g := by
    simp only [Volume.nightNames, hn, hm, Option.any_some]
  refine ⟨h.order, h.base, fun r hr => ?_, ?_, fun hd => ?_, h.listed⟩
  · rw [hnames]; exact h.records r hr
  · rintro _ ⟨⟩
    rw [hm]
    exact h.night n hn
  · rw [(h.undeclared hd).2.2] at hn
    cases hn

theorem Volume.law.declare {x : Volume} {jobs : Nat → Nat} (h : x.law jobs) (offsite : Bool) :
    ({ x with declared := true, offsite := offsite } : Volume).law jobs :=
  ⟨h.order, h.base, h.records, h.night, nofun, h.listed⟩

/-- A snapshot newer than the newest is none that is listed. -/
theorem Volume.law.older {x : Volume} {jobs : Nat → Nat} (h : x.law jobs) {g : Nat}
    (hnewer : ∀ newest ∈ x.newest, newest < g) {r : Snapshot} (hr : r ∈ x.snapshots) : r.generation < g := by
  have hne : x.snapshots ≠ [] := List.ne_nil_of_mem hr
  have hlast : x.newest = some (x.snapshots.getLast hne).generation := by
    rw [Volume.newest, List.getLast?_eq_some_getLast hne, Option.map_some]
  have hlt := hnewer _ (Option.mem_def.2 hlast)
  have hsplit := List.dropLast_concat_getLast hne
  rw [← hsplit] at hr
  rcases List.mem_append.1 hr with hr | hr
  · have hle := (List.pairwise_append.1 (hsplit ▸ h.order)).2.2 r hr _ (List.mem_singleton_self _)
    exact Nat.lt_trans hle hlt
  · rw [List.mem_singleton.1 hr]
    exact hlt

/-- A snapshot joins at the newest end (R100). -/
theorem Volume.law.create {x : Volume} {jobs : Nat → Nat} (h : x.law jobs) {g minute : Nat}
    (hdeclared : x.declared = true) (hnewer : ∀ newest ∈ x.newest, newest < g) :
    ({ x with snapshots := x.snapshots ++ [{ generation := g, created := minute }] } : Volume).law jobs := by
  have hfree : (x.snapshot g).isSome = false := by
    refine Bool.eq_false_iff.2 fun hg => ?_
    obtain ⟨r, hr, hrg⟩ := Volume.isSome_snapshot_iff.1 hg
    exact absurd hrg (Nat.ne_of_lt (h.older hnewer hr))
  have hkeeps (i : Nat) (hi : (x.snapshot i).isSome = true) :
      (({ x with snapshots := x.snapshots ++ [{ generation := g, created := minute }] } : Volume).snapshot i).isSome =
        true := by
    obtain ⟨r, hr, hrg⟩ := Volume.isSome_snapshot_iff.1 hi
    exact Volume.isSome_snapshot_iff.2 ⟨r, List.mem_append_left _ hr, hrg⟩
  constructor
  · refine List.pairwise_append.2 ⟨h.order, List.pairwise_singleton _ _, fun r hr q hq => ?_⟩
    rw [List.mem_singleton.1 hq]
    exact h.older hnewer hr
  · intro b hb
    obtain ⟨r, hr, hrest⟩ := h.base b hb
    exact ⟨r, List.mem_append_left _ hr, hrest⟩
  · intro r hr
    rcases List.mem_append.1 hr with hr | hr
    · exact h.records r hr
    · rw [List.mem_singleton.1 hr]
      have hjobs : jobs g = 0 := by
        refine Classical.byContradiction fun hj => ?_
        rw [h.listed g (Nat.pos_of_ne_zero hj)] at hfree
        cases hfree
      have hnight : x.nightNames g = false := by
        refine Bool.eq_false_iff.2 fun hg => ?_
        rw [h.nightNames_listed hg] at hfree
        cases hfree
      show Snapshot.lawful _ (jobs g) (x.nightNames g) x.base
      rw [hjobs, hnight]
      exact ⟨rfl, ⟨nofun, nofun⟩, nofun, nofun⟩
  · exact fun n hn => ⟨hkeeps _ (h.night n hn).1, (h.night n hn).2⟩
  · intro hd
    have hd : x.declared = false := hd
    rw [hdeclared] at hd
    cases hd
  · exact fun i hi => hkeeps i (h.listed i hi)

/-- The base is another generation's record. -/
theorem Volume.law.base_ne {x : Volume} {jobs : Nat → Nat} (h : x.law jobs) {g : Nat} (hbase : x.base ≠ some g)
    {f : Snapshot → Snapshot} (b : Nat) (hb : x.base = some b) :
    ∃ r ∈ x.snapshots, r.generation = b ∧ (if r.generation = g then f r else r).status = .offsite ∧
      (if r.generation = g then f r else r).retirePending = false := by
  obtain ⟨r, hr, hrg, hstatus, hpending⟩ := h.base b hb
  have hne : r.generation ≠ g := fun hg => hbase (by rw [hb, ← hrg, hg])
  exact ⟨r, hr, hrg, by rw [if_neg hne]; exact hstatus, by rw [if_neg hne]; exact hpending⟩

/-- A held snapshot becomes RETIRE-PENDING (R105). -/
theorem Volume.law.retireLater {x : Volume} {jobs : Nat → Nat} (h : x.law jobs) {g : Nat} {r : Snapshot}
    (hr : x.snapshot g = some r) (hbase : x.base ≠ some g) (hstatus : r.status ≠ .sending) (hholds : 0 < r.holds) :
    (x.update g fun r => { r with retirePending := true }).law jobs := by
  refine h.rewritten rfl (fun q => ?_) (h.declared_of_mem (Volume.mem_of_snapshot hr)) (h.base_ne hbase)
    (fun q hq => ?_)
    h.night h.listed
  · split <;> rfl
  · split
    · rename_i hg
      obtain rfl := h.eq_of_generation hq (Volume.mem_of_snapshot hr) (hg.trans (Volume.snapshot_generation hr).symm)
      obtain ⟨h1, h2, h3, _⟩ := h.records q hq
      exact ⟨h1, h2, h3, fun _ => ⟨hholds, hstatus⟩⟩
    · exact h.records q hq

/-- A record that nothing holds leaves the list (R105, R106). -/
theorem Volume.law.removed {x : Volume} {jobs jobs' : Nat → Nat} (h : x.law jobs) {g : Nat} (hjobs : jobs' g = 0)
    (hothers : ∀ i ≠ g, jobs' i = jobs i) (hnight : x.nightNames g = false) (hbase : x.base ≠ some g) :
    (x.remove g).law jobs' := by
  have hmem {r : Snapshot} : r ∈ (x.remove g).snapshots ↔ r ∈ x.snapshots ∧ r.generation ≠ g := by
    simp [Volume.remove]
  have hkeeps (i : Nat) (hi : (x.snapshot i).isSome = true) (hne : i ≠ g) :
      ((x.remove g).snapshot i).isSome = true := by
    obtain ⟨r, hr, hrg⟩ := Volume.isSome_snapshot_iff.1 hi
    exact Volume.isSome_snapshot_iff.2 ⟨r, hmem.2 ⟨hr, hrg ▸ hne⟩, hrg⟩
  constructor
  · exact h.order.filter _
  · intro b hb
    obtain ⟨r, hr, hrg, hrest⟩ := h.base b hb
    exact ⟨r, hmem.2 ⟨hr, fun hg => hbase (by rw [← hg, hrg]; exact hb)⟩, hrg, hrest⟩
  · intro r hr
    obtain ⟨hr, hne⟩ := hmem.1 hr
    rw [hothers _ hne]
    exact h.records r hr
  · intro n hn
    refine ⟨hkeeps _ (h.night n hn).1 fun hg => ?_, (h.night n hn).2⟩
    have hn : x.night = some n := hn
    simp [Volume.nightNames, hn, hg] at hnight
  · intro hd
    obtain ⟨h1, h2, h3⟩ := h.undeclared hd
    refine ⟨?_, h2, h3⟩
    simp [Volume.remove, h1]
  · intro i hi
    have hne : i ≠ g := by
      rintro rfl
      omega
    rw [hothers i hne] at hi
    exact hkeeps i (h.listed i hi) hne

/-- A job takes a hold (R102). -/
theorem Volume.law.hold {x : Volume} {jobs jobs' : Nat → Nat} (h : x.law jobs) {g : Nat}
    (hlisted : (x.snapshot g).isSome = true) (hjobs : ∀ i, jobs' i = jobs i + if i = g then 1 else 0) :
    (x.hold g).law jobs' := by
  obtain ⟨r, hr, hrg⟩ := Volume.isSome_snapshot_iff.1 hlisted
  refine h.rewritten rfl (fun q => ?_) (h.declared_of_mem hr) (fun b hb => ?_) (fun q hq => ?_) h.night fun i hi => ?_
  · split <;> rfl
  · obtain ⟨q, hq, hqg, hstatus, hpending⟩ := h.base b hb
    refine ⟨q, hq, hqg, ?_, ?_⟩ <;> split <;> assumption
  · obtain ⟨h1, h2, h3, h4⟩ := h.records q hq
    show Snapshot.lawful _ (jobs' q.generation) (x.nightNames q.generation) x.base
    rw [hjobs]
    split
    · exact ⟨by dsimp only; omega, h2, h3, fun hp => ⟨Nat.succ_pos _, (h4 hp).2⟩⟩
    · exact ⟨h1, h2, h3, h4⟩
  · by_cases hi' : i = g
    · rw [hi']; exact hlisted
    · rw [hjobs, if_neg hi', Nat.add_zero] at hi
      exact h.listed i hi

/-- A job's hold is released (R102, R106). -/
theorem Volume.law.release {x : Volume} {jobs jobs' : Nat → Nat} (h : x.law jobs) {g : Nat}
    (hjobs : ∀ i, jobs i = jobs' i + if i = g then 1 else 0) : (x.release g).law jobs' := by
  have hg : jobs g = jobs' g + 1 := by rw [hjobs, if_pos rfl]
  have hothers (i : Nat) (hi : i ≠ g) : jobs' i = jobs i := by rw [hjobs i, if_neg hi, Nat.add_zero]
  obtain ⟨r, hr⟩ := Option.isSome_iff_exists.1 (h.listed g (by omega))
  have hmem := Volume.mem_of_snapshot hr
  have hrg := Volume.snapshot_generation hr
  obtain ⟨hholds, hsending, _, hpending⟩ := hrg ▸ h.records r hmem
  have hretired : x.retiredByRelease g = if r.retirePending ∧ r.holds ≤ 1 then some r else none := by
    rw [Volume.retiredByRelease, hr]
  unfold Volume.release
  rw [hretired]
  by_cases hlast : r.retirePending = true ∧ r.holds ≤ 1
  · obtain ⟨hp, hone⟩ := hlast
    have hnight : x.nightNames g = false := by
      refine Bool.eq_false_iff.2 fun hn => ?_
      rw [hn, if_pos rfl] at hholds
      omega
    rw [if_pos ⟨hp, hone⟩]
    refine h.removed ?_ hothers hnight fun hb => ?_
    · rw [hnight] at hholds
      simp only [Bool.false_eq_true, if_false] at hholds
      omega
    · obtain ⟨q, hq, hqg, _, hq'⟩ := h.base g hb
      rw [h.eq_of_generation hq hmem (hqg.trans hrg.symm), hp] at hq'
      cases hq'
  · rw [if_neg hlast]
    refine h.rewritten rfl (fun q => ?_) (h.declared_of_mem hmem) (fun b hb => ?_) (fun q hq => ?_) h.night
      fun i hi => ?_
    · split <;> rfl
    · obtain ⟨q, hq, hqg, hstatus, hpend⟩ := h.base b hb
      refine ⟨q, hq, hqg, ?_, ?_⟩ <;> split <;> assumption
    · obtain ⟨h1, h2, h3, h4⟩ := h.records q hq
      show Snapshot.lawful _ (jobs' q.generation) (x.nightNames q.generation) x.base
      split
      · rename_i hqg
        obtain rfl := h.eq_of_generation hq hmem (hqg.trans hrg.symm)
        rw [hqg] at h1 h2 ⊢
        refine ⟨by dsimp only; omega, h2, h3, fun hp => ⟨?_, (h4 hp).2⟩⟩
        have hmany : ¬ q.holds ≤ 1 := fun hle => hlast ⟨hp, hle⟩
        dsimp only
        omega
      · rename_i hne
        rw [hothers _ hne]
        exact ⟨h1, h2, h3, h4⟩
    · refine h.listed i ?_
      rw [hjobs]
      omega

/-- A night opens on a LOCAL-ONLY snapshot (R134). -/
theorem Volume.law.nightOpens {x : Volume} {jobs : Nat → Nat} (h : x.law jobs) {g : Nat} {r : Snapshot}
    (hr : x.snapshot g = some r) (hlocal : r.status = .localOnly) (hbase : ∀ b, x.base = some b → b < g)
    (hstays : r.retirePending = false) (hnone : x.night = none) {n : Night} (hn : n.generation = g) :
    ({ x.update g fun r => { r with status := .sending, holds := r.holds + 1 } with night := some n } : Volume).law
      jobs := by
  have hne : x.base ≠ some g := fun hb => absurd (hbase g hb) (Nat.lt_irrefl g)
  refine h.rewritten rfl (fun q => ?_) (h.declared_of_mem (Volume.mem_of_snapshot hr)) (h.base_ne hne)
    (fun q hq => ?_) ?_
    h.listed
  · split <;> rfl
  · have hidle (i : Nat) : x.nightNames i = false := by simp [Volume.nightNames, hnone]
    have hnames (i : Nat) : ({ x.update g fun r => { r with status := .sending, holds := r.holds + 1 } with
        night := some n } : Volume).nightNames i = (g == i) := by simp [Volume.nightNames, hn]
    obtain ⟨h1, h2, h3, h4⟩ := h.records q hq
    rw [hidle] at h1 h2
    rw [hnames]
    split
    · rename_i hg
      obtain rfl := h.eq_of_generation hq (Volume.mem_of_snapshot hr) (hg.trans (Volume.snapshot_generation hr).symm)
      refine ⟨?_, ?_, nofun, fun hp => ?_⟩
      · simpa [hg] using h1
      · simp [hg]
      · rw [show q.retirePending = true from hp] at hstays
        cases hstays
    · rename_i hg
      rw [beq_false_of_ne (Ne.symm hg)]
      exact ⟨h1, h2, h3, h4⟩
  · rintro _ ⟨⟩
    rw [hn]
    exact ⟨Option.isSome_of_eq_some hr, hbase⟩

/-- A night ends: its snapshot becomes OFFSITE and the base, or LOCAL-ONLY again, and its hold is released (R104). -/
theorem Volume.law.nightEnds {x : Volume} {jobs : Nat → Nat} (h : x.law jobs) {n : Night} (hn : x.night = some n) :
    (x.endNight n).law jobs := by
  obtain ⟨hlisted, holder⟩ := h.night n hn
  obtain ⟨r, hr, hrg⟩ := Volume.isSome_snapshot_iff.1 hlisted
  have hnames (i : Nat) : x.nightNames i = (n.generation == i) := by simp [Volume.nightNames, hn]
  have hends (i : Nat) : (x.endNight n).nightNames i = false := rfl
  obtain ⟨_, hsending, _, hpending⟩ := h.records r hr
  rw [hnames, hrg, beq_self_eq_true] at hsending
  have hstatus : r.status = .sending := hsending.2 rfl
  have hstays : r.retirePending = false := Bool.eq_false_iff.2 fun hp => (hpending hp).2 hstatus
  have hnewest {b : Nat} (hb : (x.endNight n).base = some b) :
      (n.state = .finishing ∧ b = n.generation) ∨ (n.state ≠ .finishing ∧ x.base = some b) := by
    by_cases hf : n.state = .finishing
    · simp only [Volume.endNight, hf, if_true, Option.some.injEq] at hb
      exact .inl ⟨hf, hb.symm⟩
    · simp only [Volume.endNight, hf, if_false] at hb
      exact .inr ⟨hf, hb⟩
  refine h.rewritten (f := fun q => if q.generation = n.generation then
      { q with status := if n.state = .finishing then .offsite else .localOnly, holds := q.holds - 1 } else q)
    ?_ (fun q => ?_) (h.declared_of_mem hr) (fun b hb => ?_) (fun q hq => ?_) nofun h.listed
  · simp [Volume.endNight, Volume.update]
  · split <;> rfl
  · rcases hnewest hb with ⟨hf, rfl⟩ | ⟨_, hb⟩
    · refine ⟨r, hr, hrg, ?_, ?_⟩
      · rw [if_pos hrg, if_pos hf]
      · rw [if_pos hrg]; exact hstays
    · exact h.base_ne (fun hb => absurd (holder _ hb) (Nat.lt_irrefl _)) b hb
  · obtain ⟨h1, h2, h3, h4⟩ := h.records q hq
    rw [hends]
    rw [hnames] at h1 h2
    split
    · rename_i hg
      obtain rfl := h.eq_of_generation hq hr (hg.trans hrg.symm)
      refine ⟨?_, ?_, fun hoff => ?_, fun hp => ?_⟩
      · rw [hg, beq_self_eq_true, if_pos rfl] at h1
        rw [hg]
        dsimp only
        simp only [Bool.false_eq_true, if_false]
        omega
      · split <;> simp
      · by_cases hf : n.state = .finishing
        · exact ⟨n.generation, by simp [Volume.endNight, hf], Nat.le_of_eq hg⟩
        · simp [hf] at hoff
      · rw [show q.retirePending = true from hp] at hstays
        cases hstays
    · rename_i hg
      rw [beq_false_of_ne (Ne.symm hg)] at h1 h2
      refine ⟨h1, h2, fun hoff => ?_, h4⟩
      obtain ⟨b, hb, hle⟩ := h3 hoff
      by_cases hf : n.state = .finishing
      · exact ⟨n.generation, by simp [Volume.endNight, hf], Nat.le_of_lt (Nat.lt_of_le_of_lt hle (holder b hb))⟩
      · exact ⟨b, by simp [Volume.endNight, hf, hb], hle⟩

end Sys2Proof.Machine
end

section
/-! PROOFS. O59: the catalogue's laws with the jobs that hold its snapshots. -/

namespace Sys2Proof.Machine

/-! ### Counting the slots of the restore table -/

/-- A count over places, where a condition changes at one place. -/
theorem countP_range_changed {n slot : Nat} (hslot : slot < n) {p q : Nat → Bool} (h : ∀ k, k ≠ slot → p k = q k) :
    (List.range n).countP p + (if q slot then 1 else 0) = (List.range n).countP q + if p slot then 1 else 0 := by
  induction n with
  | zero => cases hslot
  | succ n ih =>
    simp only [List.range_succ, List.countP_append, List.countP_singleton]
    by_cases hn : slot = n
    · subst hn
      have hsame : (List.range slot).countP p = (List.range slot).countP q :=
        List.countP_congr fun k hk => by rw [h k (Nat.ne_of_lt (List.mem_range.1 hk))]
      omega
    · have hrest := ih (by omega)
      rw [h n (Ne.symm hn)]
      omega

/-- The snapshot that a job names. -/
def Job.names (j : Job) (v generation : Nat) : Bool := j.volume == v && j.generation == generation

theorem Job.names_own (j : Job) (g : Nat) :
    (if j.names j.volume g then 1 else 0) = if g = j.generation then 1 else 0 := by
  simp only [Job.names, beq_self_eq_true, Bool.true_and, beq_iff_eq]
  exact ite_cond_congr (propext eq_comm)

theorem Job.names_ne {j : Job} {v : Nat} (h : v ≠ j.volume) (g : Nat) : j.names v g = false := by
  rw [Job.names, beq_false_of_ne (Ne.symm h), Bool.false_and]

theorem State.volume_congr {s t : State} (h : t.volumes = s.volumes) (v : Nat) : t.volume v = s.volume v := by
  simp only [State.volume, h]

theorem State.job_congr {s t : State} (h : t.jobs = s.jobs) (k : Nat) : t.job k = s.job k := by
  simp only [State.job, h]

theorem State.jobsOn_eq (s : State) (v generation : Nat) :
    s.jobsOn v generation = (List.range 8).countP fun k => (s.job k).any (·.names v generation) := rfl

theorem State.jobsOn_setJob {s t : State} {slot : Nat} (hslot : slot < 8) {j : Option Job}
    (hjobs : t.jobs = (s.setJob slot j).jobs) (v generation : Nat) :
    t.jobsOn v generation + (if (s.job slot).any (·.names v generation) then 1 else 0) =
      s.jobsOn v generation + if j.any (·.names v generation) then 1 else 0 := by
  have hjob (k : Nat) : t.job k = (s.setJob slot j).job k := State.job_congr hjobs k
  have hchanged := countP_range_changed hslot (p := fun k => (t.job k).any (·.names v generation))
    (q := fun k => (s.job k).any (·.names v generation)) fun k hk => by
      rw [hjob, State.job_setJob_ne s j hk]
  rw [hjob slot, State.job_setJob_same s j hslot] at hchanged
  exact hchanged

theorem State.jobsOn_pos {s : State} {v generation : Nat} :
    0 < s.jobsOn v generation ↔ ∃ k < 8, ∃ j, s.job k = some j ∧ j.names v generation = true := by
  rw [State.jobsOn_eq, List.countP_pos_iff]
  simp [Option.any_eq_true]

theorem State.jobsOn_congr {s t : State}
    (h : ∀ k, (t.job k).map (fun j => (j.volume, j.generation)) = (s.job k).map fun j => (j.volume, j.generation)) :
    t.jobsOn = s.jobsOn := by
  funext v generation
  have hany (o : Option Job) : o.any (·.names v generation) =
      (o.map fun j => (j.volume, j.generation)).any fun key => key.1 == v && key.2 == generation := by
    cases o <;> rfl
  refine List.countP_congr fun k _ => ?_
  rw [show ((t.job k).any fun j => j.volume == v && j.generation == generation) = _ from hany (t.job k), h k, ← hany]
  rfl

/-! ### The law of the whole catalogue -/

theorem State.catalogueLaw_iff {s : State} {v : Nat} :
    (s.catalogueLaw v ∧ ∀ k < 8, ∀ j, s.job k = some j → j.volume = v →
      ((s.volume v).snapshot j.generation).isSome = true) ↔ (s.volume v).law (s.jobsOn v) := by
  constructor
  · rintro ⟨⟨horder, hbase, hrecords, hnight, hundeclared⟩, hlisted⟩
    refine ⟨horder, fun b hb => ?_, fun r hr => ?_, fun n hn => ?_, hundeclared, fun g hg => ?_⟩
    · rw [hb, Option.all_some, List.any_eq_true] at hbase
      obtain ⟨r, hr, h⟩ := hbase
      simp only [Bool.and_eq_true, beq_iff_eq, Bool.not_eq_true'] at h
      exact ⟨r, hr, h.1.1, h.1.2, h.2⟩
    · obtain ⟨h1, h2, h3, h4⟩ := hrecords r hr
      refine ⟨h1, h2, fun hoff => ?_, h4⟩
      simpa [Option.any_eq_true] using h3 hoff
    · rw [hn, Option.all_some, Bool.and_eq_true] at hnight
      refine ⟨hnight.1, fun b hb => ?_⟩
      simpa [hb] using hnight.2
    · obtain ⟨k, hk, j, hj, hnames⟩ := State.jobsOn_pos.1 hg
      simp only [Job.names, Bool.and_eq_true, beq_iff_eq] at hnames
      rw [← hnames.2]
      exact hlisted k hk j hj hnames.1
  · rintro ⟨horder, hbase, hrecords, hnight, hundeclared, hlisted⟩
    refine ⟨⟨horder, ?_, fun r hr => ?_, ?_, hundeclared⟩, fun k hk j hj hv => ?_⟩
    · rw [Option.all_eq_true]
      intro b hb
      obtain ⟨r, hr, hg, hstatus, hpending⟩ := hbase b hb
      exact List.any_eq_true.2 ⟨r, hr, by simp [hg, hstatus, hpending]⟩
    · obtain ⟨h1, h2, h3, h4⟩ := hrecords r hr
      exact ⟨h1, h2, fun hoff => by simpa [Option.any_eq_true] using h3 hoff, h4⟩
    · rw [Option.all_eq_true]
      intro n hn
      obtain ⟨hisSome, holder⟩ := hnight n hn
      rw [Bool.and_eq_true, Option.all_eq_true]
      exact ⟨hisSome, fun b hb => decide_eq_true (holder b hb)⟩
    · exact hlisted j.generation (State.jobsOn_pos.2 ⟨k, hk, j, hj, by simp [Job.names, hv]⟩)

theorem catalogueLaw_iff {s : State} :
    CatalogueLaw s ↔ (∀ v < 16, (s.volume v).law (s.jobsOn v)) ∧ ∀ k < 8, ∀ j, s.job k = some j → j.volume < 16 := by
  have hjobs : (∀ k < 8, ((s.job k).all fun j =>
        j.volume < 16 && ((s.volume j.volume).snapshot j.generation).isSome) = true) ↔
      ∀ k < 8, ∀ j, s.job k = some j →
        j.volume < 16 ∧ ((s.volume j.volume).snapshot j.generation).isSome = true := by
    simp only [Option.all_eq_true, Bool.and_eq_true, decide_eq_true_eq]
  unfold CatalogueLaw
  rw [hjobs]
  constructor
  · rintro ⟨hlaw, hjob⟩
    refine ⟨fun v hv => State.catalogueLaw_iff.1 ⟨hlaw v hv, ?_⟩, fun k hk j hj => (hjob k hk j hj).1⟩
    rintro k hk j hj rfl
    exact (hjob k hk j hj).2
  · rintro ⟨hlaw, hjob⟩
    refine ⟨fun v hv => (State.catalogueLaw_iff.2 (hlaw v hv)).1, fun k hk j hj => ⟨hjob k hk j hj, ?_⟩⟩
    exact (State.catalogueLaw_iff.2 (hlaw j.volume (hjob k hk j hj))).2 k hk j hj rfl

/-- Jobs change, but none in the snapshot that it names. -/
theorem CatalogueLaw.of_jobs {s t : State} (h : CatalogueLaw s) (hvolumes : t.volumes = s.volumes)
    (hjobs : ∀ k, (t.job k).map (fun j => (j.volume, j.generation)) =
      (s.job k).map fun j => (j.volume, j.generation)) : CatalogueLaw t := by
  obtain ⟨hlaw, hjob⟩ := catalogueLaw_iff.1 h
  refine catalogueLaw_iff.2 ⟨fun v hv => ?_, fun k hk j hj => ?_⟩
  · rw [State.jobsOn_congr hjobs, State.volume_congr hvolumes]
    exact hlaw v hv
  · have hkey := hjobs k
    rw [hj, Option.map_some] at hkey
    obtain ⟨i, hi, hsame⟩ := Option.map_eq_some_iff.1 hkey.symm
    rw [show j.volume = i.volume from (congrArg Prod.fst hsame).symm]
    exact hjob k hk i hi

theorem CatalogueLaw.of_setJob {s t : State} (h : CatalogueLaw s) {slot : Nat} {j j' : Job}
    (hjob : s.job slot = some j) (hjobs : t.jobs = (s.setJob slot (some j')).jobs) (hvolumes : t.volumes = s.volumes)
    (hsame : (j'.volume, j'.generation) = (j.volume, j.generation)) : CatalogueLaw t := by
  refine h.of_jobs hvolumes fun k => ?_
  have hk : t.job k = (s.setJob slot (some j')).job k := State.job_congr hjobs k
  rw [hk]
  by_cases hks : k = slot
  · subst hks
    rw [State.job_setJob_same s _ (s.job_lt hjob), hjob, Option.map_some, Option.map_some, hsame]
  · rw [State.job_setJob_ne s _ hks]

/-- One volume changes, and no job does. -/
theorem CatalogueLaw.of_volume {s t : State} (h : CatalogueLaw s) {v : Nat} {x : Volume}
    (hvolumes : t.volumes = (s.setVolume v x).volumes) (hjobs : t.jobs = s.jobs)
    (hx : (s.volume v).law (s.jobsOn v) → x.law (s.jobsOn v)) : CatalogueLaw t := by
  obtain ⟨hlaw, hjob⟩ := catalogueLaw_iff.1 h
  have hsame (k : Nat) : t.job k = s.job k := State.job_congr hjobs k
  have hcount : t.jobsOn = s.jobsOn := State.jobsOn_congr fun k => by rw [hsame]
  refine catalogueLaw_iff.2 ⟨fun w hw => ?_, fun k hk j hj => hjob k hk j ((hsame k).symm.trans hj)⟩
  rw [hcount, State.volume_congr hvolumes]
  by_cases hwv : w = v
  · subst hwv
    rw [State.volume_setVolume_same s x hw]
    exact hx (hlaw w hw)
  · rw [State.volume_setVolume_ne s x hwv]
    exact hlaw w hw

/-- A restore starts: its job takes a hold on its snapshot (R112). -/
theorem CatalogueLaw.jobStarts {s t : State} (h : CatalogueLaw s) {slot v generation : Nat} {j : Job}
    (hslot : slot < 8) (hfree : s.job slot = none) (hv : v < 16)
    (hlisted : ((s.volume v).snapshot generation).isSome = true) (hkey : (j.volume, j.generation) = (v, generation))
    (hvolumes : t.volumes = (s.setVolume v ((s.volume v).hold generation)).volumes)
    (hjobs : t.jobs = (s.setJob slot (some j)).jobs) : CatalogueLaw t := by
  obtain ⟨hlaw, hjob⟩ := catalogueLaw_iff.1 h
  obtain ⟨rfl, rfl⟩ := Prod.mk.inj hkey
  have hcount (w g : Nat) : t.jobsOn w g = s.jobsOn w g + if j.names w g then 1 else 0 := by
    have hset := State.jobsOn_setJob hslot hjobs w g
    rw [hfree] at hset
    simpa using hset
  refine catalogueLaw_iff.2 ⟨fun w hw => ?_, fun k hk i hi => ?_⟩
  · rw [State.volume_congr hvolumes]
    by_cases hwv : w = j.volume
    · subst hwv
      rw [State.volume_setVolume_same s _ hw]
      refine (hlaw _ hw).hold hlisted fun g => ?_
      rw [hcount, Job.names_own]
    · rw [State.volume_setVolume_ne s _ hwv]
      have hsame : t.jobsOn w = s.jobsOn w := by
        funext g
        rw [hcount, Job.names_ne hwv]
        rfl
      rw [hsame]
      exact hlaw w hw
  · rw [State.job_congr hjobs] at hi
    by_cases hks : k = slot
    · subst hks
      rw [State.job_setJob_same s _ hk] at hi
      cases hi
      exact hv
    · rw [State.job_setJob_ne s _ hks] at hi
      exact hjob k hk i hi

/-- A restore ends: its hold is released (R117). -/
theorem CatalogueLaw.jobEnds {s t : State} (h : CatalogueLaw s) {slot : Nat} {j : Job} (hj : s.job slot = some j)
    (hvolumes : t.volumes = (s.setVolume j.volume ((s.volume j.volume).release j.generation)).volumes)
    (hjobs : t.jobs = (s.setJob slot none).jobs) : CatalogueLaw t := by
  obtain ⟨hlaw, hjob⟩ := catalogueLaw_iff.1 h
  have hslot := s.job_lt hj
  have hcount (w g : Nat) : s.jobsOn w g = t.jobsOn w g + if j.names w g then 1 else 0 := by
    have hset := State.jobsOn_setJob hslot hjobs w g
    rw [hj] at hset
    simpa using hset.symm
  refine catalogueLaw_iff.2 ⟨fun w hw => ?_, fun k hk i hi => ?_⟩
  · rw [State.volume_congr hvolumes]
    by_cases hwv : w = j.volume
    · subst hwv
      rw [State.volume_setVolume_same s _ hw]
      refine (hlaw _ hw).release fun g => ?_
      rw [hcount, Job.names_own]
    · rw [State.volume_setVolume_ne s _ hwv]
      have hsame : t.jobsOn w = s.jobsOn w := by
        funext g
        rw [hcount, Job.names_ne hwv]
        rfl
      rw [hsame]
      exact hlaw w hw
  · rw [State.job_congr hjobs] at hi
    by_cases hks : k = slot
    · subst hks
      rw [State.job_setJob_same s _ hk] at hi
      cases hi
    · rw [State.job_setJob_ne s _ hks] at hi
      exact hjob k hk i hi

theorem CatalogueLaw.expiryRun {s : State} (h : CatalogueLaw s) : CatalogueLaw s.expiryRun :=
  State.expiryRun_keeps (L := CatalogueLaw) (fun _ _ h => h) (fun _ _ h => h) (fun _ _ _ h => h)
    (fun s v n hn _ h => h.of_volume (v := v) (x := { s.volume v with night := some { n with state := .suspended } })
      rfl rfl fun hlaw => hlaw.of_night hn rfl) h

theorem CatalogueLaw.settled {s : State} (h : CatalogueLaw s) : CatalogueLaw s.settlePrecedence := by
  unfold State.settlePrecedence
  split
  · exact h
  · exact h

theorem CatalogueLaw.reset {s : State} (hvolumes : s.volumes = State.reset.volumes)
    (hjobs : s.jobs = State.reset.jobs) : CatalogueLaw s := by
  have hvolume (v : Nat) (hv : v < 16) : s.volume v = {} := by simp [State.volume, hvolumes, hv, State.reset]
  have hjob (k : Nat) (hk : k < 8) : s.job k = none := by simp [State.job, hjobs, hk, State.reset]
  refine catalogueLaw_iff.2 ⟨fun v hv => ?_, fun k hk j hj => ?_⟩
  · have hcount (g : Nat) : ¬ 0 < s.jobsOn v g := fun hg => by
      obtain ⟨k, hk, j, hj, _⟩ := State.jobsOn_pos.1 hg
      rw [hjob k hk] at hj
      cases hj
    rw [hvolume v hv]
    exact ⟨.nil, nofun, nofun, nofun, fun _ => ⟨rfl, rfl, rfl⟩, fun g hg => absurd hg (hcount g)⟩
  · rw [hjob k hk] at hj
    cases hj

theorem Move.catalogueLaw {k : Tag} {s t : State} (hm : Move k s t) (hs : CatalogueLaw s) : CatalogueLaw t := by
  cases hm with
  | frameReturned => rw [State.returnFrame_frame]; exact hs
  | run => exact hs.expiryRun
  | takeRun => exact hs.expiryRun.settled
  | settle => exact hs.settled
  | heldChunk hjob | chunkLeaves hjob | chunkGranted hjob | heldGranted hjob | job hjob =>
    exact hs.of_setJob hjob rfl rfl rfl
  | jobReturn _ _ hjob | jobExpire _ _ hjob | jobLate _ _ hjob => exact hs.of_setJob hjob rfl rfl rfl
  | departure =>
    refine hs.of_jobs rfl fun k => ?_
    refine (congrArg _ (State.job_departure s k)).trans ?_
    cases s.job k <;> rfl
  | nightReturn _ _ hn | nightExpire _ _ hn | nightIssue hn | night hn | nightResumes hn | nightCloses hn =>
    exact hs.of_volume rfl rfl fun hlaw => hlaw.of_night hn rfl
  | nightOpens hv _ hn hr hlocal hbase hstays =>
    exact hs.of_volume rfl rfl fun hlaw => hlaw.nightOpens hr hlocal hbase hstays hn rfl
  | nightEnds hn => exact hs.of_volume rfl rfl fun hlaw => hlaw.nightEnds hn
  | declare => exact hs.of_volume rfl rfl fun hlaw => hlaw.declare _
  | create hdeclared hnewer => exact hs.of_volume rfl rfl fun hlaw => hlaw.create hdeclared hnewer
  | retireLater hr hbase hstatus hholds =>
    exact hs.of_volume rfl rfl fun hlaw => hlaw.retireLater hr hbase hstatus hholds
  | @retireNow _ v generation r hr hbase hholds =>
    refine hs.of_volume rfl rfl fun hlaw => ?_
    obtain ⟨hcount, _⟩ := Volume.snapshot_generation hr ▸ hlaw.records r (Volume.mem_of_snapshot hr)
    refine hlaw.removed ?_ (fun _ _ => rfl) ?_ hbase
    · omega
    · refine Bool.eq_false_iff.2 fun hn => ?_
      rw [hn, if_pos rfl] at hcount
      omega
  | jobStarts hslot hfree hv _ _ hr =>
    exact hs.jobStarts hslot hfree hv (Option.isSome_of_eq_some hr) rfl rfl rfl
  | jobEnds hjob => exact hs.jobEnds hjob rfl rfl
  | reset => exact .reset rfl rfl
  | _ => exact hs

/-- Settles O59, move by move: holds are counted with the jobs and the night that have them. -/
theorem stepKeepsCatalogueLaw : Obligations.StepKeepsCatalogueLaw := by
  intro s t _ hstep
  exact step_keeps (fun _ _ h => h) Move.catalogueLaw hstep

end Sys2Proof.Machine
end

section
/-! PROOFS. O60: the law of read slots, permits and jobs, restated slot by slot and volume by volume. -/

namespace Sys2Proof.Machine

/-! ### What belongs to a slot and to a volume -/

/-- A permit of a restore slot. -/
def PermitOwner.ofJob (k : Nat) : PermitOwner → Bool
  | .job slot _ => slot == k
  | .night _ _ => false

/-- A permit of a volume's night. -/
def PermitOwner.ofNight (v : Nat) : PermitOwner → Bool
  | .job _ _ => false
  | .night volume _ => volume == v

/-- An expired permit of a restore slot that is still occupied. -/
def ExpiredOwner.ofJob (k : Nat) : ExpiredOwner → Bool
  | .job slot _ => slot == k
  | .formerJob _ | .night _ _ => false

theorem State.jobPermits_eq (s : State) (k : Nat) :
    s.jobPermits k = s.arbiter.permits.filter fun p => p.owner.ofJob k := rfl

theorem State.nightPermits_eq (s : State) (v : Nat) :
    s.nightPermits v = s.arbiter.permits.filter fun p => p.owner.ofNight v := rfl

theorem State.jobExpired_eq (s : State) (k : Nat) :
    s.jobExpired k = s.arbiter.expired.filter fun e => e.owner.ofJob k := rfl

theorem PermitOwner.ofJob_iff {o : PermitOwner} {k : Nat} : o.ofJob k = true ↔ ∃ principal, o = .job k principal := by
  cases o <;> simp [PermitOwner.ofJob]

theorem PermitOwner.ofNight_iff {o : PermitOwner} {v : Nat} :
    o.ofNight v = true ↔ ∃ generation, o = .night v generation := by
  cases o <;> simp [PermitOwner.ofNight]

theorem ExpiredOwner.ofJob_iff {o : ExpiredOwner} {k : Nat} :
    o.ofJob k = true ↔ ∃ principal, o = .job k principal := by
  cases o <;> simp [ExpiredOwner.ofJob]

/-- The books of an occupied slot: its permits, held entry and expired permits are its own, its counts are theirs,
and its charged total covers what it has moved and what is outstanding or expired (R111, R112, R119, R125). -/
structure SlotBook (chunk k : Nat) (listed : Nat → Prop) (j : Job) (permits : List Permit) (held : List HeldEntry)
    (expired : List ExpiredPermit) : Prop where
  owners : ∀ p ∈ permits, p.owner = .job k j.principal
  entries : ∀ e ∈ held, e.amount = chunk ∧ e.principal = j.principal
  expiries : ∀ e ∈ expired, e.owner = .job k j.principal
  permitCount : j.permits = permits.length
  heldCount : held.length = if j.state = .syncWait then 1 else 0
  atMost : j.permits + held.length ≤ 4
  totals : j.moved + (permits.map (·.chunk)).sum + (expired.map (·.chunk)).sum ≤ j.charged
  listed : listed j.principal

/-- The books of a slot; a free one has none. -/
def SlotBooks (chunk k : Nat) (listed : Nat → Prop) (permits : List Permit) (held : List HeldEntry)
    (expired : List ExpiredPermit) : Option Job → Prop
  | none => permits = [] ∧ held = [] ∧ expired = []
  | some j => SlotBook chunk k listed j permits held expired

/-- The books of a volume's night; a volume without a night has none (R123, R131). -/
def NightBooks (v : Nat) (permits : List Permit) : Option Night → Prop
  | none => permits = []
  | some n => (∀ p ∈ permits, p.owner = .night v n.generation) ∧ n.permits = permits.length

/-- The ids of permits and expired permits (R123, R128). -/
structure Arbiter.idLaw (a : Arbiter) : Prop where
  room : a.expired.length ≤ 32
  distinct : (a.permits.map (·.id) ++ a.expired.map (·.id)).Nodup
  bound : ∀ p ∈ a.permits, p.id < 256
  next : a.nextId < 256

/-- The jobs that name a principal (R2). -/
def State.jobsOf (s : State) (id : Nat) : Nat := (List.range 8).countP fun k => (s.job k).any fun j => j.principal == id

/-- A principal of the table. -/
def State.listed (s : State) (id : Nat) : Prop := (s.principal id).isSome = true

/-- The law of read slots, permits and jobs, but for the time before the load. -/
structure SlotLaw (s : State) : Prop where
  config : legalConfig s.config
  slots : s.slotsInUse ≤ s.config.readSlots
  ids : s.arbiter.idLaw
  jobs : ∀ k, SlotBooks s.config.chunk k s.listed (s.jobPermits k) (s.jobHeld k) (s.jobExpired k) (s.job k)
  nights : ∀ v, NightBooks v (s.nightPermits v) (s.volume v).night
  principals : (s.quota.principals.map (·.id)).Nodup
  counts : ∀ p ∈ s.quota.principals, p.restoreJobs = s.jobsOf p.id

theorem State.job_of_le (s : State) {k : Nat} (h : ¬ k < 8) : s.job k = none := by simp [State.job, h]

theorem State.night_of_le (s : State) {v : Nat} (h : ¬ v < 16) : (s.volume v).night = none := by
  simp [State.volume, h]

/-- Everything that names an owner stands in that owner's books. -/
theorem ownersStand_iff {s : State} : s.ownersStand ↔
    (∀ p ∈ s.arbiter.permits,
      (∀ slot principal, p.owner = .job slot principal → ∃ j, s.job slot = some j ∧ j.principal = principal) ∧
      ∀ v generation, p.owner = .night v generation →
        ∃ n, (s.volume v).night = some n ∧ n.generation = generation) ∧
    (∀ e ∈ s.quota.held, ∀ slot, e.origin = .restore slot →
      e.amount = s.config.chunk ∧ ∃ j, s.job slot = some j ∧ j.state = .syncWait ∧ j.principal = e.principal) ∧
    ∀ e ∈ s.arbiter.expired, ∀ slot principal, e.owner = .job slot principal →
      ∃ j, s.job slot = some j ∧ j.principal = principal := by
  unfold State.ownersStand
  refine and_congr (forall₂_congr fun p _ => ?_) (and_congr (forall₂_congr fun e _ => ?_) (forall₂_congr fun e _ => ?_))
  · cases p.owner <;> simp [Option.any_eq_true]
  · cases e.origin <;> simp [Option.any_eq_true]
  · cases e.owner <;> simp [Option.any_eq_true]

theorem slotLaw_iff {s : State} : ReadSlotLaw s ↔ ConfiguringIdle s ∧ SlotLaw s := by
  unfold ReadSlotLaw
  rw [ownersStand_iff]
  constructor
  · rintro ⟨hidle, hconfig, hslots, hroom, hdistinct, hbound, hnext, hids, ⟨hpermits, hheld, hexpired⟩, hjobs, hnights,
      hcounts⟩
    refine ⟨hidle, hconfig, hslots, ⟨hroom, hdistinct, hbound, hnext⟩, fun k => ?_, fun v => ?_, hids, hcounts⟩
    · have owner (p : Permit) (hp : p ∈ s.jobPermits k) : ∃ j, s.job k = some j ∧ p.owner = .job k j.principal := by
        obtain ⟨hp, hof⟩ := List.mem_filter.1 hp
        obtain ⟨principal, ho⟩ := PermitOwner.ofJob_iff.1 hof
        obtain ⟨j, hj, rfl⟩ := (hpermits p hp).1 k principal ho
        exact ⟨j, hj, ho⟩
      have entry (e : HeldEntry) (he : e ∈ s.jobHeld k) :
          e.amount = s.config.chunk ∧ ∃ j, s.job k = some j ∧ e.principal = j.principal := by
        obtain ⟨he, ho⟩ := List.mem_filter.1 he
        obtain ⟨hamount, j, hj, _, hprincipal⟩ := hheld e he k (eq_of_beq ho)
        exact ⟨hamount, j, hj, hprincipal.symm⟩
      have expiry (e : ExpiredPermit) (he : e ∈ s.jobExpired k) :
          ∃ j, s.job k = some j ∧ e.owner = .job k j.principal := by
        obtain ⟨he, hof⟩ := List.mem_filter.1 he
        obtain ⟨principal, ho⟩ := ExpiredOwner.ofJob_iff.1 hof
        obtain ⟨j, hj, rfl⟩ := hexpired e he k principal ho
        exact ⟨j, hj, ho⟩
      cases hj : s.job k with
      | none =>
        refine ⟨List.eq_nil_iff_forall_not_mem.2 fun p hp => ?_, List.eq_nil_iff_forall_not_mem.2 fun e he => ?_,
          List.eq_nil_iff_forall_not_mem.2 fun e he => ?_⟩
        · obtain ⟨j, h, _⟩ := owner p hp
          rw [hj] at h
          cases h
        · obtain ⟨_, j, h, _⟩ := entry e he
          rw [hj] at h
          cases h
        · obtain ⟨j, h, _⟩ := expiry e he
          rw [hj] at h
          cases h
      | some j =>
        have hlaw := hjobs k (s.job_lt hj)
        unfold State.jobLaw at hlaw
        rw [hj] at hlaw
        obtain ⟨hcount, hlength, hmost, htotals, hlisted⟩ := hlaw
        refine ⟨fun p hp => ?_, fun e he => ?_, fun e he => ?_, hcount, hlength, hmost, htotals, hlisted⟩
        · obtain ⟨i, hi, ho⟩ := owner p hp
          rw [hj] at hi
          cases hi
          exact ho
        · obtain ⟨hamount, i, hi, hprincipal⟩ := entry e he
          rw [hj] at hi
          cases hi
          exact ⟨hamount, hprincipal⟩
        · obtain ⟨i, hi, ho⟩ := expiry e he
          rw [hj] at hi
          cases hi
          exact ho
    · have owner (p : Permit) (hp : p ∈ s.nightPermits v) :
          ∃ n, (s.volume v).night = some n ∧ p.owner = .night v n.generation := by
        obtain ⟨hp, hof⟩ := List.mem_filter.1 hp
        obtain ⟨generation, ho⟩ := PermitOwner.ofNight_iff.1 hof
        obtain ⟨n, hn, rfl⟩ := (hpermits p hp).2 v generation ho
        exact ⟨n, hn, ho⟩
      cases hn : (s.volume v).night with
      | none =>
        refine List.eq_nil_iff_forall_not_mem.2 fun p hp => ?_
        obtain ⟨n, h, _⟩ := owner p hp
        rw [hn] at h
        cases h
      | some n =>
        have hv : v < 16 := by
          refine Classical.byContradiction fun hv => ?_
          rw [s.night_of_le hv] at hn
          cases hn
        have hcount := hnights v hv
        rw [hn, Option.all_some, beq_iff_eq] at hcount
        refine ⟨fun p hp => ?_, hcount⟩
        obtain ⟨m, hm, ho⟩ := owner p hp
        rw [hn] at hm
        cases hm
        exact ho
  · rintro ⟨hidle, hconfig, hslots, ⟨hroom, hdistinct, hbound, hnext⟩, hjobs, hnights, hids, hcounts⟩
    refine ⟨hidle, hconfig, hslots, hroom, hdistinct, hbound, hnext, hids, ⟨fun p hp => ⟨fun slot principal ho => ?_,
      fun v generation ho => ?_⟩, fun e he slot ho => ?_, fun e he slot principal ho => ?_⟩, fun k _ => ?_,
      fun v _ => ?_,
      hcounts⟩
    · have hmem : p ∈ s.jobPermits slot := List.mem_filter.2 ⟨hp, PermitOwner.ofJob_iff.2 ⟨principal, ho⟩⟩
      have hbooks := hjobs slot
      cases hj : s.job slot with
      | none =>
        rw [hj] at hbooks
        rw [hbooks.1] at hmem
        cases hmem
      | some j =>
        rw [hj] at hbooks
        have howner := hbooks.owners p hmem
        rw [ho] at howner
        exact ⟨j, rfl, (PermitOwner.job.inj howner).2.symm⟩
    · have hmem : p ∈ s.nightPermits v := List.mem_filter.2 ⟨hp, PermitOwner.ofNight_iff.2 ⟨generation, ho⟩⟩
      have hbooks := hnights v
      cases hn : (s.volume v).night with
      | none =>
        rw [hn] at hbooks
        rw [show s.nightPermits v = [] from hbooks] at hmem
        cases hmem
      | some n =>
        rw [hn] at hbooks
        have howner := hbooks.1 p hmem
        rw [ho] at howner
        exact ⟨n, rfl, (PermitOwner.night.inj howner).2.symm⟩
    · have hmem : e ∈ s.jobHeld slot := List.mem_filter.2 ⟨he, beq_iff_eq.2 ho⟩
      have hbooks := hjobs slot
      cases hj : s.job slot with
      | none =>
        rw [hj] at hbooks
        rw [hbooks.2.1] at hmem
        cases hmem
      | some j =>
        rw [hj] at hbooks
        obtain ⟨hamount, hprincipal⟩ := hbooks.entries e hmem
        refine ⟨hamount, j, rfl, ?_, hprincipal.symm⟩
        refine Classical.byContradiction fun hstate => ?_
        have hlength := hbooks.heldCount
        rw [if_neg hstate, List.length_eq_zero_iff] at hlength
        rw [hlength] at hmem
        cases hmem
    · have hmem : e ∈ s.jobExpired slot := List.mem_filter.2 ⟨he, ExpiredOwner.ofJob_iff.2 ⟨principal, ho⟩⟩
      have hbooks := hjobs slot
      cases hj : s.job slot with
      | none =>
        rw [hj] at hbooks
        rw [hbooks.2.2] at hmem
        cases hmem
      | some j =>
        rw [hj] at hbooks
        have howner := hbooks.expiries e hmem
        rw [ho] at howner
        exact ⟨j, rfl, (ExpiredOwner.job.inj howner).2.symm⟩
    · have hbooks := hjobs k
      unfold State.jobLaw
      cases hj : s.job k with
      | none => trivial
      | some j =>
        rw [hj] at hbooks
        exact ⟨hbooks.permitCount, hbooks.heldCount, hbooks.atMost, hbooks.totals, hbooks.listed⟩
    · have hbooks := hnights v
      rw [Option.all_eq_true]
      intro n hn
      rw [hn] at hbooks
      exact beq_iff_eq.2 hbooks.2

end Sys2Proof.Machine
end

section
/-! PROOFS. O60: what changes of one slot, one night or the principal table make of the law of read slots. -/

namespace Sys2Proof.Machine

/-! ### Permits and held entries -/

/-- A permit without its age. -/
def Permit.ageless (p : Permit) : Permit := { p with age := 0 }

/-- A held entry without its age. -/
def HeldEntry.ageless (e : HeldEntry) : HeldEntry := { e with age := 0 }

theorem Quota.setAside_eq (q : Quota) : q.setAside = (q.held.filter (·.isChunk)).length := by
  rw [← List.countP_eq_length_filter]
  refine List.countP_congr fun e _ => ?_
  unfold HeldEntry.isChunk
  cases e.origin <;> rfl

theorem State.slotsInUse_eq (s : State) :
    s.slotsInUse = s.arbiter.permits.length + (s.quota.held.filter (·.isChunk)).length := by
  rw [State.slotsInUse, Quota.setAside_eq]

/-- The held entry of a job is a RESTORE entry (R28). -/
theorem State.jobHeld_eq (s : State) (k : Nat) :
    s.jobHeld k = (s.quota.held.filter (·.isChunk)).filter fun e => e.origin == .restore k := by
  rw [List.filter_filter]
  refine List.filter_congr fun e _ => ?_
  unfold HeldEntry.isChunk
  cases e.origin <;> simp

theorem HeldEntry.isChunk_of_restore {e : HeldEntry} {slot : Nat} (h : e.origin = .restore slot) :
    e.isChunk = true := by
  simp [HeldEntry.isChunk, h]

theorem State.slot_lt_of_some {s : State} {k : Nat} {j : Job} (h : s.job k = some j) : k < 8 := s.job_lt h

theorem State.volume_lt_of_night {s : State} {v : Nat} {n : Night} (h : (s.volume v).night = some n) : v < 16 := by
  refine Classical.byContradiction fun hv => ?_
  rw [s.night_of_le hv] at h
  cases h

/-- An element that is taken out leaves what is filtered without it. -/
theorem filter_without {α : Type} {l₁ l₂ : List α} {x : α} {f : α → Bool} (h : f x = false) :
    (l₁ ++ l₂).filter f = (l₁ ++ x :: l₂).filter f := by
  simp [List.filter_append, h]

/-- A permit that is taken out by its id leaves the others (R124). -/
theorem Arbiter.idLaw.split {a : Arbiter} (h : a.idLaw) {p : Permit} (hp : p ∈ a.permits) :
    ∃ l₁ l₂, a.permits = l₁ ++ p :: l₂ ∧ (a.permits.filter fun q => q.id ≠ p.id) = l₁ ++ l₂ := by
  obtain ⟨l₁, l₂, hsplit⟩ := List.append_of_mem hp
  have hnodup := (List.nodup_append.1 h.distinct).1
  rw [hsplit, List.map_append, List.map_cons, nodup_append_cons, List.nodup_cons] at hnodup
  have hne (q : Permit) (hq : q ∈ l₁ ++ l₂) : q.id ≠ p.id := fun heq =>
    hnodup.1 (by rw [← List.map_append, ← heq]; exact List.mem_map_of_mem hq)
  refine ⟨l₁, l₂, hsplit, ?_⟩
  rw [hsplit, ← filter_without (x := p) (by simp)]
  exact List.filter_eq_self.2 fun q hq => decide_eq_true (hne q hq)

theorem Arbiter.idLaw.splitExpired {a : Arbiter} (h : a.idLaw) {e : ExpiredPermit} (he : e ∈ a.expired) :
    ∃ l₁ l₂, a.expired = l₁ ++ e :: l₂ ∧ (a.expired.filter fun q => q.id ≠ e.id) = l₁ ++ l₂ := by
  obtain ⟨l₁, l₂, hsplit⟩ := List.append_of_mem he
  have hnodup := (List.nodup_append.1 h.distinct).2.1
  rw [hsplit, List.map_append, List.map_cons, nodup_append_cons, List.nodup_cons] at hnodup
  have hne (q : ExpiredPermit) (hq : q ∈ l₁ ++ l₂) : q.id ≠ e.id := fun heq =>
    hnodup.1 (by rw [← List.map_append, ← heq]; exact List.mem_map_of_mem hq)
  refine ⟨l₁, l₂, hsplit, ?_⟩
  rw [hsplit, ← filter_without (x := e) (by simp)]
  exact List.filter_eq_self.2 fun q hq => decide_eq_true (hne q hq)

theorem Arbiter.idLaw.of_sublist {a b : Arbiter} (h : a.idLaw)
    (hpermits : (b.permits.map Permit.ageless).Sublist (a.permits.map Permit.ageless))
    (hexpired : b.expired.Sublist a.expired) (hnext : b.nextId = a.nextId) : b.idLaw := by
  have hids (l : List Permit) : l.map (·.id) = (l.map Permit.ageless).map (·.id) := by
    rw [List.map_map]; rfl
  refine ⟨Nat.le_trans hexpired.length_le h.room, ?_, fun p hp => ?_, hnext ▸ h.next⟩
  · refine List.Sublist.nodup ?_ h.distinct
    rw [hids, hids a.permits]
    exact (hpermits.map _).append (hexpired.map _)
  · obtain ⟨q, hq, hsame⟩ := List.mem_map.1 (hpermits.subset (List.mem_map_of_mem hp))
    have hid := congrArg Permit.id hsame
    exact (show q.id = p.id from hid) ▸ h.bound q hq

theorem Arbiter.idLaw.withoutPermit {a : Arbiter} (h : a.idLaw) (id : Nat) : (a.withoutPermit id).idLaw :=
  h.of_sublist (List.filter_sublist.map _) (.refl _) rfl

theorem Arbiter.idLaw.withoutExpired {a : Arbiter} (h : a.idLaw) (id : Nat) : (a.withoutExpired id).idLaw :=
  h.of_sublist (.refl _) List.filter_sublist rfl

/-! ### The books of a slot -/

theorem SlotBook.congr {chunk k : Nat} {listed : Nat → Prop} {j : Job} {permits permits' : List Permit}
    {held held' : List HeldEntry} {expired expired' : List ExpiredPermit}
    (h : SlotBook chunk k listed j permits held expired)
    (hpermits : permits'.map Permit.ageless = permits.map Permit.ageless)
    (hheld : held'.map HeldEntry.ageless = held.map HeldEntry.ageless) (hexpired : expired'.Sublist expired) :
    SlotBook chunk k listed j permits' held' expired' := by
  have hpl : permits'.length = permits.length := by simpa using congrArg List.length hpermits
  have hhl : held'.length = held.length := by simpa using congrArg List.length hheld
  have hsum : permits'.map (·.chunk) = permits.map (·.chunk) := by
    have := congrArg (List.map (·.chunk)) hpermits
    rwa [List.map_map, List.map_map] at this
  have hexp : (expired'.map (·.chunk)).sum ≤ (expired.map (·.chunk)).sum :=
    sum_le_of_sublist (hexpired.map _)
  refine ⟨fun p hp => ?_, fun e he => ?_, fun e he => h.expiries e (hexpired.subset he), ?_, ?_, ?_, ?_, h.listed⟩
  · obtain ⟨q, hq, hsame⟩ := List.mem_map.1 (hpermits ▸ List.mem_map_of_mem (f := Permit.ageless) hp)
    rw [← h.owners q hq]
    exact (congrArg Permit.owner hsame).symm
  · obtain ⟨x, hx, hsame⟩ := List.mem_map.1 (hheld ▸ List.mem_map_of_mem (f := HeldEntry.ageless) he)
    obtain ⟨hamount, hprincipal⟩ := h.entries x hx
    exact ⟨(congrArg HeldEntry.amount hsame).symm.trans hamount,
      (congrArg HeldEntry.principal hsame).symm.trans hprincipal⟩
  · rw [h.permitCount, hpl]
  · rw [hhl, h.heldCount]
  · rw [hhl]; exact h.atMost
  · have := h.totals
    rw [hsum]
    omega

theorem SlotBooks.congr {chunk k : Nat} {listed : Nat → Prop} {o : Option Job} {permits permits' : List Permit}
    {held held' : List HeldEntry} {expired expired' : List ExpiredPermit}
    (h : SlotBooks chunk k listed permits held expired o)
    (hpermits : permits'.map Permit.ageless = permits.map Permit.ageless)
    (hheld : held'.map HeldEntry.ageless = held.map HeldEntry.ageless) (hexpired : expired'.Sublist expired) :
    SlotBooks chunk k listed permits' held' expired' o := by
  cases o with
  | none =>
    obtain ⟨rfl, rfl, rfl⟩ := h
    exact ⟨List.map_eq_nil_iff.1 hpermits, List.map_eq_nil_iff.1 hheld, List.sublist_nil.1 hexpired⟩
  | some j => exact SlotBook.congr h hpermits hheld hexpired

theorem SlotBooks.mono {chunk k : Nat} {p q : Nat → Prop} {o : Option Job} {permits : List Permit}
    {held : List HeldEntry} {expired : List ExpiredPermit} (h : SlotBooks chunk k p permits held expired o)
    (hpq : ∀ j, o = some j → p j.principal → q j.principal) : SlotBooks chunk k q permits held expired o := by
  cases o with
  | none => exact h
  | some j =>
    obtain ⟨h1, h2, h3, h4, h5, h6, h7, h8⟩ := h
    exact ⟨h1, h2, h3, h4, h5, h6, h7, hpq j rfl h8⟩

theorem NightBooks.congr {v : Nat} {o : Option Night} {permits permits' : List Permit} (h : NightBooks v permits o)
    (hpermits : permits'.map Permit.ageless = permits.map Permit.ageless) : NightBooks v permits' o := by
  cases o with
  | none =>
    rw [show permits = [] from h, List.map_nil, List.map_eq_nil_iff] at hpermits
    exact hpermits
  | some n =>
    refine ⟨fun p hp => ?_, ?_⟩
    · obtain ⟨q, hq, hsame⟩ := List.mem_map.1 (hpermits ▸ List.mem_map_of_mem (f := Permit.ageless) hp)
      rw [← h.1 q hq]
      exact (congrArg Permit.owner hsame).symm
    · rw [h.2]
      simpa using (congrArg List.length hpermits).symm

theorem filter_owner_ageless (l : List Permit) (f : PermitOwner → Bool) :
    (l.filter fun p => f p.owner).map Permit.ageless = (l.map Permit.ageless).filter fun p => f p.owner := by
  rw [List.filter_map]; rfl

theorem filter_origin_ageless (l : List HeldEntry) (f : HeldOrigin → Bool) :
    (l.filter fun e => f e.origin).map HeldEntry.ageless = (l.map HeldEntry.ageless).filter fun e => f e.origin := by
  rw [List.filter_map]; rfl

/-! ### Changes that the books do not see -/

/-- Ages pass, CHARGE entries come and go, expired permits leave the list: the books stay. -/
theorem SlotLaw.of_views {s t : State} (h : SlotLaw s) (hconfig : t.config = s.config)
    (hpermits : t.arbiter.permits.map Permit.ageless = s.arbiter.permits.map Permit.ageless)
    (hexpired : t.arbiter.expired.Sublist s.arbiter.expired) (hnext : t.arbiter.nextId = s.arbiter.nextId)
    (hheld : (t.quota.held.filter (·.isChunk)).map HeldEntry.ageless =
      (s.quota.held.filter (·.isChunk)).map HeldEntry.ageless)
    (hjobs : t.jobs = s.jobs) (hnights : ∀ v, (t.volume v).night = (s.volume v).night)
    (hprincipals : t.quota.principals = s.quota.principals) : SlotLaw t := by
  have hlisted : t.listed = s.listed := by
    unfold State.listed State.principal Quota.find
    rw [hprincipals]
  have hpl : t.arbiter.permits.length = s.arbiter.permits.length := by simpa using congrArg List.length hpermits
  have hhl : (t.quota.held.filter (·.isChunk)).length = (s.quota.held.filter (·.isChunk)).length := by
    simpa using congrArg List.length hheld
  refine ⟨hconfig ▸ h.config, ?_, h.ids.of_sublist (hpermits ▸ .refl _) hexpired hnext, fun k => ?_, fun v => ?_,
    hprincipals ▸ h.principals, fun p hp => ?_⟩
  · rw [State.slotsInUse_eq, hpl, hhl, ← State.slotsInUse_eq, hconfig]
    exact h.slots
  · rw [hconfig, hlisted, State.job_congr hjobs]
    refine (h.jobs k).congr ?_ ?_ (hexpired.filter _)
    · rw [State.jobPermits_eq, State.jobPermits_eq, filter_owner_ageless, hpermits, ← filter_owner_ageless]
    · rw [State.jobHeld_eq, State.jobHeld_eq, filter_origin_ageless _ (· == .restore k), hheld,
        ← filter_origin_ageless _ (· == .restore k)]
  · rw [hnights]
    refine (h.nights v).congr ?_
    rw [State.nightPermits_eq, State.nightPermits_eq, filter_owner_ageless, hpermits, ← filter_owner_ageless]
  · rw [hprincipals] at hp
    rw [h.counts p hp]
    simp only [State.jobsOf, State.job_congr hjobs]

/-- The principal table changes, and no job's principal leaves it. -/
theorem SlotLaw.of_principals {s t : State} (h : SlotLaw s) (hconfig : t.config = s.config)
    (harbiter : t.arbiter = s.arbiter) (hheld : t.quota.held = s.quota.held) (hjobs : t.jobs = s.jobs)
    (hvolumes : t.volumes = s.volumes) (hids : (t.quota.principals.map (·.id)).Nodup)
    (hlisted : ∀ k j, s.job k = some j → s.listed j.principal → t.listed j.principal)
    (hcounts : ∀ p ∈ t.quota.principals, p.restoreJobs = s.jobsOf p.id) : SlotLaw t := by
  have hpermits (k : Nat) : t.jobPermits k = s.jobPermits k := by simp only [State.jobPermits_eq, harbiter]
  have hexpired (k : Nat) : t.jobExpired k = s.jobExpired k := by simp only [State.jobExpired_eq, harbiter]
  have hentries (k : Nat) : t.jobHeld k = s.jobHeld k := by simp only [State.jobHeld, hheld]
  have hnight (v : Nat) : t.nightPermits v = s.nightPermits v := by simp only [State.nightPermits_eq, harbiter]
  refine ⟨hconfig ▸ h.config, ?_, harbiter ▸ h.ids, fun k => ?_, fun v => ?_, hids, fun p hp => ?_⟩
  · rw [State.slotsInUse_eq, harbiter, hheld, ← State.slotsInUse_eq, hconfig]
    exact h.slots
  · rw [hconfig, hpermits, hexpired, hentries, State.job_congr hjobs]
    exact (h.jobs k).mono fun j hj => hlisted k j hj
  · rw [hnight, State.volume_congr hvolumes]
    exact h.nights v
  · rw [hcounts p hp]
    simp only [State.jobsOf, State.job_congr hjobs]

/-- Records change, but neither ids nor job counts. -/
theorem SlotLaw.of_update {s t : State} (h : SlotLaw s) (hconfig : t.config = s.config)
    (harbiter : t.arbiter = s.arbiter) (hheld : t.quota.held = s.quota.held) (hjobs : t.jobs = s.jobs)
    (hvolumes : t.volumes = s.volumes) {id : Nat} {f : Principal → Principal}
    (hquota : t.quota.principals = (s.quota.update id f).principals)
    (hf : ∀ p ∈ s.quota.principals, p.id = id → (f p).id = p.id ∧ (f p).restoreJobs = p.restoreJobs) : SlotLaw t := by
  have hid (x : Principal) (hx : x ∈ s.quota.principals) : (x.replacedBy id f).id = x.id :=
    Principal.replacedBy_id fun hid => (hf x hx hid).1
  refine h.of_principals hconfig harbiter hheld hjobs hvolumes ?_ (fun k j _ hl => ?_) fun p hp => ?_
  · have hsame : t.quota.principals.map (·.id) = s.quota.principals.map (·.id) := by
      rw [hquota, Quota.update_principals, List.map_map]
      exact List.map_congr_left hid
    rw [hsame]
    exact h.principals
  · obtain ⟨p, hp, hpid⟩ := State.isSome_principal_iff.1 hl
    refine State.isSome_principal_iff.2 ⟨p.replacedBy id f, ?_, (hid p hp).trans hpid⟩
    rw [hquota]
    exact List.mem_map_of_mem hp
  · rw [hquota] at hp
    obtain ⟨x, hx, rfl⟩ := List.mem_map.1 hp
    rw [show (if x.id = id then f x else x).id = x.id from hid x hx, ← h.counts x hx]
    split
    · rename_i hxid; exact (hf x hx hxid).2
    · rfl

theorem SlotLaw.of_record {s : State} (h : SlotLaw s) {p r : Principal} (hp : s.principal r.id = some p)
    (hr : r.restoreJobs = p.restoreJobs) : SlotLaw (s.record r) :=
  h.of_update (id := r.id) (f := fun _ => r.maintained s.clock.minute) rfl rfl rfl rfl rfl rfl fun x hx hid =>
    ⟨hid.symm, hr.trans (by rw [State.eq_of_principal h.principals hp hx hid])⟩

/-! ### Changes of one slot -/

theorem State.jobsOf_congr {s t : State} (h : ∀ k, (t.job k).map (·.principal) = (s.job k).map (·.principal))
    (id : Nat) : t.jobsOf id = s.jobsOf id := by
  have hany (o : Option Job) : (o.any fun j => j.principal == id) = (o.map (·.principal)).any (· == id) := by
    cases o <;> rfl
  refine List.countP_congr fun k _ => ?_
  rw [hany, hany, h]

theorem SlotLaw.of_slot {s t : State} (h : SlotLaw s) {slot : Nat} {j j' : Job} (hj : s.job slot = some j)
    (hjobs : t.jobs = (s.setJob slot (some j')).jobs) (hprincipal : j'.principal = j.principal)
    (hconfig : t.config = s.config) (hprincipals : t.quota.principals = s.quota.principals)
    (hvolumes : t.volumes = s.volumes) (hslots : t.slotsInUse ≤ s.config.readSlots) (hids : t.arbiter.idLaw)
    (hothers : ∀ k ≠ slot, t.jobPermits k = s.jobPermits k ∧ t.jobHeld k = s.jobHeld k ∧
      t.jobExpired k = s.jobExpired k)
    (hnights : ∀ v, t.nightPermits v = s.nightPermits v)
    (hbook : SlotBook s.config.chunk slot s.listed j (s.jobPermits slot) (s.jobHeld slot) (s.jobExpired slot) →
      SlotBook s.config.chunk slot s.listed j' (t.jobPermits slot) (t.jobHeld slot) (t.jobExpired slot)) :
    SlotLaw t := by
  have hlisted : t.listed = s.listed := by
    unfold State.listed State.principal Quota.find
    rw [hprincipals]
  have hslot := s.job_lt hj
  have hsame : t.job slot = some j' := (State.job_congr hjobs slot).trans (State.job_setJob_same s _ hslot)
  have hother (k : Nat) (hk : k ≠ slot) : t.job k = s.job k :=
    (State.job_congr hjobs k).trans (State.job_setJob_ne s _ hk)
  refine ⟨hconfig ▸ h.config, hconfig ▸ hslots, hids, fun k => ?_, fun v => ?_, hprincipals ▸ h.principals,
    fun p hp => ?_⟩
  · rw [hconfig, hlisted]
    by_cases hk : k = slot
    · subst hk
      have hbefore := h.jobs k
      rw [hj] at hbefore
      rw [hsame]
      exact hbook hbefore
    · obtain ⟨hP, hH, hE⟩ := hothers k hk
      rw [hother k hk, hP, hH, hE]
      exact h.jobs k
  · rw [hnights, State.volume_congr hvolumes]
    exact h.nights v
  · rw [hprincipals] at hp
    rw [h.counts p hp]
    refine (State.jobsOf_congr (fun k => ?_) p.id).symm
    by_cases hk : k = slot
    · subst hk
      rw [hsame, hj, Option.map_some, Option.map_some, hprincipal]
    · rw [hother k hk]

/-- A permit of a job is no permit of another slot or of a night. -/
theorem PermitOwner.ofJob_ne {slot principal k : Nat} (h : k ≠ slot) :
    (PermitOwner.job slot principal).ofJob k = false := beq_false_of_ne (Ne.symm h)

theorem PermitOwner.ofNight_ne {volume generation v : Nat} (h : v ≠ volume) :
    (PermitOwner.night volume generation).ofNight v = false := beq_false_of_ne (Ne.symm h)

theorem PermitOwner.ofJob_self (slot principal : Nat) : (PermitOwner.job slot principal).ofJob slot = true :=
  beq_self_eq_true slot

theorem PermitOwner.ofNight_self (volume generation : Nat) :
    (PermitOwner.night volume generation).ofNight volume = true := beq_self_eq_true volume

/-! ### Changes of one night -/

theorem SlotLaw.of_night {s t : State} (h : SlotLaw s) {v : Nat} (hv : v < 16) {x : Volume}
    (hvolumes : t.volumes = (s.setVolume v x).volumes) (hconfig : t.config = s.config)
    (hquota : t.quota = s.quota) (hjobs : t.jobs = s.jobs) (hslots : t.slotsInUse ≤ s.config.readSlots)
    (hids : t.arbiter.idLaw) (hP : ∀ k, t.jobPermits k = s.jobPermits k) (hE : ∀ k, t.jobExpired k = s.jobExpired k)
    (hothers : ∀ w ≠ v, t.nightPermits w = s.nightPermits w)
    (hbook : NightBooks v (s.nightPermits v) (s.volume v).night → NightBooks v (t.nightPermits v) x.night) :
    SlotLaw t := by
  have hlisted : t.listed = s.listed := by
    unfold State.listed State.principal
    rw [hquota]
  have hheld (k : Nat) : t.jobHeld k = s.jobHeld k := by simp only [State.jobHeld, hquota]
  refine ⟨hconfig ▸ h.config, hconfig ▸ hslots, hids, fun k => ?_, fun w => ?_, hquota ▸ h.principals, fun p hp => ?_⟩
  · rw [hconfig, hlisted, hP, hE, hheld, State.job_congr hjobs]
    exact h.jobs k
  · rw [State.volume_congr hvolumes]
    by_cases hw : w = v
    · subst hw
      rw [State.volume_setVolume_same s x hv]
      exact hbook (h.nights w)
    · rw [State.volume_setVolume_ne s x hw, hothers w hw]
      exact h.nights w
  · rw [hquota] at hp
    rw [h.counts p hp]
    simp only [State.jobsOf, State.job_congr hjobs]

/-- The night's state, dawn or backlog changes alone. -/
theorem SlotLaw.of_nightState {s t : State} (h : SlotLaw s) {v : Nat} {x : Volume} {n m : Night}
    (hn : (s.volume v).night = some n) (hvolumes : t.volumes = (s.setVolume v x).volumes)
    (hconfig : t.config = s.config) (hquota : t.quota = s.quota) (hjobs : t.jobs = s.jobs)
    (harbiter : t.arbiter = s.arbiter) (hm : x.night = some m) (hgeneration : m.generation = n.generation)
    (hpermits : m.permits = n.permits) : SlotLaw t := by
  refine h.of_night (State.volume_lt_of_night hn) hvolumes hconfig hquota hjobs ?_ (harbiter ▸ h.ids) (fun k => ?_)
    (fun k => ?_) (fun w _ => ?_) fun hbook => ?_
  · rw [State.slotsInUse, harbiter, hquota]
    exact h.slots
  · simp only [State.jobPermits_eq, harbiter]
  · simp only [State.jobExpired_eq, harbiter]
  · simp only [State.nightPermits_eq, harbiter]
  · rw [show t.nightPermits v = s.nightPermits v by simp only [State.nightPermits_eq, harbiter], hm]
    rw [hn] at hbook
    exact ⟨fun p hp => by rw [hgeneration]; exact hbook.1 p hp, hpermits.trans hbook.2⟩

theorem State.night_setVolume {s : State} {v : Nat} {x : Volume} (h : x.night = (s.volume v).night) (w : Nat) :
    ((s.setVolume v x).volume w).night = (s.volume w).night := by
  by_cases hw : w = v
  · subst hw
    by_cases hv : w < 16
    · rw [State.volume_setVolume_same s x hv, h]
    · rw [State.night_of_le _ hv, State.night_of_le _ hv]
  · rw [State.volume_setVolume_ne s x hw]

end Sys2Proof.Machine
end

section
/-! PROOFS. O60: the moves of jobs, permits and nights keep the law of read slots. -/

namespace Sys2Proof.Machine

/-! ### A permit is issued, returned or reclaimed -/

theorem State.jobPermits_added {s t : State} {q : Permit} (h : t.arbiter.permits = s.arbiter.permits ++ [q]) (k : Nat) :
    t.jobPermits k = s.jobPermits k ++ if q.owner.ofJob k then [q] else [] := by
  rw [State.jobPermits_eq, State.jobPermits_eq, h, List.filter_append]
  congr 1
  by_cases hq : q.owner.ofJob k = true <;> simp [hq]

theorem State.nightPermits_added {s t : State} {q : Permit} (h : t.arbiter.permits = s.arbiter.permits ++ [q])
    (v : Nat) : t.nightPermits v = s.nightPermits v ++ if q.owner.ofNight v then [q] else [] := by
  rw [State.nightPermits_eq, State.nightPermits_eq, h, List.filter_append]
  congr 1
  by_cases hq : q.owner.ofNight v = true <;> simp [hq]

/-- A permit that is issued to a job is that job's alone. -/
theorem State.permits_issued {s t : State} {slot principal : Nat}
    (h : t.arbiter.permits = s.arbiter.permits ++ [s.nextPermit (.job slot principal)]) :
    t.jobPermits slot = s.jobPermits slot ++ [s.nextPermit (.job slot principal)] ∧
    (∀ k ≠ slot, t.jobPermits k = s.jobPermits k) ∧ ∀ v, t.nightPermits v = s.nightPermits v := by
  have hself : (s.nextPermit (.job slot principal)).owner.ofJob slot = true := PermitOwner.ofJob_self _ _
  refine ⟨?_, fun k hk => ?_, fun v => ?_⟩
  · rw [State.jobPermits_added h, if_pos hself]
  · have hne : (s.nextPermit (.job slot principal)).owner.ofJob k = false := PermitOwner.ofJob_ne hk
    rw [State.jobPermits_added h, hne, if_neg nofun, List.append_nil]
  · exact (State.nightPermits_added h v).trans (List.append_nil _)

/-- The permits without one of them. -/
structure Removes (s t : State) (p : Permit) (before after : List Permit) : Prop where
  from_ : s.arbiter.permits = before ++ p :: after
  to_ : t.arbiter.permits = before ++ after

theorem Removes.jobPermits_ne {s t : State} {p : Permit} {l₁ l₂ : List Permit} (h : Removes s t p l₁ l₂) {k : Nat}
    (hk : p.owner.ofJob k = false) : t.jobPermits k = s.jobPermits k := by
  rw [State.jobPermits_eq, State.jobPermits_eq, h.from_, h.to_]
  exact filter_without hk

theorem Removes.nightPermits_ne {s t : State} {p : Permit} {l₁ l₂ : List Permit} (h : Removes s t p l₁ l₂) {v : Nat}
    (hv : p.owner.ofNight v = false) : t.nightPermits v = s.nightPermits v := by
  rw [State.nightPermits_eq, State.nightPermits_eq, h.from_, h.to_]
  exact filter_without hv

theorem Removes.length {s t : State} {p : Permit} {l₁ l₂ : List Permit} (h : Removes s t p l₁ l₂) :
    s.arbiter.permits.length = t.arbiter.permits.length + 1 := by
  rw [h.from_, h.to_, List.length_append, List.length_append, List.length_cons]
  omega

/-- The owner's permits are one fewer, and the chunk of the one is no longer outstanding. -/
theorem Removes.jobPermits {s t : State} {p : Permit} {l₁ l₂ : List Permit} (h : Removes s t p l₁ l₂) {k : Nat}
    (hk : p.owner.ofJob k = true) :
    (t.jobPermits k).Sublist (s.jobPermits k) ∧ (s.jobPermits k).length = (t.jobPermits k).length + 1 ∧
    ((s.jobPermits k).map (·.chunk)).sum = ((t.jobPermits k).map (·.chunk)).sum + p.chunk := by
  rw [State.jobPermits_eq, State.jobPermits_eq, h.from_, h.to_]
  simp only [List.filter_append, List.filter_cons, hk, if_true]
  refine ⟨(List.sublist_cons_self _ _).append_left _, ?_, ?_⟩
  · simp only [List.length_append, List.length_cons]
    omega
  · simp only [List.map_append, List.map_cons, List.sum_append, List.sum_cons]
    omega

theorem Removes.nightPermits {s t : State} {p : Permit} {l₁ l₂ : List Permit} (h : Removes s t p l₁ l₂) {v : Nat}
    (hv : p.owner.ofNight v = true) :
    (t.nightPermits v).Sublist (s.nightPermits v) ∧ (s.nightPermits v).length = (t.nightPermits v).length + 1 := by
  rw [State.nightPermits_eq, State.nightPermits_eq, h.from_, h.to_]
  simp only [List.filter_append, List.filter_cons, hv, if_true]
  refine ⟨(List.sublist_cons_self _ _).append_left _, ?_⟩
  simp only [List.length_append, List.length_cons]
  omega

/-- A chosen id is free (R123). -/
theorem Arbiter.idLaw.issued {s : State} (h : s.arbiter.idLaw) (hconfig : legalConfig s.config)
    (hslots : s.arbiter.permits.length ≤ s.config.readSlots) (owner : PermitOwner) : (s.issued owner).idLaw := by
  have hread : s.config.readSlots ≤ 32 := by
    unfold legalConfig at hconfig
    omega
  have hroom := h.room
  obtain ⟨k, _, hid, hfree, _⟩ := Arbiter.chooseId_firstFrom (a := s.arbiter) (by omega)
  obtain ⟨hpermits, hexpired⟩ := Arbiter.idFree_iff.1 hfree
  have hlt : s.arbiter.chooseId < 256 := hid ▸ Nat.mod_lt _ (by decide)
  refine ⟨h.room, ?_, fun p hp => ?_, Nat.mod_lt _ (by decide)⟩
  · have hperm : ((s.issued owner).permits.map (·.id) ++ s.arbiter.expired.map (·.id)).Perm
        (s.arbiter.chooseId :: (s.arbiter.permits.map (·.id) ++ s.arbiter.expired.map (·.id))) := by
      simp only [State.issued, State.nextPermit, List.map_append, List.map_cons, List.map_nil, List.append_assoc,
        List.singleton_append]
      exact List.perm_middle
    refine hperm.nodup_iff.2 (List.nodup_cons.2 ⟨fun hmem => ?_, h.distinct⟩)
    rcases List.mem_append.1 hmem with hmem | hmem
    · obtain ⟨p, hp, heq⟩ := List.mem_map.1 hmem
      exact hpermits p hp heq
    · obtain ⟨e, he, heq⟩ := List.mem_map.1 hmem
      exact hexpired e he heq
  · rcases List.mem_append.1 hp with hp | hp
    · exact h.bound p hp
    · rw [List.mem_singleton.1 hp]
      exact hlt

theorem SlotBook.held_nil {chunk k : Nat} {listed : Nat → Prop} {j : Job} {permits : List Permit}
    {held : List HeldEntry} {expired : List ExpiredPermit} (h : SlotBook chunk k listed j permits held expired)
    (hstate : j.state ≠ .syncWait) : held = [] := by
  have hlength := h.heldCount
  rwa [if_neg hstate, List.length_eq_zero_iff] at hlength

theorem SlotBook.syncWait_of_mem {chunk k : Nat} {listed : Nat → Prop} {j : Job} {permits : List Permit}
    {held : List HeldEntry} {expired : List ExpiredPermit} (h : SlotBook chunk k listed j permits held expired)
    {e : HeldEntry} (he : e ∈ held) : j.state = .syncWait := by
  refine Classical.byContradiction fun hstate => ?_
  rw [h.held_nil hstate] at he
  cases he

theorem SlotLaw.book {s : State} (h : SlotLaw s) {slot : Nat} {j : Job} (hj : s.job slot = some j) :
    SlotBook s.config.chunk slot s.listed j (s.jobPermits slot) (s.jobHeld slot) (s.jobExpired slot) := by
  have hbooks := h.jobs slot
  rwa [hj] at hbooks

/-- The held list without one RESTORE entry. -/
theorem held_without {s t : State} {slot : Nat} {l₁ l₂ : List HeldEntry} {e : HeldEntry}
    (hheld : s.quota.held = l₁ ++ e :: l₂) (ht : t.quota.held = l₁ ++ l₂) (ho : e.origin = .restore slot) :
    (∀ k ≠ slot, t.jobHeld k = s.jobHeld k) ∧ (s.jobHeld slot).length = (t.jobHeld slot).length + 1 ∧
    e ∈ s.jobHeld slot ∧
    (s.quota.held.filter (·.isChunk)).length = (t.quota.held.filter (·.isChunk)).length + 1 := by
  have hchunk := HeldEntry.isChunk_of_restore ho
  refine ⟨fun k hk => ?_, ?_, ?_, ?_⟩
  · simp only [State.jobHeld, hheld, ht]
    refine filter_without ?_
    rw [ho]
    simpa using Ne.symm hk
  · simp only [State.jobHeld, hheld, ht, List.filter_append, List.filter_cons, ho, beq_self_eq_true, if_true,
      List.length_append, List.length_cons]
    omega
  · simp [State.jobHeld, hheld, ho]
  · simp only [hheld, ht, List.filter_append, List.filter_cons, hchunk, if_true, List.length_append, List.length_cons]
    omega

theorem jobHeld_empty_of_without {s t : State} (h : SlotLaw s) {slot : Nat} {j : Job} (hj : s.job slot = some j)
    {l₁ l₂ : List HeldEntry} {e : HeldEntry} (hheld : s.quota.held = l₁ ++ e :: l₂)
    (ht : t.quota.held = l₁ ++ l₂) (ho : e.origin = .restore slot) : t.jobHeld slot = [] := by
  obtain ⟨_, hlength, hmem, _⟩ := held_without hheld ht ho
  have hbook := h.book hj
  have hcount := hbook.heldCount
  rw [if_pos (hbook.syncWait_of_mem hmem), hlength] at hcount
  exact List.length_eq_zero_iff.1 (Nat.succ.inj hcount)

/-! ### The moves of a job -/

/-- A job moves between states other than SYNC-WAIT, or its deferred marker changes (R112, R118). -/
theorem SlotLaw.job {s : State} (h : SlotLaw s) {slot : Nat} {j : Job} {state : JobState} {deferred : Bool}
    (hj : s.job slot = some j) (hfrom : j.state ≠ .syncWait) (hto : state ≠ .syncWait) :
    SlotLaw (s.setJob slot (some { j with state := state, deferred := deferred })) := by
  refine h.of_slot hj rfl rfl rfl rfl rfl h.slots h.ids (fun _ _ => ⟨rfl, rfl, rfl⟩) (fun _ => rfl) fun hbook => ?_
  obtain ⟨h1, h2, h3, h4, h5, h6, h7, h8⟩ := hbook
  rw [if_neg hfrom] at h5
  exact ⟨h1, h2, h3, h4, by rw [if_neg hto]; exact h5, h6, h7, h8⟩

theorem SlotLaw.departure {s : State} (h : SlotLaw s) :
    SlotLaw { s with jobs := s.jobs.map fun j => j.map fun j => { j with deferred := false } } := by
  have hjob (k : Nat) := State.job_departure s k
  refine ⟨h.config, h.slots, h.ids, fun k => ?_, h.nights, h.principals, fun p hp => ?_⟩
  · show SlotBooks _ k s.listed (s.jobPermits k) (s.jobHeld k) (s.jobExpired k) (s.departure.job k)
    have hbooks := h.jobs k
    rw [hjob]
    cases hj : s.job k with
    | none => rw [hj] at hbooks; exact hbooks
    | some j =>
      rw [hj] at hbooks
      obtain ⟨h1, h2, h3, h4, h5, h6, h7, h8⟩ := hbooks
      exact ⟨h1, h2, h3, h4, h5, h6, h7, h8⟩
  · rw [h.counts p hp]
    refine (State.jobsOf_congr (fun k => ?_) p.id).symm
    refine (congrArg _ (hjob k)).trans ?_
    cases s.job k <;> rfl

/-- A chunk is held (R40). -/
theorem SlotLaw.heldChunk {s : State} (h : SlotLaw s) {slot : Nat} {j : Job} (hj : s.job slot = some j)
    (hwaits : j.waiting = true) (hslots : s.slotsInUse < s.config.readSlots) :
    SlotLaw ((s.withHeld (s.quota.held ++
      [{ origin := .restore slot, principal := j.principal, amount := s.config.chunk }])).setJob slot
        (some { j with state := .syncWait })) := by
  obtain ⟨hrunning, hfew, _⟩ := Job.waiting_iff.1 hwaits
  rw [State.slotsInUse_eq] at hslots
  refine h.of_slot hj rfl rfl rfl rfl rfl ?_ h.ids (fun k hk => ⟨rfl, ?_, rfl⟩) (fun _ => rfl) fun hbook => ?_
  · rw [State.slotsInUse_eq]
    show s.arbiter.permits.length + ((s.quota.held ++ [_]).filter fun e : HeldEntry => e.isChunk).length ≤ _
    rw [List.filter_append, List.length_append]
    exact hslots
  · simp only [State.jobHeld, State.withHeld, State.setJob, List.filter_append]
    simp [Ne.symm hk]
  · have hnil := hbook.held_nil (by rw [hrunning]; nofun)
    obtain ⟨h1, _, h3, h4, _, _, h7, h8⟩ := hbook
    have hone : State.jobHeld ((s.withHeld (s.quota.held ++
        [{ origin := .restore slot, principal := j.principal, amount := s.config.chunk }])).setJob slot
          (some { j with state := .syncWait })) slot =
        [{ origin := .restore slot, principal := j.principal, amount := s.config.chunk }] := by
      have happend : State.jobHeld ((s.withHeld (s.quota.held ++
        [{ origin := .restore slot, principal := j.principal, amount := s.config.chunk }])).setJob slot
          (some { j with state := .syncWait })) slot = s.jobHeld slot ++
        [{ origin := .restore slot, principal := j.principal, amount := s.config.chunk }] := by
        simp [State.jobHeld, State.withHeld, State.setJob, List.filter_append]
      rw [happend, hnil, List.nil_append]
    rw [hone]
    refine ⟨h1, fun e he => ?_, h3, h4, rfl, Nat.succ_le_of_lt hfew, h7, h8⟩
    rw [List.mem_singleton.1 he]
    exact ⟨rfl, rfl⟩

/-- A held chunk leaves the list (R40, R115). -/
theorem SlotLaw.chunkLeaves {s : State} (h : SlotLaw s) {slot : Nat} {j : Job} {held : List HeldEntry}
    {state : JobState} {deferred : Bool} (hj : s.job slot = some j) (hstate : state ≠ .syncWait)
    (hheld : (∃ l₁ e l₂, s.quota.held = l₁ ++ e :: l₂ ∧ e.origin = .restore slot ∧ held = l₁ ++ l₂) ∨
      (j.state = .syncWait ∧ held = s.quota.held.filter fun e => e.origin ≠ .restore slot)) :
    SlotLaw ((s.withHeld held).setJob slot (some { j with state := state, deferred := deferred })) := by
  let t := (s.withHeld held).setJob slot (some { j with state := state, deferred := deferred })
  have hkept : held.Sublist s.quota.held ∧ (∀ k ≠ slot, t.jobHeld k = s.jobHeld k) ∧ t.jobHeld slot = [] := by
    rcases hheld with ⟨l₁, e, l₂, hsplit, ho, rfl⟩ | ⟨_, rfl⟩
    · obtain ⟨hne, _⟩ := held_without (t := t) hsplit rfl ho
      refine ⟨?_, hne, jobHeld_empty_of_without (t := t) h hj hsplit rfl ho⟩
      rw [hsplit]
      exact (List.sublist_cons_self _ _).append_left _
    · refine ⟨List.filter_sublist, fun k hk => ?_, ?_⟩
      · show (s.quota.held.filter fun e => e.origin ≠ .restore slot).filter (fun e => e.origin == .restore k) = _
        rw [List.filter_filter]
        refine List.filter_congr fun e _ => ?_
        by_cases ho : e.origin = .restore k
        · simp [ho, hk]
        · simp [ho]
      · show (s.quota.held.filter fun e => e.origin ≠ .restore slot).filter (fun e => e.origin == .restore slot) = []
        refine List.filter_eq_nil_iff.2 fun e he => ?_
        simpa using (List.mem_filter.1 he).2
  obtain ⟨hsub, hne, hnil⟩ := hkept
  refine h.of_slot hj rfl rfl rfl rfl rfl ?_ h.ids (fun k hk => ⟨rfl, hne k hk, rfl⟩) (fun _ => rfl) fun hbook => ?_
  · have hbefore := h.slots
    have hlength := (hsub.filter (·.isChunk)).length_le
    rw [State.slotsInUse_eq] at hbefore ⊢
    exact Nat.le_trans (Nat.add_le_add_left hlength _) hbefore
  · obtain ⟨h1, _, h3, h4, _, h6, h7, h8⟩ := hbook
    show SlotBook _ _ _ _ _ (t.jobHeld slot) _
    rw [hnil]
    exact ⟨h1, nofun, h3, h4, by rw [if_neg hstate]; rfl, Nat.le_trans (Nat.le_add_right _ _) h6, h7, h8⟩

/-- The books of a job to which a chunk has been granted with a permit (R40). -/
theorem SlotBook.granted {chunk k : Nat} {listed : Nat → Prop} {j : Job} {permits : List Permit}
    {held : List HeldEntry} {expired : List ExpiredPermit} (h : SlotBook chunk k listed j permits held expired)
    (hroom : j.permits < 4) {p : Permit} (howner : p.owner = .job k j.principal) :
    SlotBook chunk k listed (j.grantedChunk p.chunk) (permits ++ [p]) [] expired := by
  obtain ⟨h1, _, h3, h4, _, _, h7, h8⟩ := h
  refine ⟨fun q hq => ?_, nofun, h3, ?_, rfl, Nat.succ_le_of_lt hroom, ?_, h8⟩
  · rcases List.mem_append.1 hq with hq | hq
    · exact h1 q hq
    · rw [List.mem_singleton.1 hq]; exact howner
  · rw [List.length_append, ← h4]; rfl
  · simp only [Job.grantedChunk, List.map_append, List.sum_append, List.map_cons, List.map_nil, List.sum_cons,
      List.sum_nil]
    omega

/-- A chunk is granted to a waiting job (R40, R121, R123). -/
theorem SlotLaw.chunkGranted {s : State} (h : SlotLaw s) {slot : Nat} {j : Job} (hj : s.job slot = some j)
    (hwaits : j.waiting = true) (hslots : s.slotsInUse < s.config.readSlots) :
    SlotLaw { s.setJob slot (some (j.grantedChunk s.config.chunk)) with
      arbiter := s.issued (.job slot j.principal) } := by
  obtain ⟨hrunning, hfew, _⟩ := Job.waiting_iff.1 hwaits
  let t : State := { s.setJob slot (some (j.grantedChunk s.config.chunk)) with
    arbiter := s.issued (.job slot j.principal) }
  obtain ⟨hself, hothers, hnight⟩ := State.permits_issued (s := s) (t := t) rfl
  rw [State.slotsInUse_eq] at hslots
  refine h.of_slot hj rfl rfl rfl rfl rfl ?_ (h.ids.issued h.config (by omega) _) (fun k hk => ⟨hothers k hk, rfl, rfl⟩)
    hnight fun hbook => ?_
  · rw [State.slotsInUse_eq]
    have hissued : t.arbiter.permits.length = s.arbiter.permits.length + 1 := List.length_append
    show t.arbiter.permits.length + (s.quota.held.filter (·.isChunk)).length ≤ _
    omega
  · have hnil := hbook.held_nil (by rw [hrunning]; nofun)
    show SlotBook _ _ _ _ (t.jobPermits slot) (s.jobHeld slot) _
    rw [hself, hnil]
    exact hbook.granted (p := s.nextPermit (.job slot j.principal)) hfew rfl

/-- A held chunk is granted at sync (R31, R40). -/
theorem SlotLaw.heldGranted {s : State} (h : SlotLaw s) {slot : Nat} {j : Job} {l₁ l₂ : List HeldEntry}
    {e : HeldEntry} (hj : s.job slot = some j) (hheld : s.quota.held = l₁ ++ e :: l₂)
    (ho : e.origin = .restore slot) :
    SlotLaw { (s.withHeld (l₁ ++ l₂)).setJob slot (some (j.grantedChunk e.amount)) with
      arbiter := s.issued (.job slot j.principal) } := by
  let t : State := { (s.withHeld (l₁ ++ l₂)).setJob slot (some (j.grantedChunk e.amount)) with
    arbiter := s.issued (.job slot j.principal) }
  obtain ⟨hne, hlength, hmem, hchunks⟩ := held_without (t := t) hheld rfl ho
  have hnil := jobHeld_empty_of_without (t := t) h hj hheld rfl ho
  obtain ⟨hself, hothers, hnight⟩ := State.permits_issued (s := s) (t := t) rfl
  have hslots := h.slots
  rw [State.slotsInUse_eq, hchunks] at hslots
  refine h.of_slot hj rfl rfl rfl rfl rfl ?_ (h.ids.issued h.config (by omega) _)
    (fun k hk => ⟨hothers k hk, hne k hk, rfl⟩) hnight fun hbook => ?_
  · rw [State.slotsInUse_eq]
    have hissued : t.arbiter.permits.length = s.arbiter.permits.length + 1 := List.length_append
    show t.arbiter.permits.length + (t.quota.held.filter (·.isChunk)).length ≤ _
    omega
  · have hfew : j.permits < 4 := by
      have := hbook.atMost
      omega
    show SlotBook _ _ _ _ (t.jobPermits slot) (t.jobHeld slot) _
    rw [hself, hnil, (hbook.entries e hmem).1]
    exact hbook.granted (p := s.nextPermit (.job slot j.principal)) hfew rfl

/-- A permit of a job is returned with a moved count (R125). -/
theorem SlotLaw.jobReturn {s : State} (h : SlotLaw s) {p : Permit} {slot principal moved : Nat} {j : Job}
    (hp : p ∈ s.arbiter.permits) (howner : p.owner = .job slot principal) (hj : s.job slot = some j)
    (hmoved : moved ≤ p.chunk) :
    SlotLaw { s.setJob slot (some { j.returned p.chunk moved with permits := j.permits - 1 }) with
      arbiter := s.arbiter.withoutPermit p.id } := by
  let t : State := { s.setJob slot (some { j.returned p.chunk moved with permits := j.permits - 1 }) with
    arbiter := s.arbiter.withoutPermit p.id }
  obtain ⟨l₁, l₂, hfrom, hto⟩ := h.ids.split hp
  have hremoves : Removes s t p l₁ l₂ := ⟨hfrom, hto⟩
  refine h.of_slot hj rfl rfl rfl rfl rfl ?_ (h.ids.withoutPermit _)
    (fun k hk => ⟨hremoves.jobPermits_ne (by rw [howner]; exact PermitOwner.ofJob_ne hk), rfl, rfl⟩)
    (fun v => hremoves.nightPermits_ne (by rw [howner]; rfl)) fun hbook => ?_
  · have hslots := h.slots
    have hlength := hremoves.length
    rw [State.slotsInUse] at hslots ⊢
    exact Nat.le_trans (Nat.add_le_add_right (show t.arbiter.permits.length ≤ s.arbiter.permits.length by omega) _)
      hslots
  · obtain ⟨hsub, hcount, hsum⟩ := hremoves.jobPermits (k := slot) (by rw [howner]; exact PermitOwner.ofJob_self _ _)
    obtain ⟨h1, h2, h3, h4, h5, h6, h7, h8⟩ := hbook
    refine ⟨fun q hq => h1 q (hsub.subset hq), h2, h3, ?_, h5, ?_, ?_, h8⟩
    · show j.permits - 1 = (t.jobPermits slot).length
      omega
    · show j.permits - 1 + (s.jobHeld slot).length ≤ 4
      omega
    · show j.moved + moved + ((t.jobPermits slot).map (·.chunk)).sum + ((s.jobExpired slot).map (·.chunk)).sum ≤
        j.charged - (p.chunk - moved)
      omega

/-- A late answer settles the totals of the job that still owns the permit (R128). -/
theorem SlotLaw.jobLate {s : State} (h : SlotLaw s) {e : ExpiredPermit} {slot principal moved : Nat} {j : Job}
    (he : e ∈ s.arbiter.expired) (howner : e.owner = .job slot principal) (hj : s.job slot = some j)
    (hmoved : moved ≤ e.chunk) :
    SlotLaw { s.setJob slot (some (j.returned e.chunk moved)) with arbiter := s.arbiter.withoutExpired e.id } := by
  let t : State := { s.setJob slot (some (j.returned e.chunk moved)) with arbiter := s.arbiter.withoutExpired e.id }
  obtain ⟨l₁, l₂, hfrom, hto⟩ := h.ids.splitExpired he
  have hto : t.arbiter.expired = l₁ ++ l₂ := hto
  have hself : e.owner.ofJob slot = true := ExpiredOwner.ofJob_iff.2 ⟨principal, howner⟩
  refine h.of_slot hj rfl rfl rfl rfl rfl h.slots (h.ids.withoutExpired _) (fun k hk => ⟨rfl, rfl, ?_⟩) (fun _ => rfl)
    fun hbook => ?_
  · show t.jobExpired k = s.jobExpired k
    rw [State.jobExpired_eq, State.jobExpired_eq, hto, hfrom]
    refine filter_without ?_
    rw [howner]
    exact beq_false_of_ne (Ne.symm hk)
  · have hsum : ((s.jobExpired slot).map (·.chunk)).sum = ((t.jobExpired slot).map (·.chunk)).sum + e.chunk := by
      rw [State.jobExpired_eq, State.jobExpired_eq, hto, hfrom]
      simp only [List.filter_append, List.filter_cons, hself, if_true, List.map_append, List.map_cons, List.sum_append,
        List.sum_cons]
      omega
    obtain ⟨h1, h2, h3, h4, h5, h6, h7, h8⟩ := hbook
    refine ⟨h1, h2, fun x hx => h3 x ?_, h4, h5, h6, ?_, h8⟩
    · exact (List.Sublist.filter _ (show t.arbiter.expired.Sublist s.arbiter.expired from List.filter_sublist)).subset
        hx
    · show j.moved + moved + ((s.jobPermits slot).map (·.chunk)).sum + ((t.jobExpired slot).map (·.chunk)).sum ≤
        j.charged - (e.chunk - moved)
      omega

/-- The expired-id list has room for one more (R128). -/
def State.roomMade (s : State) : State :=
  { s with arbiter := { s.arbiter with
    expired := if s.arbiter.expired.length < 32 then s.arbiter.expired else s.arbiter.expired.drop 1 } }

theorem SlotLaw.roomMade {s : State} (h : SlotLaw s) : SlotLaw s.roomMade ∧ s.roomMade.arbiter.expired.length ≤ 31 := by
  have hroom := h.ids.room
  refine ⟨h.of_views rfl rfl ?_ rfl rfl rfl (fun _ => rfl) rfl, ?_⟩
  · unfold State.roomMade
    dsimp only
    split
    · exact .refl _
    · exact List.drop_sublist _ _
  · unfold State.roomMade
    dsimp only
    split
    · omega
    · rw [List.length_drop]; omega

/-- The ids after a permit has expired (R127). -/
theorem Arbiter.idLaw.listed {a b : Arbiter} (h : a.idLaw) {p : Permit} {l₁ l₂ : List Permit} {x : ExpiredPermit}
    (hroom : a.expired.length ≤ 31) (hfrom : a.permits = l₁ ++ p :: l₂) (hto : b.permits = l₁ ++ l₂)
    (hexpired : b.expired = a.expired ++ [x]) (hx : x.id = p.id) (hnext : b.nextId = a.nextId) : b.idLaw := by
  refine ⟨by rw [hexpired, List.length_append]; exact Nat.succ_le_succ hroom, ?_, fun q hq => ?_, hnext ▸ h.next⟩
  · have hdistinct := h.distinct
    rw [hfrom, List.map_append, List.map_cons, List.append_assoc, List.cons_append, nodup_append_cons] at hdistinct
    rw [hto, hexpired, List.map_append, List.map_append, List.map_cons, List.map_nil, hx, ← List.append_assoc,
      List.append_assoc (l₁.map (·.id)), (List.perm_append_singleton ..).nodup_iff]
    exact hdistinct
  · rw [hto] at hq
    refine h.bound q ?_
    rw [hfrom]
    exact ((List.sublist_cons_self _ _).append_left _).subset hq

/-- A permit of a job is reclaimed (R127). -/
theorem SlotLaw.jobExpire {s : State} (h : SlotLaw s) {p : Permit} {slot principal : Nat} {j : Job}
    (hp : p ∈ s.arbiter.permits) (howner : p.owner = .job slot principal) (hj : s.job slot = some j) :
    SlotLaw { s.setJob slot (some { j with expired := j.expired + 1, permits := j.permits - 1 }) with
      arbiter := s.arbiter.reclaimed p } := by
  obtain ⟨hmade, hroom⟩ := h.roomMade
  let t : State := { s.setJob slot (some { j with expired := j.expired + 1, permits := j.permits - 1 }) with
    arbiter := s.arbiter.reclaimed p }
  obtain ⟨l₁, l₂, hfrom, hto⟩ := h.ids.split hp
  have hremoves : Removes s.roomMade t p l₁ l₂ := ⟨hfrom, hto⟩
  have hexpired : t.arbiter.expired = s.roomMade.arbiter.expired ++
      [{ id := p.id, owner := p.owner.expired, chunk := p.chunk }] := rfl
  have hadded (k : Nat) : t.jobExpired k = s.roomMade.jobExpired k ++
      if k = slot then [{ id := p.id, owner := p.owner.expired, chunk := p.chunk }] else [] := by
    rw [State.jobExpired_eq, State.jobExpired_eq, hexpired, List.filter_append]
    congr 1
    by_cases hk : k = slot
    · simp [howner, PermitOwner.expired, ExpiredOwner.ofJob, hk]
    · simp [howner, PermitOwner.expired, ExpiredOwner.ofJob, hk, Ne.symm hk]
  refine hmade.of_slot hj rfl rfl rfl rfl rfl ?_ (hmade.ids.listed hroom hfrom hto hexpired rfl rfl)
    (fun k hk => ⟨hremoves.jobPermits_ne (by rw [howner]; exact PermitOwner.ofJob_ne hk), rfl, ?_⟩)
    (fun v => hremoves.nightPermits_ne (by rw [howner]; rfl)) fun hbook => ?_
  · have hslots := hmade.slots
    have hlength := hremoves.length
    rw [State.slotsInUse] at hslots ⊢
    exact Nat.le_trans
      (Nat.add_le_add_right (show t.arbiter.permits.length ≤ s.roomMade.arbiter.permits.length by omega) _) hslots
  · show t.jobExpired k = _
    rw [hadded, if_neg hk, List.append_nil]
  · obtain ⟨hsub, hcount, hsum⟩ := hremoves.jobPermits (k := slot) (by rw [howner]; exact PermitOwner.ofJob_self _ _)
    have hprincipal : principal = j.principal := by
      have hown := hbook.owners p (List.mem_filter.2 ⟨hp, show p.owner.ofJob slot = true from
        howner ▸ PermitOwner.ofJob_self slot principal⟩)
      rw [howner] at hown
      exact (PermitOwner.job.inj hown).2
    obtain ⟨h1, h2, h3, h4, h5, h6, h7, h8⟩ := hbook
    show SlotBook _ _ _ _ (t.jobPermits slot) _ (t.jobExpired slot)
    rw [hadded, if_pos rfl]
    refine ⟨fun q hq => h1 q (hsub.subset hq), h2, fun x hx => ?_, ?_, h5, ?_, ?_, h8⟩
    · rcases List.mem_append.1 hx with hx | hx
      · exact h3 x hx
      · rw [List.mem_singleton.1 hx, howner, hprincipal]
        rfl
    · show j.permits - 1 = (t.jobPermits slot).length
      omega
    · show j.permits - 1 + (s.jobHeld slot).length ≤ 4
      have : (s.roomMade.jobHeld slot).length = (s.jobHeld slot).length := rfl
      omega
    · simp only [List.map_append, List.map_cons, List.map_nil, List.sum_append, List.sum_cons, List.sum_nil]
      omega

end Sys2Proof.Machine
end

section
/-! PROOFS. O60: nights, the start and end of a job, and the law of read slots move by move. -/

namespace Sys2Proof.Machine

/-! ### The moves of a night -/

theorem SlotLaw.nightBook {s : State} (h : SlotLaw s) {v : Nat} {n : Night} (hn : (s.volume v).night = some n) :
    (∀ p ∈ s.nightPermits v, p.owner = .night v n.generation) ∧ n.permits = (s.nightPermits v).length := by
  have hbooks := h.nights v
  rwa [hn] at hbooks

/-- A permit of a night has left the table, with whatever has joined the expired-id list (R126, R127). -/
theorem SlotLaw.nightPermitGone {s t : State} (h : SlotLaw s) {p : Permit} {v generation : Nat} {n m : Night}
    (howner : p.owner = .night v generation) (hn : (s.volume v).night = some n) {l₁ l₂ : List Permit}
    (hremoves : Removes s t p l₁ l₂)
    (hvolumes : t.volumes = (s.setVolume v { s.volume v with night := some m }).volumes)
    (hconfig : t.config = s.config) (hquota : t.quota = s.quota) (hjobs : t.jobs = s.jobs) (hids : t.arbiter.idLaw)
    (hexpired : ∀ k, t.jobExpired k = s.jobExpired k)
    (hm : m.generation = n.generation ∧ m.permits = n.permits - 1) : SlotLaw t := by
  refine h.of_night (State.volume_lt_of_night hn) hvolumes hconfig hquota hjobs ?_ hids
    (fun k => hremoves.jobPermits_ne (by rw [howner]; rfl)) hexpired
    (fun w hw => hremoves.nightPermits_ne (by rw [howner]; exact PermitOwner.ofNight_ne hw)) fun hbook => ?_
  · have hslots := h.slots
    have hlength := hremoves.length
    rw [State.slotsInUse] at hslots ⊢
    rw [hquota]
    omega
  · rw [hn] at hbook
    obtain ⟨hsub, hcount⟩ := hremoves.nightPermits (v := v) (by rw [howner]; exact PermitOwner.ofNight_self _ _)
    refine ⟨fun q hq => by rw [hm.1]; exact hbook.1 q (hsub.subset hq), ?_⟩
    have hbefore := hbook.2
    rw [hm.2]
    omega

/-- A permit is issued to a night (R122, R123). -/
theorem SlotLaw.nightIssue {s : State} (h : SlotLaw s) {v : Nat} {n : Night} (hn : (s.volume v).night = some n)
    (hslots : s.slotsInUse < s.config.readSlots) :
    SlotLaw { s.setVolume v { s.volume v with night := some { n with permits := n.permits + 1 } } with
      arbiter := { s.issued (.night v n.generation) with volumePointer := v }
      dup := { s.dup with tokens := s.dup.tokens - s.config.chunk } } := by
  let t : State := { s.setVolume v { s.volume v with night := some { n with permits := n.permits + 1 } } with
    arbiter := { s.issued (.night v n.generation) with volumePointer := v }
    dup := { s.dup with tokens := s.dup.tokens - s.config.chunk } }
  have hpermits : t.arbiter.permits = s.arbiter.permits ++ [s.nextPermit (.night v n.generation)] := rfl
  have hids := h.ids.issued h.config (Nat.le_trans (Nat.le_add_right _ _) (Nat.le_of_lt hslots)) (.night v n.generation)
  refine h.of_night (State.volume_lt_of_night hn) rfl rfl rfl rfl ?_ ⟨hids.room, hids.distinct, hids.bound, hids.next⟩
    (fun k => (State.jobPermits_added hpermits k).trans (List.append_nil _)) (fun _ => rfl) (fun w hw => ?_)
      fun hbook => ?_
  · have hissued : t.arbiter.permits.length = s.arbiter.permits.length + 1 := List.length_append
    rw [State.slotsInUse] at hslots
    show t.arbiter.permits.length + s.quota.setAside ≤ _
    omega
  · have hne : (s.nextPermit (.night v n.generation)).owner.ofNight w = false := PermitOwner.ofNight_ne hw
    exact (State.nightPermits_added hpermits w).trans (by rw [hne, if_neg nofun, List.append_nil])
  · rw [hn] at hbook
    have hself : (s.nextPermit (.night v n.generation)).owner.ofNight v = true := PermitOwner.ofNight_self _ _
    show NightBooks v (t.nightPermits v) (some { n with permits := n.permits + 1 })
    rw [State.nightPermits_added hpermits, if_pos hself]
    refine ⟨fun q hq => ?_, ?_⟩
    · rcases List.mem_append.1 hq with hq | hq
      · exact hbook.1 q hq
      · rw [List.mem_singleton.1 hq]; rfl
    · rw [List.length_append, ← hbook.2]; rfl

/-- A permit of a night is reclaimed (R127). -/
theorem SlotLaw.nightExpire {s : State} (h : SlotLaw s) {p : Permit} {v generation : Nat} {n : Night}
    (hp : p ∈ s.arbiter.permits) (howner : p.owner = .night v generation) (hn : (s.volume v).night = some n) :
    SlotLaw { s.setVolume v { s.volume v with night := some { n with permits := n.permits - 1 } } with
      arbiter := s.arbiter.reclaimed p } := by
  obtain ⟨hmade, hroom⟩ := h.roomMade
  let t : State := { s.setVolume v { s.volume v with night := some { n with permits := n.permits - 1 } } with
    arbiter := s.arbiter.reclaimed p }
  obtain ⟨l₁, l₂, hfrom, hto⟩ := h.ids.split hp
  have hexpired : t.arbiter.expired = s.roomMade.arbiter.expired ++
      [{ id := p.id, owner := p.owner.expired, chunk := p.chunk }] := rfl
  refine hmade.nightPermitGone (t := t) howner hn
    (l₁ := l₁) (l₂ := l₂) ⟨hfrom, hto⟩ rfl rfl rfl rfl (hmade.ids.listed hroom hfrom hto hexpired rfl rfl) (fun k => ?_)
    ⟨rfl, rfl⟩
  rw [State.jobExpired_eq, State.jobExpired_eq, hexpired, List.filter_append]
  refine (congrArg _ ?_).trans (List.append_nil _)
  simp [howner, PermitOwner.expired, ExpiredOwner.ofJob]

/-! ### The start and the end of a job -/

theorem State.jobsOf_setJob {s t : State} {slot : Nat} (hslot : slot < 8) {j : Option Job}
    (hjobs : t.jobs = (s.setJob slot j).jobs) (id : Nat) :
    t.jobsOf id + (if (s.job slot).any (fun j => j.principal == id) then 1 else 0) =
      s.jobsOf id + if j.any (fun j => j.principal == id) then 1 else 0 := by
  have hchanged := countP_range_changed hslot (p := fun k => (t.job k).any fun j => j.principal == id)
    (q := fun k => (s.job k).any fun j => j.principal == id) fun k hk => by
      rw [State.job_congr hjobs, State.job_setJob_ne s j hk]
  rw [State.job_congr hjobs slot, State.job_setJob_same s j hslot] at hchanged
  exact hchanged

/-- The records of the table after one job more or less of a principal. -/
theorem restoreJobs_updated {s t : State} {id : Nat} {f : Principal → Principal} (hf : ∀ p, (f p).id = p.id)
    (hquota : t.quota.principals = (s.quota.update id f).principals)
    (hcount : ∀ p ∈ s.quota.principals, (p.replacedBy id f).restoreJobs = t.jobsOf p.id) :
    ∀ p ∈ t.quota.principals, p.restoreJobs = t.jobsOf p.id := by
  intro p hp
  rw [hquota] at hp
  obtain ⟨x, hx, rfl⟩ := List.mem_map.1 hp
  have hid : (x.replacedBy id f).id = x.id := Principal.replacedBy_id fun _ => hf x
  exact (hcount x hx).trans (congrArg _ hid.symm)

/-- A restore starts in a free slot (R112). -/
theorem SlotLaw.jobStarts {s : State} (h : SlotLaw s) {slot tag v generation principal : Nat} {p : Principal}
    (hslot : slot < 8) (hfree : s.job slot = none) (hp : s.principal principal = some p) :
    SlotLaw { (s.setVolume v ((s.volume v).hold generation)).setJob slot (some
        { tag := tag, volume := v, generation := generation, principal := principal }) with
      quota := s.quota.update principal fun p => { p with restoreJobs := p.restoreJobs + 1 } } := by
  let j : Job := { tag := tag, volume := v, generation := generation, principal := principal }
  let t : State := { (s.setVolume v ((s.volume v).hold generation)).setJob slot (some j) with
    quota := s.quota.update principal fun p => { p with restoreJobs := p.restoreJobs + 1 } }
  have hlisted (id : Nat) (hid : s.listed id) : t.listed id :=
    State.isSome_principal_of_update (s := s) (f := fun p => { p with restoreJobs := p.restoreJobs + 1 }) rfl
      (fun _ _ => rfl) hid
  have hbefore := h.jobs slot
  rw [hfree] at hbefore
  obtain ⟨hP, hH, hE⟩ := hbefore
  refine ⟨h.config, h.slots, h.ids, fun k => ?_, fun w => ?_, ?_, ?_⟩
  · show SlotBooks _ k t.listed (s.jobPermits k) (s.jobHeld k) (s.jobExpired k)
      (((s.setVolume v ((s.volume v).hold generation)).setJob slot (some j)).job k)
    by_cases hk : k = slot
    · subst hk
      rw [State.job_setJob_same _ _ hslot, hP, hH, hE]
      exact ⟨nofun, nofun, nofun, rfl, rfl, Nat.zero_le _, Nat.le_refl _, hlisted _ (Option.isSome_of_eq_some hp)⟩
    · rw [State.job_setJob_ne _ _ hk]
      exact (h.jobs k).mono fun _ _ => hlisted _
  · show NightBooks w (s.nightPermits w) ((s.setVolume v ((s.volume v).hold generation)).volume w).night
    have hnight := State.night_setVolume (s := s) (v := v) (x := (s.volume v).hold generation) rfl w
    rw [hnight]
    exact h.nights w
  · have hids := State.ids_update (s := s) (t := t) (id := principal)
      (f := fun p => { p with restoreJobs := p.restoreJobs + 1 }) rfl fun _ _ => rfl
    exact hids ▸ h.principals
  · refine restoreJobs_updated (s := s) (t := t) (f := fun p => { p with restoreJobs := p.restoreJobs + 1 })
      (fun _ => rfl)
      rfl fun x hx => ?_
    have hset := State.jobsOf_setJob (s := s) (t := t) (j := some j) hslot rfl x.id
    rw [hfree, Option.any_none, if_neg nofun, Nat.add_zero, Option.any_some] at hset
    rw [hset, ← h.counts x hx]
    by_cases hxid : x.id = principal
    · simp [Principal.replacedBy, hxid, j]
    · simp [Principal.replacedBy, hxid, j, Ne.symm hxid]

/-- An expired permit that has lost its owner is no other job's (R117). -/
theorem ExpiredPermit.disowned_filter (l : List ExpiredPermit) (slot k : Nat) :
    (l.map (·.disowned slot)).filter (fun e => e.owner.ofJob k) =
      if k = slot then [] else l.filter fun e => e.owner.ofJob k := by
  have howner (e : ExpiredPermit) : (e.disowned slot).owner.ofJob k = (e.owner.ofJob k && decide (k ≠ slot)) ∧
      (k ≠ slot → e.owner.ofJob k = true → e.disowned slot = e) := by
    unfold ExpiredPermit.disowned
    cases ho : e.owner with
    | job i principal =>
      by_cases hi : i = slot
      · subst hi
        by_cases hk : k = i
        · subst hk; simp [ExpiredOwner.ofJob]
        · simp [ExpiredOwner.ofJob, Ne.symm hk]
      · by_cases hk : k = slot
        · subst hk; simp [ExpiredOwner.ofJob, hi, ho]
        · simp [hi, ho, hk]
    | formerJob principal => simp [ExpiredOwner.ofJob, ho]
    | night volume generation => simp [ExpiredOwner.ofJob, ho]
  induction l with
  | nil => simp
  | cons e l ih =>
    obtain ⟨hof, hsame⟩ := howner e
    rw [List.map_cons, List.filter_cons, hof, ih]
    by_cases hk : k = slot
    · simp [hk]
    · simp only [hk, ne_eq, not_false_eq_true, decide_true, Bool.and_true, if_false]
      by_cases he : e.owner.ofJob k = true
      · simp only [List.filter_cons, he, if_true, hsame hk he]
      · simp only [List.filter_cons, he, Bool.false_eq_true, if_false]

theorem ExpiredPermit.disowned_id (slot : Nat) (e : ExpiredPermit) : (e.disowned slot).id = e.id := by
  unfold ExpiredPermit.disowned
  split
  · split <;> rfl
  · rfl
  · rfl

/-- A job ends with no permit outstanding (R117). -/
theorem SlotLaw.jobEnds {s : State} (h : SlotLaw s) {slot : Nat} {j : Job} (hj : s.job slot = some j)
    (hclosing : j.state.closing = true) (hpermits : j.permits = 0) : SlotLaw (s.jobEnded slot j) := by
  have hslot := s.job_lt hj
  have hbook := h.book hj
  have hP : s.jobPermits slot = [] := List.length_eq_zero_iff.1 (hbook.permitCount.symm.trans hpermits)
  have hH : s.jobHeld slot = [] := hbook.held_nil fun hs => by rw [hs] at hclosing; cases hclosing
  have hE (k : Nat) : (s.jobEnded slot j).jobExpired k = if k = slot then [] else s.jobExpired k := by
    rw [State.jobExpired_eq, State.jobExpired_eq]
    exact ExpiredPermit.disowned_filter _ _ _
  have hids : ((s.jobEnded slot j).arbiter.expired.map (·.id)) = s.arbiter.expired.map (·.id) := by
    show (s.arbiter.expired.map (·.disowned slot)).map (·.id) = _
    rw [List.map_map]
    exact List.map_congr_left fun e _ => ExpiredPermit.disowned_id slot e
  have hlisted (id : Nat) (hid : s.listed id) : (s.jobEnded slot j).listed id :=
    State.isSome_principal_of_update (s := s) (f := fun p => { p with restoreJobs := p.restoreJobs - 1 }) rfl
      (fun _ _ => rfl) hid
  refine ⟨h.config, h.slots, ⟨?_, ?_, h.ids.bound, h.ids.next⟩, fun k => ?_, fun w => ?_, ?_, ?_⟩
  · exact Nat.le_trans (Nat.le_of_eq (List.length_map _)) h.ids.room
  · rw [hids]; exact h.ids.distinct
  · rw [hE]
    show SlotBooks _ k (s.jobEnded slot j).listed (s.jobPermits k) (s.jobHeld k) _
      (((s.setVolume j.volume ((s.volume j.volume).release j.generation)).setJob slot none).job k)
    by_cases hk : k = slot
    · subst hk
      rw [State.job_setJob_same _ _ hslot, hP, hH, if_pos rfl]
      exact ⟨rfl, rfl, rfl⟩
    · rw [State.job_setJob_ne _ _ hk, if_neg hk]
      exact (h.jobs k).mono fun _ _ => hlisted _
  · show NightBooks w (s.nightPermits w)
      ((s.setVolume j.volume ((s.volume j.volume).release j.generation)).volume w).night
    rw [State.night_setVolume (Volume.release_night _ _)]
    exact h.nights w
  · have hsame := State.ids_update (s := s) (t := s.jobEnded slot j) (id := j.principal)
      (f := fun p => { p with restoreJobs := p.restoreJobs - 1 }) rfl fun _ _ => rfl
    exact hsame ▸ h.principals
  · refine restoreJobs_updated (s := s) (t := s.jobEnded slot j)
      (f := fun p => { p with restoreJobs := p.restoreJobs - 1 })
      (fun _ => rfl) rfl fun x hx => ?_
    have hset := State.jobsOf_setJob (s := s) (t := s.jobEnded slot j) (j := none) hslot rfl x.id
    simp only [hj, Option.any_none, Option.any_some, Bool.false_eq_true, if_false, Nat.add_zero,
      ← h.counts x hx] at hset
    by_cases hxid : x.id = j.principal
    · simp only [hxid, beq_self_eq_true, if_true] at hset
      rw [Principal.replacedBy, if_pos hxid, hxid]
      dsimp only
      omega
    · simp only [beq_false_of_ne (Ne.symm hxid), Bool.false_eq_true, if_false, Nat.add_zero] at hset
      rw [Principal.replacedBy, if_neg hxid]
      exact hset.symm

/-! ### The principal table -/

theorem SlotLaw.added {s : State} (h : SlotLaw s) {p : Principal} (hnew : s.principal p.id = none)
    (hjobs : p.restoreJobs = 0) : SlotLaw (s.added p) := by
  have hnone : s.jobsOf p.id = 0 := by
    refine List.countP_eq_zero.2 fun k _ hk => ?_
    obtain ⟨j, hj, hid⟩ := (Option.any_eq_true ..).1 hk
    have hlisted := (h.book hj).listed
    rw [eq_of_beq hid] at hlisted
    rw [State.listed, hnew] at hlisted
    cases hlisted
  refine h.of_principals rfl rfl rfl rfl rfl (nodup_insertPrincipal h.principals (State.ne_of_principal_none hnew))
    (fun k j _ hl => ?_) fun q hq => ?_
  · obtain ⟨q, hq, hid⟩ := State.isSome_principal_iff.1 hl
    exact State.isSome_principal_iff.2 ⟨q, mem_insertPrincipal.2 (.inr hq), hid⟩
  · rcases mem_insertPrincipal.1 hq with rfl | hq
    · rw [hjobs, hnone]
    · exact h.counts q hq

theorem SlotLaw.dropPrincipal {s : State} (h : SlotLaw s) {id : Nat} {p : Principal} (hp : s.principal id = some p)
    (hused : s.inUse p = false) : SlotLaw (s.dropPrincipal id) := by
  have hzero : p.restoreJobs = 0 := by
    simp only [State.inUse, Bool.or_eq_false_iff, decide_eq_false_iff_not] at hused
    omega
  refine h.of_principals rfl rfl rfl rfl rfl ((List.filter_sublist.map _).nodup h.principals) (fun k j hj hl => ?_)
    fun q hq => h.counts q (List.mem_filter.1 hq).1
  have hne : j.principal ≠ id := by
    intro hid
    have hcount := h.counts p (State.mem_of_principal hp)
    rw [hzero, State.principal_id hp] at hcount
    have hnone := List.countP_eq_zero.1 hcount.symm k (List.mem_range.2 (s.job_lt hj))
    rw [hj, Option.any_some, hid, beq_self_eq_true] at hnone
    exact hnone rfl
  show ((s.dropPrincipal id).principal j.principal).isSome = true
  rw [State.principal_dropPrincipal_ne s hne]
  exact hl

theorem SlotLaw.expiryRun {s : State} (h : SlotLaw s) : SlotLaw s.expiryRun :=
  State.expiryRun_keeps (L := SlotLaw) (fun _ _ h => ⟨h.1, h.2, h.3, h.4, h.5, h.6, h.7⟩)
    (fun _ _ h => ⟨h.1, h.2, h.3, h.4, h.5, h.6, h.7⟩) (fun _ _ hp h => h.of_record hp rfl)
    (fun _ _ _ hn _ h => h.of_nightState hn rfl rfl rfl rfl rfl rfl rfl rfl) h

theorem SlotLaw.withPrecedence {s : State} (h : SlotLaw s) (n : Nat) : SlotLaw (s.setPrecedence n) :=
  h.of_views rfl rfl (.refl _) rfl rfl rfl (fun _ => rfl) rfl

theorem SlotLaw.settled {s : State} (h : SlotLaw s) : SlotLaw s.settlePrecedence := by
  unfold State.settlePrecedence
  split
  · exact h
  · exact h.withPrecedence 0

/-- A part with nothing in its tables obeys the law. -/
theorem SlotLaw.of_empty {s : State} (hconfig : legalConfig s.config) (hquota : s.quota = {})
    (harbiter : s.arbiter = {})
    (hjob : ∀ k, s.job k = none) (hnight : ∀ v, (s.volume v).night = none) : SlotLaw s := by
  refine ⟨hconfig, ?_, ?_, fun k => ?_, fun v => ?_, ?_, ?_⟩
  · rw [State.slotsInUse, harbiter, hquota]
    exact Nat.zero_le _
  · rw [harbiter]
    exact ⟨Nat.zero_le _, .nil, nofun, by decide⟩
  · rw [hjob]
    simp only [SlotBooks, State.jobPermits_eq, State.jobHeld, State.jobExpired_eq, harbiter, hquota]
    exact ⟨rfl, rfl, rfl⟩
  · rw [hnight]
    simp only [NightBooks, State.nightPermits_eq, harbiter]
    rfl
  · rw [hquota]; exact .nil
  · rw [hquota]; exact nofun

theorem SlotLaw.reset {s : State} (hloader : s.loader = State.reset.loader) (hquota : s.quota = State.reset.quota)
    (hjobs : s.jobs = State.reset.jobs) (hvolumes : s.volumes = State.reset.volumes)
    (harbiter : s.arbiter = State.reset.arbiter) : SlotLaw s := by
  refine .of_empty ?_ hquota harbiter (fun k => ?_) fun v => ?_
  · rw [State.config, hloader]
    exact legalConfig_default
  · by_cases hk : k < 8
    · simp [State.job, hjobs, hk, State.reset]
    · exact s.job_of_le hk
  · by_cases hv : v < 16
    · simp [State.volume, hvolumes, hv, State.reset]
    · exact s.night_of_le hv

theorem SlotLaw.ownerStands {s : State} (h : SlotLaw s) {p : Permit} (hp : p ∈ s.arbiter.permits) :
    s.ownerStands p.owner = true := by
  unfold State.ownerStands
  split
  · rename_i slot principal howner
    have hbooks := h.jobs slot
    cases hj : s.job slot with
    | some j => rfl
    | none =>
      rw [hj] at hbooks
      have hmem : p ∈ s.jobPermits slot := List.mem_filter.2 ⟨hp, show p.owner.ofJob slot = true from
        howner ▸ PermitOwner.ofJob_self slot principal⟩
      rw [hbooks.1] at hmem
      cases hmem
  · rename_i v generation howner
    have hbooks := h.nights v
    cases hn : (s.volume v).night with
    | some n => rfl
    | none =>
      rw [hn] at hbooks
      have hmem : p ∈ s.nightPermits v := List.mem_filter.2 ⟨hp, show p.owner.ofNight v = true from
        howner ▸ PermitOwner.ofNight_self v generation⟩
      rw [show s.nightPermits v = [] from hbooks] at hmem
      cases hmem

/-- A held RESTORE entry has its job (R28). -/
theorem SlotLaw.job_of_held {s : State} (h : SlotLaw s) {e : HeldEntry} (he : e ∈ s.quota.held) {slot : Nat}
    (ho : e.origin = .restore slot) : ∃ j, s.job slot = some j ∧ j.state = .syncWait := by
  have hmem : e ∈ s.jobHeld slot := List.mem_filter.2 ⟨he, beq_iff_eq.2 ho⟩
  have hbooks := h.jobs slot
  cases hj : s.job slot with
  | none =>
    rw [hj] at hbooks
    rw [hbooks.2.1] at hmem
    cases hmem
  | some j => exact ⟨j, rfl, (h.book hj).syncWait_of_mem hmem⟩

/-! ### Every move but the end of the load -/

theorem Move.slotLaw {k : Tag} {s t : State} (hm : Move k s t) (hload : k ≠ .load) (hs : SlotLaw s) : SlotLaw t := by
  have same {t : State} (hloader : t.config = s.config) (harbiter : t.arbiter = s.arbiter) (hquota : t.quota = s.quota)
      (hjobs : t.jobs = s.jobs) (hnights : ∀ v, (t.volume v).night = (s.volume v).night) : SlotLaw t :=
    hs.of_views hloader (by rw [harbiter]) (harbiter ▸ List.Sublist.refl _) (by rw [harbiter]) (by rw [hquota])
      hjobs hnights (by rw [hquota])
  have quiet {t : State} (hloader : t.config = s.config) (harbiter : t.arbiter = s.arbiter) (hquota : t.quota = s.quota)
      (hjobs : t.jobs = s.jobs) (hvolumes : t.volumes = s.volumes) : SlotLaw t :=
    same hloader harbiter hquota hjobs fun v => congrArg Volume.night (State.volume_congr hvolumes v)
  have nights {v : Nat} {x : Volume} (hx : x.night = (s.volume v).night) : SlotLaw (s.setVolume v x) :=
    same rfl rfl rfl rfl (State.night_setVolume hx)
  cases hm with
  | port | portReset | clock | pins | hold | dup | peers | bus | tx | generator | frameTaken | frameDone | sweep |
      queueNormal | queueUrgent => exact quiet rfl rfl rfl rfl rfl
  | frameReturned => rw [State.returnFrame_frame]; exact quiet rfl rfl rfl rfl rfl
  | @charge _ p n h =>
    exact hs.of_record (p := p) (by rw [Principal.charged_id]; exact h) (by rw [Principal.charged_eq])
  | @chunk _ p n h => exact hs.of_record (p := p) (by rw [Principal.charged_id]; exact h) (by rw [Principal.charged_eq])
  | @account _ p _ _ _ _ h => exact hs.of_record (p := p) h rfl
  | @contribute _ p station value h =>
    have hmapped : SlotLaw (s.mapped p.id station value) :=
      hs.of_views rfl rfl (.refl _) rfl rfl rfl (fun _ => rfl) rfl
    exact hmapped.of_record (p := p) h rfl
  | @announce _ _ e =>
    exact hs.of_update (id := e.principal) (f := fun p => { p with la := e.value }) rfl rfl rfl rfl rfl rfl
      fun _ _ _ => ⟨rfl, rfl⟩
  | add hnew _ _ _ hjobs => exact hs.added hnew hjobs
  | drop hp hused => exact hs.dropPrincipal hp hused
  | run => exact hs.expiryRun
  | takeRun => exact hs.expiryRun.settled
  | settle => exact hs.settled
  | precedence => exact hs.withPrecedence _
  | heldCharge hcharge =>
    refine hs.of_views rfl rfl (.refl _) rfl ?_ rfl (fun _ => rfl) rfl
    simp only [State.withHeld, List.filter_append, List.filter_cons, hcharge, Bool.false_eq_true, if_false,
      List.filter_nil, List.append_nil]
  | heldAges =>
    refine hs.of_views rfl rfl (.refl _) rfl ?_ rfl (fun _ => rfl) rfl
    have haged (e : HeldEntry) : (s.agedHeld e).isChunk = e.isChunk ∧ (s.agedHeld e).ageless = e.ageless := by
      unfold State.agedHeld
      split <;> exact ⟨rfl, rfl⟩
    show ((s.quota.held.map s.agedHeld).filter fun e => e.isChunk).map HeldEntry.ageless = _
    rw [List.filter_map, List.map_map]
    simp only [Function.comp_def, haged]
  | heldLeaves hsub hchunks => exact hs.of_views rfl rfl (.refl _) rfl (congrArg _ hchunks) rfl (fun _ => rfl) rfl
  | strayLeaves hheld horigin hjob =>
    obtain ⟨j, hj, _⟩ := hs.job_of_held (by rw [hheld]; exact List.mem_append_right _ (.head _)) horigin
    rw [hjob] at hj
    cases hj
  | heldChunk hjob hwaits hslots => exact hs.heldChunk hjob hwaits hslots
  | chunkLeaves hjob hstate hheld => exact hs.chunkLeaves hjob hstate hheld
  | chunkGranted hjob hwaits hslots => exact hs.chunkGranted hjob hwaits hslots
  | heldGranted hjob hheld horigin => exact hs.heldGranted hjob hheld horigin
  | job hjob hfrom hto => exact hs.job hjob hfrom hto
  | departure => exact hs.departure
  | pointer => exact hs.of_views rfl rfl (.refl _) rfl rfl rfl (fun _ => rfl) rfl
  | permitAges =>
    refine hs.of_views rfl ?_ (.refl _) rfl rfl rfl (fun _ => rfl) rfl
    show (s.arbiter.permits.map fun p => { p with age := p.age + 1 }).map Permit.ageless = _
    rw [List.map_map]
    rfl
  | permitStray hp howner =>
    rw [hs.ownerStands hp] at howner
    cases howner
  | expiredLeaves => exact hs.of_views rfl rfl List.filter_sublist rfl rfl rfl (fun _ => rfl) rfl
  | jobReturn hp howner hjob hmoved => exact hs.jobReturn hp howner hjob hmoved
  | jobExpire hp howner hjob => exact hs.jobExpire hp howner hjob
  | jobLate he howner hjob hmoved => exact hs.jobLate he howner hjob hmoved
  | nightReturn hp howner hn =>
    obtain ⟨l₁, l₂, hfrom, hto⟩ := hs.ids.split hp
    exact hs.nightPermitGone howner hn ⟨hfrom, hto⟩ rfl rfl rfl rfl (hs.ids.withoutPermit _) (fun _ => rfl) ⟨rfl, rfl⟩
  | nightExpire hp howner hn => exact hs.nightExpire hp howner hn
  | nightIssue hn hslots => exact hs.nightIssue hn hslots
  | night hn => exact hs.of_nightState hn rfl rfl rfl rfl rfl rfl rfl rfl
  | @nightOpens _ v generation backlog dawn r state hv hdeclared hn =>
    refine hs.of_night hv rfl rfl rfl rfl hs.slots hs.ids (fun _ => rfl) (fun _ => rfl) (fun _ _ => rfl) fun hbook => ?_
    rw [hn] at hbook
    have hnone : s.nightPermits v = [] := hbook
    show NightBooks v (s.nightPermits v) _
    rw [hnone]
    exact ⟨nofun, rfl⟩
  | nightResumes hn => exact hs.of_nightState hn rfl rfl rfl rfl rfl rfl rfl rfl
  | nightCloses hn => exact hs.of_nightState hn rfl rfl rfl rfl rfl rfl rfl rfl
  | @nightEnds _ v n hn hclosing hpermits =>
    refine hs.of_night (State.volume_lt_of_night hn) rfl rfl rfl rfl hs.slots hs.ids (fun _ => rfl) (fun _ => rfl)
      (fun _ _ => rfl) fun hbook => ?_
    rw [hn] at hbook
    exact List.length_eq_zero_iff.1 (hbook.2.symm.trans hpermits)
  | declare | create | retireLater | retireNow => exact nights rfl
  | jobStarts hslot hfree _ hprincipal => exact hs.jobStarts hslot hfree hprincipal
  | jobEnds hjob hclosing hpermits => exact hs.jobEnds hjob hclosing hpermits
  | load => exact absurd rfl hload
  | reset => exact .reset rfl rfl rfl rfl rfl

end Sys2Proof.Machine
end

section
/-! PROOFS. O60: before the configuration load has ended nothing begins. -/

namespace Sys2Proof.Machine

/-- What stands while the part is CONFIGURING: nothing of requests, frames, holds, jobs, permits, nights and tokens. -/
structure State.Idle (s : State) : Prop where
  requestState : s.port.requestState = .stopped
  eventState : s.port.eventState = .stopped
  phase : s.port.phase = .idle
  heldAnswers : s.port.heldAnswers = []
  posting : s.port.posting = none
  quota : s.quota = {}
  deadlines : s.deadlines = []
  notice : s.notice = {}
  txState : s.bus.tx.state = .off
  txFrame : s.bus.tx.frame = none
  listening : s.bus.listening = false
  fifo : s.bus.fifo = []
  delivery : s.bus.delivery = none
  eviction : s.peers.eviction = none
  volumes : ∀ v < 16, s.volume v = {}
  jobs : ∀ k < 8, s.job k = none
  arbiter : s.arbiter = {}
  tokens : s.dup.tokens = 0
  rate : s.dup.rate = 0

theorem configuringIdle_iff {s : State} : ConfiguringIdle s ↔ (s.peers.station = .configuring → s.Idle) := by
  refine imp_congr_right fun _ => ⟨?_, ?_⟩
  · rintro ⟨h1, h2, h3, h4, h5, h6, h7, h8, h9, h10, h11, h12, h13, h14, h15, h16, h17, h18, h19⟩
    exact ⟨h1, h2, h3, h4, h5, h6, h7, h8, h9, h10, h11, h12, h13, h14, h15, h16, h17, h18, h19⟩
  · rintro ⟨h1, h2, h3, h4, h5, h6, h7, h8, h9, h10, h11, h12, h13, h14, h15, h16, h17, h18, h19⟩
    exact ⟨h1, h2, h3, h4, h5, h6, h7, h8, h9, h10, h11, h12, h13, h14, h15, h16, h17, h18, h19⟩

section IdleState

variable {s : State}

theorem State.Idle.job_none (h : s.Idle) (k : Nat) : s.job k = none := by
  by_cases hk : k < 8
  · exact h.jobs k hk
  · exact s.job_of_le hk

theorem State.Idle.volume_default (h : s.Idle) (v : Nat) : s.volume v = {} := by
  by_cases hv : v < 16
  · exact h.volumes v hv
  · simp [State.volume, hv]

theorem State.Idle.night_none (h : s.Idle) (v : Nat) : (s.volume v).night = none := by rw [h.volume_default]

/-- The port changes, but neither process, nor what it has in hand. -/
theorem State.Idle.of_port (h : s.Idle) {p : Port} (hrs : p.requestState = .stopped) (hes : p.eventState = .stopped)
    (hphase : p.phase = .idle) (hheld : p.heldAnswers = []) (hposting : p.posting = none) :
    State.Idle { s with port := p } :=
  ⟨hrs, hes, hphase, hheld, hposting, h.quota, h.deadlines, h.notice, h.txState, h.txFrame, h.listening, h.fifo,
    h.delivery, h.eviction, h.volumes, h.jobs, h.arbiter, h.tokens, h.rate⟩

theorem State.Idle.takes (h : s.Idle) (r : Request) : s.takes r = false := by
  unfold State.takes
  rw [h.phase]

theorem State.Idle.not_waiting (h : s.Idle) : s.restoreWaiting = false := by
  unfold State.restoreWaiting
  refine List.any_eq_false.2 fun o ho => ?_
  obtain ⟨k, hk, rfl⟩ := List.mem_iff_getElem.1 ho
  have hk8 : k < 8 := by simpa using hk
  have hjob := h.jobs k hk8
  simp only [State.job, hk8, dif_pos] at hjob
  simp [Vector.getElem_toList, hjob]

theorem State.Idle.no_night (h : s.Idle) {f : Volume → Bool} (hf : f {} = false) : s.volumes.toList.any f = false := by
  refine List.any_eq_false.2 fun x hx => ?_
  obtain ⟨v, hv, rfl⟩ := List.mem_iff_getElem.1 hx
  have hv16 : v < 16 := by simpa using hv
  have hvolume := h.volumes v hv16
  simp only [State.volume, hv16, dif_pos] at hvolume
  simp [Vector.getElem_toList, hvolume, hf]

theorem State.Idle.not_ready (h : s.Idle) : s.duplicationReady = false := by
  simp [State.duplicationReady, h.no_night (f := Volume.duplicable) rfl]

theorem State.Idle.settled (h : s.Idle) : s.settlePrecedence.Idle := by
  obtain ⟨h1, h2, h3, h4, h5, h6, h7, h8, h9, h10, h11, h12, h13, h14, h15, h16, h17, h18, h19⟩ := h
  unfold State.settlePrecedence
  split
  · exact ⟨h1, h2, h3, h4, h5, h6, h7, h8, h9, h10, h11, h12, h13, h14, h15, h16, h17, h18, h19⟩
  · exact ⟨h1, h2, h3, h4, h5, h6, h7, h8, h9, h10, h11, h12, h13, h14, h15, h16, by simp [h17], h18, h19⟩

theorem State.Idle.shiftNights (h : s.Idle) (old new : NightState) (cause : NightCause) :
    s.shiftNights old new cause = s := by
  have fold (l : List Nat) : l.foldl (fun s v => s.shiftNight v old new cause) s = s := by
    induction l with
    | nil => rfl
    | cons v l ih =>
      have hshift : s.shiftNight v old new cause = s := by
        unfold State.shiftNight
        rw [h.night_none v]
      rw [List.foldl_cons, hshift, ih]
  exact fold _

/-! ### The commands that are no step, or touch only what may change -/

theorem State.Idle.ticked (h : s.Idle) (hc : s.peers.station = .configuring) : s.ticked.Idle := by
  obtain ⟨h1, h2, h3, h4, h5, h6, h7, h8, h9, h10, h11, h12, h13, h14, h15, h16, h17, h18, h19⟩ := h
  refine ⟨h1, h2, h3, h4, h5, ?_, h7, ?_, ?_, ?_, h11, ?_, h13, ?_, h15, h16, ?_, h18, h19⟩
  · show { s.quota with held := s.quota.held.map s.agedHeld } = _
    rw [h6]
    rfl
  · show s.notice.ticked _ _ = _
    rw [h8, hc]
    rfl
  · show s.bus.ticked.tx.state = _
    simp [Bus.ticked, h9]
  · show s.bus.ticked.tx.frame = _
    simp [Bus.ticked, h9, h10]
  · show s.bus.fifo.map _ = []
    rw [h12]
    rfl
  · show s.peers.eviction.map _ = none
    rw [h14]
    rfl
  · show s.arbiter.ticked = _
    rw [h17]
    rfl

theorem State.Idle.reload (h : s.Idle) {t : State} (ht : execReload s = .next t) : t.Idle := by
  unfold execReload at ht
  cases ht
  split
  · exact h
  · refine State.Idle.settled ?_
    have hreleased : (if s.holdInForce then s else s.shiftNights .paused .sending .release) = s := by
      rw [h.shiftNights]
      split <;> rfl
    have hrate : s.computedRate = 0 := by
      unfold State.computedRate
      rw [h.no_night (f := Volume.nightSending) rfl]
      split <;> rfl
    obtain ⟨h1, h2, h3, h4, h5, h6, h7, h8, h9, h10, h11, h12, h13, h14, h15, h16, h17, h18, h19⟩ := h
    unfold State.reloaded
    rw [hreleased]
    refine ⟨h1, h2, h3, h4, h5, h6, h7, h8, h9, h10, h11, h12, h13, h14, h15, h16, h17, ?_, hrate⟩
    dsimp only
    split
    · rfl
    · rw [h18, hrate]
      exact Nat.zero_min _

theorem State.Idle.takeRun (h : s.Idle) : s.takeRun.Idle := by
  have hrun : s.expiryRun = s := by
    unfold State.expiryRun
    rw [h.deadlines]
    simp only [List.takeWhile_nil, List.dropWhile_nil, List.foldl_nil]
    rw [← h.deadlines]
  unfold State.takeRun
  rw [hrun]
  exact h.settled

theorem State.Idle.offhold (h : s.Idle) (hc : s.peers.station = .configuring) {t : State}
    (ht : execOffholdRise s = .next t ∨ execOffholdFall s = .next t) : t.Idle := by
  have pins (p : Pins) : State.Idle { s with pins := p } := by
    obtain ⟨h1, h2, h3, h4, h5, h6, h7, h8, h9, h10, h11, h12, h13, h14, h15, h16, h17, h18, h19⟩ := h
    exact ⟨h1, h2, h3, h4, h5, h6, h7, h8, h9, h10, h11, h12, h13, h14, h15, h16, h17, h18, h19⟩
  rcases ht with ht | ht
  · unfold execOffholdRise at ht
    cases ht
    have hforce : State.holdInForce { s with pins := { s.pins with offhold := true } } = false := by
      simp [State.holdInForce, hc]
    split
    · exact h
    · rw [hforce]
      exact pins _
  · unfold execOffholdFall at ht
    cases ht
    exact pins _

theorem State.Idle.of_peers (h : s.Idle) {p : Peers} (hp : p.eviction = none) (l : List EventRecord) :
    State.Idle { s with peers := p, port := s.port.raises l } := by
  have hport := h.of_port (p := s.port.raises l) (by simp [h.requestState]) (by simp [h.eventState])
    (by simp [h.phase]) (by simp [h.heldAnswers]) (by simp [h.posting])
  obtain ⟨h1, h2, h3, h4, h5, h6, h7, h8, h9, h10, h11, h12, h13, h14, h15, h16, h17, h18, h19⟩ := hport
  exact ⟨h1, h2, h3, h4, h5, h6, h7, h8, h9, h10, h11, h12, h13, hp, h15, h16, h17, h18, h19⟩

theorem State.Idle.peerLapse (h : s.Idle) {station : Nat} {t : State} (ht : execPeerLapse station s = .next t) :
    t.Idle := by
  unfold execPeerLapse at ht
  cases ht
  split
  · split
    · exact h.of_peers (s := s) (p := (s.lapse station).peers) h.eviction [_]
    · exact h
  · exact h

theorem State.Idle.lineBusy (h : s.Idle) : s.lineBusy.Idle := by
  obtain ⟨h1, h2, h3, h4, h5, h6, h7, h8, h9, h10, h11, h12, h13, h14, h15, h16, h17, h18, h19⟩ := h
  exact ⟨h1, h2, h3, h4, h5, h6, h7, h8, h9, h10, h11, h12, h13, h14, h15, h16, h17, h18, h19⟩

theorem State.Idle.burstEnded (h : s.Idle) (bytes : List Byte) : (s.burstEnded bytes).Idle := by
  have hquiet : s.burstEnded bytes = s.lineQuiet := by
    unfold State.burstEnded
    rw [h.listening]
    simp
  obtain ⟨h1, h2, h3, h4, h5, h6, h7, h8, h9, h10, h11, h12, h13, h14, h15, h16, h17, h18, h19⟩ := h
  rw [hquiet]
  exact ⟨h1, h2, h3, h4, h5, h6, h7, h8, h9, h10, h11, h12, h13, h14, h15, h16, h17, h18, h19⟩

theorem State.Idle.burstReceived (h : s.Idle) {bytes : List Byte} {t : State}
    (ht : execBurstReceived bytes s = .next t) : t.Idle := by
  unfold execBurstReceived at ht
  cases ht
  split
  · exact h
  · split
    · exact h.burstEnded bytes
    · exact h.lineBusy.burstEnded bytes

/-- The commands of the port that only record or write registers. -/
theorem State.Idle.registers (h : s.Idle) (hc : s.peers.station = .configuring) {t : State} :
    (∀ control, execRequestStart control s = .next t → t.Idle) ∧
    (∀ control, execEventStart control s = .next t → t.Idle) ∧
    (∀ control, execPortReset control s = .next t → t.Idle) ∧
    (∀ ring high value, execRingBaseWrite ring high value s = .next t → t.Idle) ∧
    (∀ ring value, execRingSizeWrite ring value s = .next t → t.Idle) := by
  have register (p : Port) (hrs : p.requestState = s.port.requestState) (hes : p.eventState = s.port.eventState)
      (hphase : p.phase = s.port.phase) (hheld : p.heldAnswers = s.port.heldAnswers)
      (hposting : p.posting = s.port.posting) : State.Idle { s with port := p } :=
    h.of_port (hrs.trans h.requestState) (hes.trans h.eventState) (hphase.trans h.phase) (hheld.trans h.heldAnswers)
      (hposting.trans h.posting)
  refine ⟨fun control ht => ?_, fun control ht => ?_, fun control ht => ?_, fun ring high value ht => ?_,
    fun ring value ht => ?_⟩
  · unfold execRequestStart at ht
    cases ht
    rw [if_pos hc]
    split
    · exact register _ rfl rfl rfl rfl rfl
    · exact h
  · unfold execEventStart at ht
    cases ht
    rw [if_pos hc]
    split
    · exact register _ rfl rfl rfl rfl rfl
    · exact h
  · unfold execPortReset at ht
    cases ht
    split
    · have hnone : s.discardCharges = s := by
        simp [State.discardCharges, h.quota]
      unfold State.portReset
      rw [hnone]
      exact h.of_port rfl rfl rfl rfl rfl
    · exact h
  · unfold execRingBaseWrite at ht
    cases ht
    split
    · split
      · exact register _ rfl rfl rfl rfl rfl
      · exact h
    · split
      · exact register _ rfl rfl rfl rfl rfl
      · exact h
  · unfold execRingSizeWrite at ht
    cases ht
    split
    · split
      · exact register _ rfl rfl rfl rfl rfl
      · exact h
    · split
      · exact register _ rfl rfl rfl rfl rfl
      · exact h

/-- Neither the transmitter, the receive FIFO, the arbiter nor a process has anything to do. -/
theorem State.Idle.noStep (h : s.Idle) (hc : s.peers.station = .configuring) :
    (∀ place, execHoldTimeout place s = .next s) ∧ (∀ id, execPermitTimeout id s = .next s) ∧
    execEvictionSweepStep s = .next s ∧ execRefreshSweepStep s = .next s ∧ execHoldoffEnd s = .next s ∧
    execBackoffEnd s = .next s ∧ execInterframeGapComplete s = .next s ∧ execCollision s = .next s ∧
    execJamEnd s = .next s ∧ execTransmitCompletion s = .next s ∧ execTransmitterTakeFrame s = .next s ∧
    execFrameDelivery s = .next s ∧ execUsageEntryUpdate s = .next s ∧ execArbiterChoice s = .next s ∧
    execIsolation s = .next s ∧ execLearningTimeReached s = .next s ∧ execPresenceDue s = .next s := by
  refine ⟨fun place => ?_, fun id => ?_, ?_, ?_, ?_, ?_, ?_, ?_, ?_, ?_, ?_, ?_, ?_, ?_, ?_, ?_, ?_⟩
  · simp [execHoldTimeout, h.quota]
  · simp [execPermitTimeout, h.arbiter]
  · simp [execEvictionSweepStep, h.eviction]
  · simp [execRefreshSweepStep, hc, StationState.running]
  · simp [execHoldoffEnd, h.txState]
  · simp [execBackoffEnd, h.txState]
  · simp [execInterframeGapComplete, h.txState]
  · simp [execCollision, h.txState]
  · simp [execJamEnd, h.txState]
  · simp [execTransmitCompletion, h.txState]
  · simp [execTransmitterTakeFrame, h.txState]
  · simp [execFrameDelivery, h.fifo, h.delivery]
  · simp [execUsageEntryUpdate, h.fifo]
  · have hnone : s.arbitrate = s := by
      unfold State.arbitrate
      rw [h.not_waiting, h.not_ready]
      split <;> rfl
    rw [execArbiterChoice, hnone, State.insertionTest_of_eq rfl]
  · simp [execIsolation, hc]
  · simp [execLearningTimeReached, hc]
  · simp [execPresenceDue, hc, StationState.running]

/-- Both processes are STOPPED with nothing in hand. -/
theorem State.Idle.noAccess (h : s.Idle) :
    execBlockedChargeReexecution s = .next s ∧ (∀ bytes, execRequestDescriptorFetch bytes s = .next s) ∧
    (∀ held, execRequestWritebackDone held s = .next s) ∧ (∀ own next, execEventDescriptorFetch own next s = .next s) ∧
    execEventPostDone s = .next s ∧ (∀ access, execLinkError access s = .next s) ∧
    (∀ found, execAutoPoll found s = .next s) ∧ (∀ control, execRequestStop control s = .next s) ∧
    (∀ control, execEventStop control s = .next s) ∧ (∀ control, execPollDemand control s = .next s) := by
  refine ⟨?_, fun bytes => ?_, fun held => ?_, fun own next => ?_, ?_, fun access => ?_, fun found => ?_,
    fun control => ?_, fun control => ?_, fun control => ?_⟩
  · simp [execBlockedChargeReexecution, h.requestState]
  · simp [execRequestDescriptorFetch, h.requestState]
  · cases held <;> simp [execRequestWritebackDone, h.requestState, h.heldAnswers]
  · simp [execEventDescriptorFetch, h.eventState]
  · simp [execEventPostDone, h.posting]
  · have hnone : s.accessing access = false := by
      cases access <;> simp [State.accessing, h.requestState, h.eventState, h.phase, h.heldAnswers, h.posting]
    simp [execLinkError, hnone]
  · cases found <;> simp [execAutoPoll, h.requestState, h.eventState]
  · simp [execRequestStop, State.stopRequest, h.requestState]
  · simp [execEventStop, State.stopEvent, h.eventState]
  · simp [execPollDemand, Port.pollRequestProcess, Port.pollEventProcess, h.requestState, h.eventState]

end IdleState

end Sys2Proof.Machine
end

section
/-! PROOFS. O60: nothing begins before the load has ended, and the law of read slots through every command. -/

namespace Sys2Proof.Machine

/-- Only the end of the load and the reset change whether the part is CONFIGURING. -/
theorem Move.configuring_iff {k : Tag} {s t : State} (hm : Move k s t) (hload : k ≠ .load) (hreset : k ≠ .reset) :
    t.peers.station = .configuring ↔ s.peers.station = .configuring := by
  by_cases htx : k = .tx
  · subst htx
    cases hm with
    | frameReturned => rw [State.returnFrame_frame]
    | _ => rfl
  · exact (State.transmits_eq.1 (hm.transmits htx hload hreset)).2.2.2.2

theorem Path.configuring_iff {A : Tag → Bool} (hload : A .load = false) (hreset : A .reset = false) {s t : State}
    (h : Path A s t) : t.peers.station = .configuring ↔ s.peers.station = .configuring := by
  refine h.keeps (L := fun t => t.peers.station = .configuring ↔ s.peers.station = .configuring)
    (fun hk hm ih => (hm.configuring_iff ?_ ?_).trans ih) .rfl
  · rintro rfl
    rw [hk] at hload
    cases hload
  · rintro rfl
    rw [hk] at hreset
    cases hreset

/-- The load that ends leaves the part in another station state. -/
theorem State.endLoad_station (s : State) (l : Loader) : (s.endLoad l).peers.station ≠ .configuring := by
  obtain ⟨station, p, records, hne, hp, heq⟩ := s.endLoad_eq l
  rw [heq]
  exact fun h => hne (hp.symm.trans h)

theorem State.Idle.reset {straps : Straps} {pins : Pins} {g : Generator} {line : Line} {pending : List Instr} :
    State.Idle { State.reset with
      straps := straps, pins := pins, bus := { generator := g, line := line }, pending := pending } := by
  refine ⟨rfl, rfl, rfl, rfl, rfl, rfl, rfl, rfl, rfl, rfl, rfl, rfl, rfl, rfl, fun v hv => ?_, fun k hk => ?_, rfl,
    rfl,
    rfl⟩
  · simp [State.volume, hv, State.reset]
  · simp [State.job, hk, State.reset]

/-- A command that is not the end of the load or the reset keeps the idle part idle. -/
theorem State.Idle.exec {s t : State} {i : Instr} (h : s.Idle) (hc : s.peers.station = .configuring)
    (hi : i.request? = none) (hload : tagsOf i .load = false) (hreset : tagsOf i .reset = false)
    (hexec : exec i s = .next t) : t.Idle := by
  have same (hnext : Machine.exec i s = .next s) : t.Idle := by
    cases hnext.symm.trans hexec
    exact h
  have port (p : Port) (hp : p.requestState = s.port.requestState ∧ p.eventState = s.port.eventState ∧
      p.phase = s.port.phase ∧ p.heldAnswers = s.port.heldAnswers ∧ p.posting = s.port.posting) :
      State.Idle { s with port := p } := by
    obtain ⟨h1, h2, h3, h4, h5⟩ := hp
    exact h.of_port (h1.trans h.requestState) (h2.trans h.eventState) (h3.trans h.phase) (h4.trans h.heldAnswers)
      (h5.trans h.posting)
  obtain ⟨hholdTimeout, hpermitTimeout, hevictionSweepStep, hrefreshSweepStep, hholdoffEnd, hbackoffEnd,
    hinterframeGapComplete, hcollision, hjamEnd, htransmitCompletion, htransmitterTakeFrame, hframeDelivery,
    husageEntryUpdate, harbiterChoice, hisolation, hlearningTimeReached, hpresenceDue⟩ := h.noStep hc
  obtain ⟨hreexecution, hrequestFetch, hwriteback, heventFetch, heventPostDone, hlinkError, hautoPoll, hrequestStop,
    heventStop, hpollDemand⟩ := h.noAccess
  obtain ⟨hrequestStart, heventStart, hportReset, hringBaseWrite, hringSizeWrite⟩ := h.registers hc (t := t)
  cases i with
  | hardwareReset => cases hreset
  | configLoadEnd | configLoadBusHeld => cases hload
  | stationTick => cases hexec; exact h.ticked hc
  | reload => exact h.reload hexec
  | deadlineExpiryRun => cases hexec; exact h.takeRun
  | offholdRise => exact h.offhold hc (.inl hexec)
  | offholdFall => exact h.offhold hc (.inr hexec)
  | peerLapse station => exact h.peerLapse hexec
  | lineBecomesBusy =>
    cases (show execLineBecomesBusy s = .next t from hexec)
    split
    · exact h
    · exact h.lineBusy
  | burstReceived bytes => exact h.burstReceived hexec
  | requestStart control => exact hrequestStart control hexec
  | eventStart control => exact heventStart control hexec
  | portReset control => exact hportReset control hexec
  | ringBaseWrite ring high value => exact hringBaseWrite ring high value hexec
  | ringSizeWrite ring value => exact hringSizeWrite ring value hexec
  | flagsClear | maskWrite | autoPollIntervalWrite => cases hexec; exact port _ ⟨rfl, rfl, rfl, rfl, rfl⟩
  | holdTimeout place => exact same (hholdTimeout place)
  | permitTimeout id => exact same (hpermitTimeout id)
  | evictionSweepStep => exact same hevictionSweepStep
  | refreshSweepStep => exact same hrefreshSweepStep
  | holdoffEnd => exact same hholdoffEnd
  | backoffEnd => exact same hbackoffEnd
  | interframeGapComplete => exact same hinterframeGapComplete
  | collision => exact same hcollision
  | jamEnd => exact same hjamEnd
  | transmitCompletion => exact same htransmitCompletion
  | transmitterTakeFrame => exact same htransmitterTakeFrame
  | frameDelivery => exact same hframeDelivery
  | usageEntryUpdate => exact same husageEntryUpdate
  | arbiterChoice => exact same harbiterChoice
  | isolation => exact same hisolation
  | learningTimeReached => exact same hlearningTimeReached
  | presenceDue => exact same hpresenceDue
  | blockedChargeReexecution => exact same hreexecution
  | requestDescriptorFetch bytes => exact same (hrequestFetch bytes)
  | requestWritebackDone held => exact same (hwriteback held)
  | eventDescriptorFetch own next => exact same (heventFetch own next)
  | eventPostDone => exact same heventPostDone
  | linkError access => exact same (hlinkError access)
  | autoPoll found => exact same (hautoPoll found)
  | requestStop control => exact same (hrequestStop control)
  | eventStop control => exact same (heventStop control)
  | pollDemand control => exact same (hpollDemand control)
  | otherRegisterWrite => exact same rfl
  | _ => cases hi

/-- Before the load has ended the part stays idle through every command. -/
theorem ConfiguringIdle.exec {s t : State} {i : Instr} (hs : ConfiguringIdle s) (h : exec i s = .next t) :
    ConfiguringIdle t := by
  rw [configuringIdle_iff] at hs ⊢
  intro ht
  have still (hload : tagsOf i .load = false) (hreset : tagsOf i .reset = false) : t.Idle := by
    obtain ⟨u, hu, hpath⟩ := exec_reached i s
    cases hu.symm.trans h
    have hc := (hpath.configuring_iff hload hreset).1 ht
    cases hi : i.request? with
    | some r =>
      cases (exec_of_not_takes hi ((hs hc).takes r)).symm.trans h
      exact hs hc
    | none => exact (hs hc).exec hc hi hload hreset h
  have ended (l : Loader) (hend : t = if s.peers.station = .configuring then s.endLoad l else s) : t.Idle := by
    split at hend <;> subst hend
    · exact absurd ht (s.endLoad_station l)
    · exact hs ht
  cases i with
  | hardwareReset => cases h; exact .reset
  | configLoadEnd => cases h; exact ended _ rfl
  | configLoadBusHeld => cases h; exact ended _ rfl
  | _ => exact still rfl rfl

/-! ### Laws that the end of the load must establish -/

/-- A law through a command: the end of the load finds the idle part and a legal configuration. -/
theorem exec_keeps_of_load {L : State → Prop} {s t : State} {i : Instr} (hidle : ConfiguringIdle s)
    (hexec : exec i s = .next t) (hs : L s) (hend : ∀ l : Loader, l.legal → s.Idle → L (s.endLoad l))
    (hother : tagsOf i .load = false → L t) : L t := by
  have ended (l : Loader) (heq : t = if s.peers.station = .configuring then s.endLoad l else s) (hl : l.legal) :
      L t := by
    split at heq <;> subst heq
    · rename_i hc
      exact hend l hl (configuringIdle_iff.1 hidle hc)
    · exact hs
  cases i with
  | configLoadEnd read => cases hexec; exact ended _ rfl (loadOutcome_legal read)
  | configLoadBusHeld => cases hexec; exact ended _ rfl (Loader.legal_defaults rfl rfl)
  | _ => exact hother rfl

/-- A law that every move but the end of the load keeps. -/
theorem exec_keeps {L : State → Prop} {s t : State} {i : Instr} (hidle : ConfiguringIdle s) (hexec : exec i s = .next t)
    (hend : ∀ l : Loader, l.legal → s.Idle → L (s.endLoad l))
    (hmove : ∀ {k s t}, Move k s t → k ≠ .load → L s → L t) (hs : L s) : L t := by
  refine exec_keeps_of_load hidle hexec hs hend fun hload => ?_
  obtain ⟨u, hu, hpath⟩ := exec_reached i s
  cases hu.symm.trans hexec
  refine hpath.keeps (fun hk hm h => hmove hm ?_ h) hs
  rintro rfl
  rw [hk] at hload
  cases hload

theorem SlotLaw.exec {s t : State} {i : Instr} (hidle : ConfiguringIdle s) (hs : SlotLaw s)
    (hexec : exec i s = .next t) :
    SlotLaw t := by
  refine exec_keeps hidle hexec (fun l hl h => ?_) Move.slotLaw hs
  obtain ⟨station, p, records, _, _, heq⟩ := s.endLoad_eq l
  rw [heq]
  exact .of_empty hl.1 h.quota h.arbiter h.job_none h.night_none

/-! ### The tokens (R146) -/

theorem State.tokensBounded_of {s t : State} (hs : s.tokensBounded) (hdup : t.dup = s.dup)
    (hconfig : t.config = s.config) (hhold : t.holdInForce = true → s.holdInForce = true) : t.tokensBounded := by
  unfold State.tokensBounded
  rw [hdup, hconfig]
  exact ⟨hs.1, fun h => hs.2 (hhold h)⟩

theorem OnlyExpired.tokensBounded {s t : State} (h : OnlyExpired s t) (hs : s.tokensBounded) : t.tokensBounded := by
  have hdup : t.dup = s.dup := h.1 .dup (by simp)
  have hpins : t.pins = s.pins := h.1 .pins (by simp)
  have hpeers : t.peers = s.peers := h.1 .peers (by simp)
  refine State.tokensBounded_of hs hdup (congrArg Loader.config h.loader) fun hh => ?_
  simpa only [State.holdInForce, hpins, hpeers, State.config, h.loader] using hh

theorem Move.tokensBounded {k : Tag} {s t : State} (hm : Move k s t) (hload : k ≠ .load) (hs : s.tokensBounded) :
    t.tokensBounded := by
  cases hm with
  | pins h => exact State.tokensBounded_of hs rfl rfl fun hh => absurd (h.symm.trans hh) nofun
  | hold => exact ⟨Nat.zero_le _, fun _ => rfl⟩
  | dup h => exact h
  | peers h =>
    refine State.tokensBounded_of hs rfl rfl fun hh => ?_
    simp only [State.holdInForce, Bool.and_eq_true, ne_eq] at hh ⊢
    simpa only [h, State.isConfiguring] using hh
  | nightIssue =>
    obtain ⟨hbound, hzero⟩ := hs
    exact ⟨Nat.le_trans (Nat.sub_le _ _) hbound,
      fun hh => Nat.le_zero.1 (Nat.le_trans (Nat.sub_le _ _) (Nat.le_of_eq (hzero hh)))⟩
  | frameReturned => rw [State.returnFrame_frame]; exact hs
  | run => exact s.expiryRun_expired.tokensBounded hs
  | takeRun => exact s.takeRun_expired.tokensBounded hs
  | settle => exact s.settlePrecedence_expired.tokensBounded hs
  | load => exact absurd rfl hload
  | reset => exact ⟨Nat.zero_le _, fun _ => rfl⟩
  | _ => exact hs

theorem State.tokensBounded.exec {s t : State} {i : Instr} (hs : s.tokensBounded) (hidle : ConfiguringIdle s)
    (hexec : exec i s = .next t) : t.tokensBounded := by
  refine exec_keeps hidle hexec (fun l hl h => ?_) Move.tokensBounded hs
  obtain ⟨station, p, records, _, _, heq⟩ := s.endLoad_eq l
  rw [heq]
  exact ⟨Nat.le_trans (Nat.le_of_eq h.tokens) (Nat.zero_le _), fun _ => h.tokens⟩

end Sys2Proof.Machine
end

section
/-! PROOFS. O60: the precedence count, and the settled statement. -/

namespace Sys2Proof.Machine

/-! ### The bound of the count -/

/-- The precedence count is within the restore weight (R120). -/
def State.precedenceBounded (s : State) : Prop := s.arbiter.precedence ≤ s.config.restoreWeight

theorem State.precedenceBounded.settled {s : State} (hs : s.precedenceBounded) :
    s.settlePrecedence.precedenceBounded := by
  unfold State.settlePrecedence
  split
  · exact hs
  · exact Nat.zero_le _

theorem State.precedenceBounded.expiryRun {s : State} (hs : s.precedenceBounded) : s.expiryRun.precedenceBounded :=
  State.expiryRun_keeps (L := State.precedenceBounded) (fun _ _ h => h) (fun _ _ h => h) (fun _ _ _ h => h)
    (fun _ _ _ _ _ h => h) hs

theorem Move.precedenceBounded {k : Tag} {s t : State} (hm : Move k s t) (hload : k ≠ .load)
    (hs : s.precedenceBounded) : t.precedenceBounded := by
  cases hm with
  | precedence h => exact h hs
  | permitStray _ _ hcount => exact Nat.le_trans (Nat.le_of_eq hcount) hs
  | frameReturned => rw [State.returnFrame_frame]; exact hs
  | run => exact hs.expiryRun
  | takeRun => exact hs.expiryRun.settled
  | settle => exact hs.settled
  | load => exact absurd rfl hload
  | reset => exact Nat.zero_le _
  | _ => exact hs

/-! ### Who waits -/

theorem State.duplicationReady_iff (s : State) :
    s.duplicationReady = true ↔ s.config.chunk ≤ s.dup.tokens ∧ ∃ v < 16, (s.volume v).duplicable = true := by
  refine ⟨fun h => ⟨?_, State.exists_duplicable h⟩, fun ⟨htokens, v, hv, hdup⟩ => ?_⟩
  · simp only [State.duplicationReady, Bool.and_eq_true, decide_eq_true_eq] at h
    exact h.1
  · simp only [State.duplicationReady, Bool.and_eq_true, decide_eq_true_eq, List.any_eq_true, Vector.mem_toList_iff,
      Vector.mem_iff_getElem]
    exact ⟨htokens, _, ⟨v, hv, rfl⟩, by simpa [State.volume, hv] using hdup⟩

/-- The precedence count stands only while both sides wait (R120). -/
def State.countStands (s : State) : Prop :=
  s.arbiter.precedence ≠ 0 → s.restoreWaiting = true ∧ s.duplicationReady = true

theorem State.countStands_settled (s : State) : s.settlePrecedence.countStands := by
  unfold State.settlePrecedence
  split
  · rename_i h
    exact fun _ => Bool.and_eq_true_iff.1 h
  · exact fun h => absurd rfl h

theorem State.countStands_of_zero {s : State} (h : s.arbiter.precedence = 0) : s.countStands := fun hne => absurd h hne

/-- Whatever waits in one state waits in another, and the counts that decide are the same. -/
structure WaitsNoLess (s t : State) : Prop where
  count : t.arbiter.precedence = s.arbiter.precedence
  config : t.config = s.config
  tokens : t.dup = s.dup
  jobs : ∀ k j, s.job k = some j → j.waiting = true → ∃ j', t.job k = some j' ∧ j'.waiting = true
  nights : ∀ v, (s.volume v).duplicable = true → (t.volume v).duplicable = true

theorem State.countStands.of_noLess {s t : State} (hs : s.countStands) (h : WaitsNoLess s t) : t.countStands := by
  intro hne
  rw [h.count] at hne
  obtain ⟨hwaits, hready⟩ := hs hne
  obtain ⟨k, hk, hany⟩ := s.restoreWaiting_iff.1 hwaits
  obtain ⟨htokens, v, hv, hdup⟩ := s.duplicationReady_iff.1 hready
  obtain ⟨j, hj, hjwaits⟩ := Option.any_eq_true _ _ |>.1 hany
  obtain ⟨j', hj', hjwaits'⟩ := h.jobs k j hj hjwaits
  refine ⟨t.restoreWaiting_iff.2 ⟨k, hk, by rw [hj']; exact hjwaits'⟩,
    t.duplicationReady_iff.2 ⟨?_, v, hv, h.nights v hdup⟩⟩
  rw [h.config, h.tokens]
  exact htokens

/-- A change of what decides nothing. -/
theorem State.countStands.of_same {s t : State} (hs : s.countStands)
    (hcount : t.arbiter.precedence = s.arbiter.precedence) (hconfig : t.config = s.config) (hdup : t.dup = s.dup)
    (hjobs : t.jobs = s.jobs) (hvolumes : t.volumes = s.volumes) : t.countStands :=
  hs.of_noLess ⟨hcount, hconfig, hdup, fun k j hj hw => ⟨j, (State.job_congr hjobs k).trans hj, hw⟩,
    fun v h => (congrArg _ (State.volume_congr hvolumes v)).trans h⟩

theorem Volume.duplicable_congr {x y : Volume} (h : x.night = y.night) : x.duplicable = y.duplicable := by
  unfold Volume.duplicable
  rw [h]

/-- A slot is written with a job that waits where the one before it did, or that slot did not wait. -/
theorem State.countStands.of_slot {s t : State} (hs : s.countStands) {slot : Nat} {j : Option Job}
    (hjobs : t.jobs = (s.setJob slot j).jobs)
    (hslot : ∀ i, s.job slot = some i → i.waiting = true → ∃ i', j = some i' ∧ i'.waiting = true)
    (hcount : t.arbiter.precedence = s.arbiter.precedence) (hconfig : t.config = s.config) (hdup : t.dup = s.dup)
    (hnights : ∀ v, (t.volume v).night = (s.volume v).night) : t.countStands := by
  refine hs.of_noLess ⟨hcount, hconfig, hdup, fun k i hi hw => ?_,
    fun v h => (Volume.duplicable_congr (hnights v)).trans h⟩
  rw [State.job_congr (s := s.setJob slot j) hjobs]
  by_cases hk : k = slot
  · subst hk
    rw [State.job_setJob_same s j (s.job_lt hi)]
    exact hslot i hi hw
  · rw [State.job_setJob_ne s j hk]
    exact ⟨i, hi, hw⟩

/-- A volume is written with a night that can be duplicated where the one before it could. -/
theorem State.countStands.of_volume {s t : State} (hs : s.countStands) {v : Nat} {x : Volume}
    (hvolumes : t.volumes = (s.setVolume v x).volumes)
    (hvolume : (s.volume v).duplicable = true → x.duplicable = true)
    (hcount : t.arbiter.precedence = s.arbiter.precedence) (hconfig : t.config = s.config) (hdup : t.dup = s.dup)
    (hjobs : t.jobs = s.jobs) : t.countStands := by
  refine hs.of_noLess ⟨hcount, hconfig, hdup, fun k j hj hw => ⟨j, (State.job_congr hjobs k).trans hj, hw⟩,
    fun w h => ?_⟩
  rw [State.volume_congr (s := s.setVolume v x) hvolumes]
  by_cases hw : w = v
  · subst hw
    obtain ⟨n, hn, _⟩ := Volume.duplicable_iff.1 h
    rw [State.volume_setVolume_same s x (s.night_lt hn)]
    exact hvolume h
  · rw [State.volume_setVolume_ne s x hw]
    exact h

theorem Volume.not_duplicable_of_none {x : Volume} (h : x.night = none) : x.duplicable = false := by
  simp [Volume.duplicable, h]

theorem Volume.not_duplicable_of_state {x : Volume} {n : Night} (h : x.night = some n) (hstate : n.state ≠ .sending) :
    x.duplicable = false := by
  simp [Volume.duplicable, h, hstate]

theorem Job.not_waiting_of_state {j : Job} (h : j.state ≠ .running) : j.waiting = false := by
  simp [Job.waiting, h]

/-- A job that is RUNNING with at most as many permits waits where the one before it did. -/
theorem Job.waiting_of_fewer {i j : Job} (hstate : j.state = i.state) (hdeferred : j.deferred = i.deferred)
    (hpermits : j.permits ≤ i.permits) (h : i.waiting = true) : j.waiting = true := by
  rw [Job.waiting_iff] at h ⊢
  obtain ⟨hrunning, hbelow, hnot⟩ := h
  exact ⟨hstate.trans hrunning, Nat.lt_of_le_of_lt hpermits hbelow, hdeferred.trans hnot⟩

/-- A move that is not marked as ending a side's wait leaves the count where it may stand. -/
theorem Move.countStands {k : Tag} {s t : State} (hm : Move k s t) (hunsettled : k ≠ .unsettled) (hload : k ≠ .load)
    (hlaw : SlotLaw s) (hs : s.countStands) : t.countStands := by
  have waiting {slot : Nat} {j i : Job} (hj : s.job slot = some j) (h : j.waiting = true → i.waiting = true) :
      ∀ i₀, s.job slot = some i₀ → i₀.waiting = true → ∃ i', some i = some i' ∧ i'.waiting = true := by
    intro i₀ hi₀ hw
    cases hj.symm.trans hi₀
    exact ⟨i, rfl, h hw⟩
  have notWaiting {slot : Nat} {j : Job} {o : Option Job} (hj : s.job slot = some j) (h : j.state ≠ .running) :
      ∀ i₀, s.job slot = some i₀ → i₀.waiting = true → ∃ i', o = some i' ∧ i'.waiting = true := by
    intro i₀ hi₀ hw
    cases hj.symm.trans hi₀
    rw [Job.not_waiting_of_state h] at hw
    cases hw
  have syncWaits {slot : Nat} {e : HeldEntry} (he : e ∈ s.quota.held) (horigin : e.origin = .restore slot) {j : Job}
      (hj : s.job slot = some j) : j.state = .syncWait := by
    obtain ⟨i, hi, hstate⟩ := hlaw.job_of_held he horigin
    cases hj.symm.trans hi
    exact hstate
  cases hm with
  | chunkLeaves hjob hstate hheld =>
    refine hs.of_slot rfl (notWaiting hjob ?_) rfl rfl rfl fun _ => rfl
    obtain ⟨l₁, e, l₂, hl, ho, _⟩ | ⟨hsync, _⟩ := hheld
    · rw [syncWaits (by rw [hl]; exact List.mem_append_right _ (.head _)) ho hjob]; nofun
    · rw [hsync]; nofun
  | heldGranted hjob hheld horigin =>
    refine hs.of_slot rfl (notWaiting hjob ?_) rfl rfl rfl fun _ => rfl
    rw [syncWaits (by rw [hheld]; exact List.mem_append_right _ (.head _)) horigin hjob]
    nofun
  | job hjob hfrom hto htag =>
    obtain rfl | ⟨_, hwaits⟩ := htag
    · exact absurd rfl hunsettled
    · exact hs.of_slot rfl (waiting hjob hwaits) rfl rfl rfl fun _ => rfl
  | departure =>
    refine hs.of_noLess ⟨rfl, rfl, rfl, fun k j hj hw => ⟨{ j with deferred := false }, ?_, ?_⟩, fun _ h => h⟩
    · exact (State.job_departure s k).trans (by rw [hj]; rfl)
    · rw [Job.waiting_iff] at hw ⊢
      exact ⟨hw.1, hw.2.1, rfl⟩
  | permitStray _ _ hcount => exact hs.of_same hcount rfl rfl rfl rfl
  | jobReturn hp howner hjob hmoved =>
    exact hs.of_slot rfl (waiting hjob (Job.waiting_of_fewer rfl rfl (Nat.sub_le _ _))) rfl rfl rfl fun _ => rfl
  | jobExpire hp howner hjob =>
    exact hs.of_slot rfl (waiting hjob (Job.waiting_of_fewer rfl rfl (Nat.sub_le _ _))) rfl rfl rfl fun _ => rfl
  | jobLate he howner hjob hmoved =>
    exact hs.of_slot rfl (waiting hjob (Job.waiting_of_fewer rfl rfl (Nat.le_refl _))) rfl rfl rfl fun _ => rfl
  | @nightExpire _ p v generation n hp howner hn =>
    refine hs.of_volume rfl (fun h => ?_) rfl rfl rfl rfl
    simpa [Volume.duplicable, hn] using h
  | nightOpens _ _ hn =>
    exact hs.of_volume rfl (fun h => absurd (h.symm.trans (Volume.not_duplicable_of_none hn)) nofun) rfl rfl rfl rfl
  | nightResumes hn hsuspended =>
    exact hs.of_volume rfl
      (fun h => absurd (h.symm.trans (Volume.not_duplicable_of_state hn (by rw [hsuspended]; nofun))) nofun) rfl rfl
        rfl rfl
  | nightEnds hn hclosing =>
    refine hs.of_volume rfl (fun h => absurd (h.symm.trans (Volume.not_duplicable_of_state hn ?_)) nofun) rfl rfl rfl
      rfl
    intro hsending
    rw [hsending] at hclosing
    cases hclosing
  | declare | create | retireLater | retireNow =>
    exact hs.of_volume rfl (fun h => (Volume.duplicable_congr rfl).trans h) rfl rfl rfl rfl
  | @jobStarts _ slot tag v generation principal r p hslot hfree =>
    refine hs.of_slot (slot := slot) rfl (fun i hi => ?_) rfl rfl rfl (State.night_setVolume rfl)
    rw [hfree] at hi
    cases hi
  | @jobEnds _ slot j hjob hclosing =>
    refine hs.of_slot (slot := slot) (j := none) rfl (notWaiting hjob ?_) rfl rfl rfl
      (State.night_setVolume ((s.volume j.volume).release_night _))
    intro hrunning
    rw [hrunning] at hclosing
    cases hclosing
  | takeRun => exact s.expiryRun.countStands_settled
  | settle => exact s.countStands_settled
  | frameReturned => rw [State.returnFrame_frame]; exact hs.of_same rfl rfl rfl rfl rfl
  | load => exact absurd rfl hload
  | reset => exact State.countStands_of_zero rfl
  | hold | dup | run | precedence | heldChunk | chunkGranted | nightReturn | nightIssue | night | nightCloses =>
    exact absurd rfl hunsettled
  | _ => exact hs.of_same rfl rfl rfl rfl rfl

/-! ### The commands after which a side may have stopped waiting -/

/-- The writeback of an answer changes nothing that waits. -/
theorem State.countStands.answered {r : Reply} (h : r.state.countStands) : r.answered.countStands := by
  unfold Reply.answered State.respond
  split <;> exact h

/-- A request whose execution leaves the count where it may stand. -/
theorem State.countStands.serve {s t : State} {r : Request} {execute : State → Reply} (hs : s.countStands)
    (h : (execute s).state.countStands) (ht : s.serve r execute = .next t) : t.countStands := by
  cases ht
  split
  · exact h.answered
  · exact hs

/-- A request that is refused, or answers with the count settled. -/
theorem State.countStands.reply {s : State} {r : Reply} (hs : s.countStands)
    (h : r.state = s ∨ ∃ u : State, r.state = u.settlePrecedence) : r.state.countStands := by
  obtain h | ⟨u, h⟩ := h
  · rw [h]; exact hs
  · rw [h]; exact u.countStands_settled

theorem State.permitDone_settled (s : State) (id moved : Nat) :
    (s.permitDone id moved).state = s ∨ ∃ u : State, (s.permitDone id moved).state = u.settlePrecedence := by
  unfold State.permitDone
  split
  · exact .inr ⟨_, rfl⟩
  · split
    · exact .inr ⟨_, rfl⟩
    · exact .inl rfl

theorem State.finishRestore_settled (s : State) (slot tag : Nat) :
    (s.finishRestore slot tag).state = s ∨ ∃ u : State, (s.finishRestore slot tag).state = u.settlePrecedence := by
  unfold State.finishRestore
  split
  · exact .inl rfl
  · split
    · exact .inl rfl
    · split
      · exact .inl rfl
      · split
        · exact .inl rfl
        · exact .inl rfl
        all_goals exact .inr ⟨_, rfl⟩

theorem State.cancelRestore_settled (s : State) (slot tag : Nat) :
    (s.cancelRestore slot tag).state = s ∨ ∃ u : State, (s.cancelRestore slot tag).state = u.settlePrecedence := by
  unfold State.cancelRestore
  split
  · exact .inl rfl
  · split
    · exact .inl rfl
    · split
      · exact .inl rfl
      · split
        · exact .inl rfl
        all_goals exact .inr ⟨_, rfl⟩

theorem State.finishNight_settled (s : State) (v : Nat) :
    (s.finishNight v).state = s ∨ ∃ u : State, (s.finishNight v).state = u.settlePrecedence := by
  unfold State.finishNight
  split
  · exact .inl rfl
  · split
    · exact .inl rfl
    · split
      · exact .inl rfl
      · split
        · exact .inl rfl
        · exact .inl rfl
        all_goals exact .inr ⟨_, rfl⟩

theorem State.abandonNight_settled (s : State) (v : Nat) :
    (s.abandonNight v).state = s ∨ ∃ u : State, (s.abandonNight v).state = u.settlePrecedence := by
  unfold State.abandonNight
  split
  · exact .inl rfl
  · split
    · exact .inl rfl
    · split
      · exact .inl rfl
      · split
        · exact .inl rfl
        all_goals exact .inr ⟨_, rfl⟩

theorem State.countStands.offholdRise {s t : State} (hs : s.countStands) (h : execOffholdRise s = .next t) :
    t.countStands := by
  cases h
  split
  · exact hs
  · split
    · exact State.countStands_settled _
    · exact hs.of_same rfl rfl rfl rfl rfl

theorem State.countStands.reload {s t : State} (hs : s.countStands) (h : execReload s = .next t) : t.countStands := by
  cases h
  split
  · exact hs
  · exact State.countStands_settled _

/-- A duplication choice leaves the count alone (R122). -/
theorem State.duplicationChoice_precedence (s : State) :
    s.duplicationChoice.arbiter.precedence = s.arbiter.precedence := by
  unfold State.duplicationChoice
  split
  · rfl
  · split <;> rfl

/-- The arbiter settles the count, or brings it to 0 (R120). -/
theorem State.countStands.arbiterChoice {s t : State} (hs : s.countStands) (h : execArbiterChoice s = .next t) :
    t.countStands := by
  cases h
  have harbitrate : s.arbitrate.countStands := by
    unfold State.arbitrate
    split
    · exact hs
    · split
      · exact hs
      · exact State.countStands_of_zero (State.restoreChoice_keeps _).2
      · exact State.countStands_of_zero (State.duplicationChoice_precedence _)
      · split
        · exact State.countStands_settled _
        · exact State.countStands_of_zero (State.duplicationChoice_precedence _)
  unfold State.insertionTest
  split
  · exact State.countStands_settled _
  · exact harbitrate

theorem State.countStands.exec {s t : State} {i : Instr} (hidle : ConfiguringIdle s) (hlaw : SlotLaw s)
    (hs : s.countStands) (hexec : exec i s = .next t) : t.countStands := by
  refine exec_keeps_of_load hidle hexec hs (fun l hl h => ?_) fun hload => ?_
  · obtain ⟨station, p, records, _, _, heq⟩ := s.endLoad_eq l
    rw [heq]
    exact State.countStands_of_zero (congrArg Arbiter.precedence h.arbiter)
  · have still (hunsettled : tagsOf i .unsettled = false) : t.countStands := by
      obtain ⟨u, hu, hpath⟩ := exec_reached i s
      cases hu.symm.trans hexec
      have ne {k j : Tag} (hk : tagsOf i k = true) (hj : tagsOf i j = false) : k ≠ j := by
        rintro rfl
        rw [hk] at hj
        cases hj
      exact (hpath.keeps (L := fun u => SlotLaw u ∧ u.countStands)
        (fun hk hm ⟨h, hc⟩ => ⟨hm.slotLaw (ne hk hload) h, hm.countStands (ne hk hunsettled) (ne hk hload) h hc⟩)
        ⟨hlaw, hs⟩).2
    cases i with
    | offholdRise => exact hs.offholdRise hexec
    | reload => exact hs.reload hexec
    | arbiterChoice => exact hs.arbiterChoice hexec
    | clockSet minute => exact hs.serve (execute := (·.setClock minute)) (State.countStands_settled _) hexec
    | permitDone id moved =>
      exact hs.serve (execute := (·.permitDone id moved)) (hs.reply (s.permitDone_settled id moved)) hexec
    | restoreEnd slot tag =>
      exact hs.serve (execute := (·.finishRestore slot tag)) (hs.reply (s.finishRestore_settled slot tag)) hexec
    | restoreCancel slot tag =>
      exact hs.serve (execute := (·.cancelRestore slot tag)) (hs.reply (s.cancelRestore_settled slot tag)) hexec
    | nightDone v => exact hs.serve (execute := (·.finishNight v)) (hs.reply (s.finishNight_settled v)) hexec
    | nightAbandon v => exact hs.serve (execute := (·.abandonNight v)) (hs.reply (s.abandonNight_settled v)) hexec
    | _ => exact still rfl

theorem State.precedenceBounded.exec {s t : State} {i : Instr} (hidle : ConfiguringIdle s) (hs : s.precedenceBounded)
    (hexec : exec i s = .next t) : t.precedenceBounded := by
  refine exec_keeps hidle hexec (fun l hl h => ?_) Move.precedenceBounded hs
  obtain ⟨station, p, records, _, _, heq⟩ := s.endLoad_eq l
  rw [heq]
  exact Nat.le_trans (Nat.le_of_eq (congrArg Arbiter.precedence h.arbiter)) (Nat.zero_le _)

/-- A law through the step, from the same law through a command. -/
theorem step_keeps_of_exec {L : State → Prop} (hpending : ∀ (s : State) (l : List Instr), L s →
    L { s with pending := l })
    (hexec : ∀ {i : Instr} {s t : State}, exec i s = .next t → L s → L t) {s t : State} (hstep : step s = .next t)
    (hs : L s) : L t := by
  unfold step at hstep
  split at hstep
  · cases hstep; exact hs
  · rename_i i rest _
    exact hexec hstep (hpending s rest hs)

theorem ReadSlotLaw.exec {s t : State} {i : Instr} (hexec : exec i s = .next t) (hs : ReadSlotLaw s) :
    ReadSlotLaw t := by
  obtain ⟨hidle, hlaw⟩ := slotLaw_iff.1 hs
  exact slotLaw_iff.2 ⟨hidle.exec hexec, hlaw.exec hidle hexec⟩

theorem TokenLaw.exec {s t : State} {i : Instr} (hexec : exec i s = .next t) (hs : TokenLaw s) : TokenLaw t :=
  ⟨ConfiguringIdle.exec hs.1 hexec, State.tokensBounded.exec hs.2 hs.1 hexec⟩

theorem PrecedenceLaw.exec {s t : State} {i : Instr} (hexec : exec i s = .next t)
    (hs : ReadSlotLaw s ∧ PrecedenceLaw s) :
    ReadSlotLaw t ∧ PrecedenceLaw t := by
  obtain ⟨hslots, hbounded, hstands⟩ := hs
  obtain ⟨hidle, hlaw⟩ := slotLaw_iff.1 hslots
  exact ⟨hslots.exec hexec, State.precedenceBounded.exec hidle hbounded hexec,
    State.countStands.exec hidle hlaw hstands hexec⟩

/-- Settles O60: nothing is in use before the load has ended; from there the books of slots and nights, the bounds of
the tokens and the count are kept. -/
theorem stepKeepsReadSlotsTokensAndPrecedence : Obligations.StepKeepsReadSlotsTokensAndPrecedence := by
  intro s t _ hstep hs
  exact ⟨step_keeps_of_exec (fun _ _ h => h) ReadSlotLaw.exec hstep hs,
    fun htoken => step_keeps_of_exec (fun _ _ h => h) TokenLaw.exec hstep htoken,
    fun hcount => (step_keeps_of_exec (L := fun s => ReadSlotLaw s ∧ PrecedenceLaw s) (fun _ _ h => h)
      PrecedenceLaw.exec hstep ⟨hs, hcount⟩).2⟩

end Sys2Proof.Machine
end

section
/-! PROOFS. The step and the reset (O1, O3, O54), and what changes one block and leaves every other alone. -/

namespace Sys2Proof.Machine

/-! ### One block changes -/

/-- Only the port changes. -/
theorem Unchanged.port (s : State) (p : Port) : Unchanged [.port] s { s with port := p } := by
  intro b hb
  cases b with
  | port => simp at hb
  | _ => rfl

/-- Only the bus changes. -/
theorem Unchanged.bus (s : State) (b : Bus) : Unchanged [.bus] s { s with bus := b } := by
  intro b hb
  cases b with
  | bus => simp at hb
  | _ => rfl

/-- Only the pins change. -/
theorem Unchanged.pins (s : State) (p : Pins) : Unchanged [.pins] s { s with pins := p } := by
  intro b hb
  cases b with
  | pins => simp at hb
  | _ => rfl

theorem Unchanged.refl (l : List Block) (s : State) : Unchanged l s s := fun b _ => by cases b <;> rfl

/-- Settles O1: the queue's front is what `step` matches on. -/
theorem stepTakesFrontCommand : Obligations.StepTakesFrontCommand :=
  ⟨fun _ _ _ h => by simp only [step, h], fun _ h => by simp only [step, h]⟩

/-! ### The reset state -/

theorem State.reset_peer {k : Nat} : State.reset.peer k = {} := by
  unfold State.peer Peers.peer
  split
  · simp [State.reset]
  · rfl

theorem State.reset_idle : State.reset.Idle :=
  State.Idle.reset (straps := State.reset.straps) (pins := State.reset.pins) (g := State.reset.bus.generator)
    (line := State.reset.bus.line) (pending := State.reset.pending)

/-- Settles O3: the state that a hardware reset answers, block by block. -/
theorem hardwareResetReturnsEveryBlock : Obligations.HardwareResetReturnsEveryBlock := by
  intro station wide s
  have hidle : State.Idle { State.reset with
      straps := { station := station, wideAddress := wide }
      pins := s.pins
      bus := { generator := { seed := station }, line := { busy := s.bus.line.busy, ignored := s.bus.line.busy } }
      pending := s.pending } := .reset
  exact ⟨_, rfl, rfl, rfl, rfl, rfl, rfl, rfl, rfl, rfl, rfl, rfl, rfl, rfl, rfl, rfl, rfl, rfl, rfl, rfl, rfl, rfl,
    rfl,
    rfl, fun k _ => State.reset_peer, rfl, rfl, rfl, rfl, rfl, rfl, hidle.volumes, hidle.jobs, rfl, rfl, rfl, rfl, rfl,
    rfl, rfl, rfl, rfl, rfl, rfl, rfl, rfl, rfl, rfl, rfl, rfl⟩

/-- Settles O54: the reset state is idle, and every table of it is empty. -/
theorem lawsHoldAtReset : Obligations.LawsHoldAtReset := by
  have hidle := State.reset_idle
  have hring (align : Nat) : ({} : RingRegs).legal align := ⟨Nat.zero_mod _, .inl rfl, fun h => absurd rfl h⟩
  have hcatalogue (v : Nat) (hv : v < 16) : State.reset.catalogueLaw v := by
    unfold State.catalogueLaw
    rw [hidle.volumes v hv]
    exact ⟨.nil, rfl, nofun, rfl, fun _ => ⟨rfl, rfl, rfl⟩⟩
  refine ⟨⟨?_, ?_, ?_, ?_, fun v hv => ?_, ?_, nofun⟩, Loader.legal_defaults rfl rfl,
    ⟨hring 64, hring 32, fun h => absurd rfl h, fun h => absurd rfl h, nofun⟩, ⟨trivial, ?_, ?_, ?_⟩,
    ⟨.nil, nofun, .nil, .nil, nofun, nofun⟩, ⟨trivial, trivial, nofun⟩, ⟨.nil, nofun, trivial⟩,
    .of_none (fun _ => rfl) rfl rfl rfl, nofun, ⟨.nil, .nil, .nil, nofun, nofun, fun v hv => ?_⟩,
    ⟨hcatalogue, fun k hk => ?_⟩, slotLaw_iff.2 ⟨configuringIdle_iff.2 fun _ => hidle, .reset rfl rfl rfl rfl rfl⟩,
    ⟨?_, fun h => absurd rfl h⟩, configuringIdle_iff.2 fun _ => hidle, ?_, fun _ => rfl⟩
  case refine_5 => rw [hidle.volumes v hv]; exact Nat.zero_le _
  case refine_10 => rw [hidle.volumes v hv]; rfl
  case refine_11 => rw [hidle.jobs k hk]; rfl
  all_goals exact Nat.zero_le _

end Sys2Proof.Machine
end

section
/-! PROOFS. The port's completions, its link errors and its registers, the transmitter's timers and the queries (O17,
O34, O44, O46, O51). -/

namespace Sys2Proof.Machine

/-- Settles O17: each of the four commands changes the bus alone. -/
theorem transmitterTimersAndCollision : Obligations.TransmitterTimersAndCollision := by
  refine ⟨fun s hstate hticks => ?_, fun s hstate => ?_, fun s f hstate hgap hframe => ?_, fun s hstate => ?_⟩
  · have hexec : exec .holdoffEnd s = .next (s.setTx { s.bus.tx with state := .idle, holdoffTicks := 0 }) := by
      show execHoldoffEnd s = _
      simp only [execHoldoffEnd, hstate, if_pos hticks]
    exact ⟨_, hexec, rfl, .bus s _⟩
  · have hexec : exec .backoffEnd s =
        .next (s.deferring { s.bus.tx with attempt := s.bus.tx.attempt + 1, backoffSlots := 0 }) := by
      show execBackoffEnd s = _
      simp only [execBackoffEnd, hstate]
    exact ⟨_, hexec, rfl, .bus s _⟩
  · have hexec : exec .interframeGapComplete s = .next { s with bus := { s.bus with
        tx := { s.bus.tx with state := .sending, gapRunning := false, driven := f.bytes }
        line := { s.bus.line with echo := true } } } := by
      show execInterframeGapComplete s = _
      simp only [execInterframeGapComplete, hstate, hgap, hframe, Option.map_some, Option.getD_some]
    exact ⟨_, hexec, rfl, .bus s _⟩
  · have hexec : exec .collision s = .next { s with bus := { s.bus with
        tx := { s.bus.tx with state := .jamming }
        line := { s.bus.line with busy := true } } } := by
      show execCollision s = _
      simp only [execCollision, hstate]
    exact ⟨_, hexec, rfl, .bus s _⟩

/-! ### Queries -/

/-- A query that answers from the state as it is. -/
theorem reads_of_reply {i : Instr} {s : State} {a : Nat} {q : Request} {r : Reply} {values : List Field}
    (hs : s.serves a q) (hexec : exec i s = .next r.answered) (hr : r = ⟨s, .done, values⟩) :
    exec i s = .next { s with port := { s.port with phase := .returning a ⟨.done, false, values⟩ } } := by
  obtain ⟨_, hphase⟩ := hs
  rw [hexec, hr, Reply.answered_eq hphase]

/-- Settles O34: each query's reply, outcome by outcome. -/
theorem queriesAnswerAndChangeNothing : Obligations.QueriesAnswerAndChangeNothing := by
  refine fun s a => ⟨fun id hs => ?_, fun k hs => ?_, fun hs => ?_, fun v start hs => ?_, fun v hs => ?_, fun hs => ?_,
    fun hs => ?_⟩
  · have hexec := State.serve_takes hs (·.queryPrincipal id)
    refine ⟨fun hbad => refuses_of_reply hs hexec ?_, fun h1 h2 hp => refuses_of_reply hs hexec ?_,
      fun p h1 h2 hp => reads_of_reply hs hexec ?_⟩
    · simp [State.queryPrincipal, validId_eq_false_iff.2 hbad]
    · simp [State.queryPrincipal, validId_iff.2 ⟨h1, h2⟩, hp]
    · simp [State.queryPrincipal, validId_iff.2 ⟨h1, h2⟩, hp]
  · have hexec := State.serve_takes hs (·.queryPeer k)
    exact ⟨fun hbad => refuses_of_reply hs hexec (if_pos hbad),
      fun hk => reads_of_reply hs hexec (if_neg (Nat.not_lt.2 hk))⟩
  · exact reads_of_reply hs (State.serve_takes hs State.queryNotice) rfl
  · have hexec := State.serve_takes hs (·.queryCatalogue v start)
    refine ⟨fun hbad => refuses_of_reply hs hexec (if_pos hbad), fun hv hd => refuses_of_reply hs hexec ?_,
      fun hv hd => reads_of_reply hs hexec ?_⟩
    all_goals simp [State.queryCatalogue, Nat.not_lt.2 hv, hd]
  · have hexec := State.serve_takes hs (·.queryNight v)
    refine ⟨fun hbad => refuses_of_reply hs hexec (if_pos hbad), fun hv hd => refuses_of_reply hs hexec ?_,
      fun hv hd => reads_of_reply hs hexec ?_⟩
    all_goals simp [State.queryNight, Nat.not_lt.2 hv, hd]
  · exact reads_of_reply hs (State.serve_takes hs State.queryClock) rfl
  · exact reads_of_reply hs (State.serve_takes hs State.queryConfig) rfl

/-! ### The port -/

theorem length_padTo (n : Nat) (l : List Byte) : (padTo n l).length = n := by
  simp [padTo]

/-- Settles O44: the state in which a descriptor has been returned, of the request in hand or of a held answer. -/
theorem writebackDoneReturnsTheDescriptor : Obligations.WritebackDoneReturnsTheDescriptor := by
  refine ⟨fun s a answer hstate hphase => ?_, fun s x rest hheld => ?_, fun x => ⟨?_, rfl, ?_⟩⟩
  · have hexec : exec (.requestWritebackDone false) s = .next (s.returned a answer) := by
      show execRequestWritebackDone false s = _
      simp only [execRequestWritebackDone, hstate, hphase]
    exact ⟨_, hexec, rfl, .port s _⟩
  · have hexec : exec (.requestWritebackDone true) s = .next (s.heldReturned x rest) := by
      show execRequestWritebackDone true s = _
      simp only [execRequestWritebackDone, hheld]
    exact ⟨_, hexec, rfl, .port s _⟩
  · simp [Answer.bytes, length_padTo]
  · cases h : x.held <;> simp [Answer.bytes, h]

/-- Settles O46: the fault of both processes. -/
theorem linkErrorFaultsBothProcesses : Obligations.LinkErrorFaultsBothProcesses := by
  intro s access haccess
  have hexec : exec (.linkError access) s = .next s.linkFault := congrArg _ (if_pos haccess)
  exact ⟨_, hexec, rfl, rfl, .port s _⟩

theorem Flag.index_lt (f : Flag) : f.index < 6 := by cases f <;> decide

theorem Flag.index_injective {f g : Flag} (h : f.index = g.index) : f = g := by
  cases f <;> cases g <;> cases h <;> rfl

theorem Port.flagSet_setFlag_same (p : Port) (f : Flag) : (p.setFlag f).flagSet f = true := by
  simp [Port.flagSet, Port.setFlag, f.index_lt]

theorem Port.flagSet_setFlag_ne (p : Port) {f g : Flag} (h : g ≠ f) : (p.setFlag f).flagSet g = p.flagSet g := by
  have hne : f.index ≠ g.index := fun heq => h (Flag.index_injective heq).symm
  simp [Port.flagSet, Port.setFlag, hne]

/-- Settles O51: the registers one by one, and the two outcomes of a raised record. -/
theorem flagsMaskAndOtherWrites : Obligations.FlagsMaskAndOtherWrites := by
  refine ⟨fun p f => ⟨p.flagSet_setFlag_same f, fun g => p.flagSet_setFlag_ne, fun hset hmask => ?_, fun h => ?_, rfl⟩,
    fun s value => ⟨_, rfl, fun f => ?_, rfl, .port s _⟩, fun s value => ⟨_, rfl, fun f => ?_, rfl, .port s _⟩,
    fun s value => ⟨_, rfl, rfl, .port s _⟩, fun s offset width value _ => rfl,
    fun p e => ⟨fun h => if_pos h, fun h => if_neg (Nat.not_lt.2 h)⟩⟩
  · simp [Port.setFlag, hset, hmask]
  · simp [Port.setFlag, h]
  · simp [Port.flagSet, Port.clearFlags, f.index_lt]
  · simp [Port.flagMasked, Port.writeMask, f.index_lt]

end Sys2Proof.Machine
end

section
/-! PROOFS. The registers of the rings, PORT RESET and the control register (O48, O49, O50). -/

namespace Sys2Proof.Machine

/-! ### Ring registers (R160) -/

/-- Two halves of a base make it, most significant first. -/
theorem toNat_append_halves (top low : BitVec 32) : (top ++ low).toNat = top.toNat * 2 ^ 32 + low.toNat := by
  rw [BitVec.toNat_append, ← Nat.shiftLeft_add_eq_or_of_lt low.isLt, Nat.shiftLeft_eq]

/-- The base after a write of one half, rounded down to the descriptor size. -/
theorem RingRegs.writeBase_base (r : RingRegs) (high : Bool) (value : Word) (align : Nat) :
    (r.writeBase high value align).base.toNat =
      ((if high = true then value.toNat else r.base.toNat / 2 ^ 32) * 2 ^ 32 +
        (if high = true then r.base.toNat % 2 ^ 32 else value.toNat)) / align * align := by
  have rounded (b : BitVec 64) : (BitVec.ofNat 64 (b.toNat / align * align)).toNat = b.toNat / align * align := by
    rw [BitVec.toNat_ofNat]
    exact Nat.mod_eq_of_lt (Nat.lt_of_le_of_lt (Nat.div_mul_le_self _ _) b.isLt)
  have hlow : (r.base.extractLsb' 0 32).toNat = r.base.toNat % 2 ^ 32 := by simp
  have htop : (r.base.extractLsb' 32 32).toNat = r.base.toNat / 2 ^ 32 := by
    rw [BitVec.extractLsb'_toNat, Nat.shiftRight_eq_div_pow]
    exact Nat.mod_eq_of_lt (by have := r.base.isLt; omega)
  cases high
  · exact (rounded _).trans (by simp only [Bool.false_eq_true, if_false, toNat_append_halves, htop])
  · exact (rounded _).trans (by simp only [if_true, toNat_append_halves, hlow])

theorem storedSize_eq (n : Nat) :
    storedSize n = if n = 0 then 0 else if n < 16 then 16 else if 4096 < n then 4096 else n := by
  unfold storedSize
  split
  · rfl
  · split
    · omega
    · split <;> omega

/-- A position that the new size reaches stays, and any other comes to stand below it (log 8). -/
theorem RingRegs.writeSize_position (r : RingRegs) (value : Word) :
    (r.position < (r.writeSize value).size ∨ (r.writeSize value).size = 0 →
      (r.writeSize value).position = r.position) ∧
    ((r.writeSize value).size ≠ 0 → (r.writeSize value).position < (r.writeSize value).size) := by
  unfold RingRegs.writeSize
  dsimp only
  split
  · rename_i h
    exact ⟨fun hbelow => by omega, fun hne => Nat.mod_lt _ (Nat.pos_of_ne_zero hne)⟩
  · rename_i h
    exact ⟨fun _ => rfl, fun hne => by omega⟩

/-- Settles O50: both writes of either ring, STOPPED or not. -/
theorem ringWritesWhileStopped : Obligations.RingWritesWhileStopped := by
  intro s ring high value
  cases ring with
  | request =>
    refine ⟨fun hrun => ⟨congrArg Host.Outcome.next (if_neg hrun), congrArg Host.Outcome.next (if_neg hrun)⟩,
      fun (hstopped : s.port.requestState = .stopped) => ?_, fun (hstopped : s.port.requestState = .stopped) => ?_⟩
    · refine ⟨{ s with port := { s.port with requestRing := s.port.requestRing.writeBase high value 64 } },
        congrArg Host.Outcome.next (if_pos hstopped), ?_⟩
      exact ⟨s.port.requestRing.writeBase_base high value 64, rfl, rfl, rfl, .port s _⟩
    · obtain ⟨hstays, hbelow⟩ := s.port.requestRing.writeSize_position value
      refine ⟨{ s with port := { s.port with requestRing := s.port.requestRing.writeSize value } },
        congrArg Host.Outcome.next (if_pos hstopped), ?_⟩
      exact ⟨rfl, storedSize_eq _, hstays, hbelow, rfl, .port s _⟩
  | event =>
    refine ⟨fun hrun => ⟨congrArg Host.Outcome.next (if_neg hrun), congrArg Host.Outcome.next (if_neg hrun)⟩,
      fun (hstopped : s.port.eventState = .stopped) => ?_, fun (hstopped : s.port.eventState = .stopped) => ?_⟩
    · refine ⟨{ s with port := { s.port with eventRing := s.port.eventRing.writeBase high value 32 } },
        congrArg Host.Outcome.next (if_pos hstopped), ?_⟩
      exact ⟨s.port.eventRing.writeBase_base high value 32, rfl, rfl, rfl, .port s _⟩
    · obtain ⟨hstays, hbelow⟩ := s.port.eventRing.writeSize_position value
      refine ⟨{ s with port := { s.port with eventRing := s.port.eventRing.writeSize value } },
        congrArg Host.Outcome.next (if_pos hstopped), ?_⟩
      exact ⟨rfl, storedSize_eq _, hstays, hbelow, rfl, .port s _⟩

/-! ### PORT RESET (R169, R38) -/

theorem HeldEntry.isCharge_iff {e : HeldEntry} : e.isCharge = true ↔ ∃ a, e.origin = .charge a := by
  cases h : e.origin <;> simp [HeldEntry.isCharge, h]

/-- What the discarding of the held CHARGE entries leaves, with some held and with none. -/
theorem State.discardCharges_eq (s : State) :
    s.discardCharges = { s with
      quota := { s.quota with held := s.quota.held.filter fun e => !e.isCharge }
      port := s.discardCharges.port
      jobs := if s.quota.held.any (·.isCharge) = true then
          s.jobs.map fun j => j.map fun j => { j with deferred := false } else s.jobs } := by
  unfold State.discardCharges
  split
  · rfl
  · rename_i hnone
    have hsame : (s.quota.held.filter fun e => !e.isCharge) = s.quota.held := by
      rw [List.filter_eq_self]
      exact fun e he => by simpa using fun h => hnone (List.any_eq_true.2 ⟨e, he, h⟩)
    rw [hsame]

/-- Settles O49: the port at its reset values, and the held CHARGE entries gone. -/
theorem portResetActsOnThePortAlone : Obligations.PortResetActsOnThePortAlone := by
  intro s c hc
  have hjobs : s.portReset.jobs = if s.quota.held.any (·.isCharge) = true then
      s.jobs.map fun j => j.map fun j => { j with deferred := false } else s.jobs :=
    congrArg State.jobs s.discardCharges_eq
  have hframe : Unchanged [.port, .quota, .jobs] s s.portReset := by
    unfold State.portReset
    rw [s.discardCharges_eq]
    intro b hb
    cases b with
    | port | quota | jobs => simp at hb
    | _ => rfl
  have hport : s.portReset.port = s.port.afterReset := by
    unfold State.portReset State.discardCharges
    split <;> rfl
  have hquota : s.portReset.quota = { s.quota with held := s.quota.held.filter fun e => !e.isCharge } :=
    congrArg State.quota s.discardCharges_eq
  refine ⟨s.portReset, congrArg _ (if_pos hc), ?_⟩
  rw [hport, hquota]
  refine ⟨rfl, rfl, rfl, rfl, rfl, rfl, rfl, rfl, rfl, rfl, rfl, rfl, rfl, rfl, rfl, rfl, rfl, rfl, ?_,
    fun hsome k _ => ?_,
    fun hnone => ?_, hframe⟩
  · refine congrArg (fun held => ({ s.quota with held := held } : Quota)) (List.filter_congr fun e _ => ?_)
    unfold HeldEntry.isCharge
    cases e.origin <;> rfl
  · obtain ⟨e, he, hcharge⟩ := hsome
    rw [if_pos (List.any_eq_true.2 ⟨e, he, HeldEntry.isCharge_iff.2 hcharge⟩)] at hjobs
    exact (State.job_congr (s := s.departure) hjobs k).trans (State.job_departure s k)
  · rw [hjobs, if_neg]
    rintro hany
    obtain ⟨e, he, hcharge⟩ := List.any_eq_true.1 hany
    exact hnone ⟨e, he, HeldEntry.isCharge_iff.1 hcharge⟩

/-! ### The control register (R162, R163, R166, R182) -/

theorem controls_iff {c : Word} {bit other : Nat} :
    controls c bit other = true ↔ c.getLsbD bit = true ∧ c.getLsbD other = false ∧ c.getLsbD 7 = false := by
  simp [controls, and_assoc]

theorem controls_false_of_both {c : Word} {bit other : Nat} (h : c.getLsbD other = true) :
    controls c bit other = false := by simp [controls, h]

theorem controls_false_of_reset {c : Word} {bit other : Nat} (h : c.getLsbD 7 = true) :
    controls c bit other = false := by simp [controls, h]

/-- A word that does not control a process leaves it as it was. -/
theorem exec_control_skips {c : Word} (s : State) :
    (controls c 0 1 = false → exec (.requestStart c) s = .next s) ∧
    (controls c 1 0 = false → exec (.requestStop c) s = .next s) ∧
    (controls c 2 3 = false → exec (.eventStart c) s = .next s) ∧
    (controls c 3 2 = false → exec (.eventStop c) s = .next s) := by
  have hne {b : Bool} (h : b = false) : ¬ b = true := by rw [h]; nofun
  exact ⟨fun h => congrArg Host.Outcome.next (if_neg fun hp => hne h hp.1),
    fun h => congrArg Host.Outcome.next (if_neg (hne h)),
    fun h => congrArg Host.Outcome.next (if_neg fun hp => hne h hp.1),
    fun h => congrArg Host.Outcome.next (if_neg (hne h))⟩

/-- What a start does to a STOPPED request process. -/
theorem exec_requestStart {c : Word} {s : State} (hc : controls c 0 1 = true) (hs : s.port.requestState = .stopped) :
    exec (.requestStart c) s = .next { s with port :=
      if s.peers.station = .configuring then { s.port with request := { s.port.request with startRecorded := true } }
      else if s.port.requestRing.size = 0 then s.port else { s.port with requestState := .running } } := by
  refine (congrArg Host.Outcome.next (if_pos ⟨hc, hs⟩)).trans (congrArg _ ?_)
  split
  · rfl
  · split <;> rfl

/-- What a start does to a STOPPED event process. -/
theorem exec_eventStart {c : Word} {s : State} (hc : controls c 2 3 = true) (hs : s.port.eventState = .stopped) :
    exec (.eventStart c) s = .next { s with port :=
      if s.peers.station = .configuring then { s.port with event := { s.port.event with startRecorded := true } }
      else if s.port.eventRing.size = 0 then s.port else { s.port with eventState := .running } } := by
  refine (congrArg Host.Outcome.next (if_pos ⟨hc, hs⟩)).trans (congrArg _ ?_)
  split
  · rfl
  · split <;> rfl

/-- A stop changes the port alone. -/
theorem State.stopRequest_eq (s : State) : s.stopRequest = { s with port := s.stopRequest.port } := by
  unfold State.stopRequest
  cases s.port.requestState with
  | running => dsimp only; split <;> rfl
  | _ => rfl

theorem State.stopEvent_eq (s : State) : s.stopEvent = { s with port := s.stopEvent.port } := by
  unfold State.stopEvent
  cases s.port.eventState with
  | running => dsimp only; split <;> rfl
  | _ => rfl

/-- A poll demand at the request process, unless the word leaves that process. -/
theorem Port.pollRequestProcess_eq (p : Port) (leaves : Bool) :
    (if leaves = true then p else p.pollRequestProcess) = { p with
      requestState := if ¬ leaves = true ∧ p.requestState = .suspended then .running else p.requestState
      request := { p.request with
        poll := p.request.poll || decide (¬ leaves = true ∧ p.requestState = .running) } } := by
  cases leaves with
  | true => simp
  | false =>
    obtain ⟨state⟩ := p
    cases state <;> simp [Port.pollRequestProcess]

/-- A poll demand at the event process, unless the word leaves that process. -/
theorem Port.pollEventProcess_eq (p : Port) (leaves : Bool) :
    (if leaves = true then p else p.pollEventProcess) = { p with
      eventState := if ¬ leaves = true ∧ p.eventState = .stalled then .running else p.eventState
      event := { p.event with
        poll := p.event.poll || decide (¬ leaves = true ∧ p.eventState = .running) } } := by
  cases leaves with
  | true => simp
  | false =>
    obtain ⟨_, state⟩ := p
    cases state <;> simp [Port.pollEventProcess]

theorem leavesProcess_iff {c : Word} {start : Nat} :
    leavesProcess c start = true ↔ c.getLsbD start = true ∧ c.getLsbD (start + 1) = true := by
  simp [leavesProcess]

/-- Settles O48: the words that leave a process alone, and each start, stop and poll demand that does not. -/
theorem startsStopsAndPollDemands : Obligations.StartsStopsAndPollDemands := by
  refine ⟨fun s c => ?_, fun s c h0 h1 h7 => ?_, fun s c h2 h3 h7 => ?_, fun s c h1 h0 h7 => ?_, fun s c h3 h2 h7 => ?_,
    fun s c h4 h7 => ?_⟩
  · obtain ⟨hstart, hstop, hevstart, hevstop⟩ := exec_control_skips (c := c) s
    refine ⟨fun h0 h1 => ⟨hstart (controls_false_of_both h1), hstop (controls_false_of_both h0)⟩,
      fun h2 h3 => ⟨hevstart (controls_false_of_both h3), hevstop (controls_false_of_both h2)⟩,
      fun h7 => ⟨hstart (controls_false_of_reset h7), hstop (controls_false_of_reset h7),
        hevstart (controls_false_of_reset h7), hevstop (controls_false_of_reset h7), ?_⟩⟩
    show execPollDemand c s = _
    simp only [execPollDemand, h7, Bool.not_true, Bool.and_false, Bool.false_eq_true, if_false]
  · refine ⟨fun hs => congrArg Host.Outcome.next (if_neg fun hp => hs hp.2), fun hs => ?_⟩
    exact ⟨_, exec_requestStart (controls_iff.2 ⟨h0, h1, h7⟩) hs, rfl, .port s _⟩
  · refine ⟨fun hs => congrArg Host.Outcome.next (if_neg fun hp => hs hp.2), fun hs => ?_⟩
    exact ⟨_, exec_eventStart (controls_iff.2 ⟨h2, h3, h7⟩) hs, rfl, .port s _⟩
  · refine ⟨s.stopRequest, congrArg Host.Outcome.next (if_pos (controls_iff.2 ⟨h1, h0, h7⟩)), ?_, ?_⟩
    · unfold State.stopRequest
      cases s.port.requestState with
      | running => dsimp only; split <;> rfl
      | _ => rfl
    · rw [s.stopRequest_eq]
      exact .port s _
  · refine ⟨s.stopEvent, congrArg Host.Outcome.next (if_pos (controls_iff.2 ⟨h3, h2, h7⟩)), ?_, ?_⟩
    · unfold State.stopEvent
      cases s.port.eventState with
      | running => dsimp only; cases s.port.posting <;> rfl
      | _ => rfl
    · rw [s.stopEvent_eq]
      exact .port s _
  · have hexec : exec (.pollDemand c) s = .next { s with
        port := (if leavesProcess c 2 = true then
          (if leavesProcess c 0 = true then s.port else s.port.pollRequestProcess)
          else (if leavesProcess c 0 = true then s.port else s.port.pollRequestProcess).pollEventProcess) } := by
      refine congrArg Host.Outcome.next (if_pos ?_)
      rw [h4, h7]
      rfl
    refine ⟨_, hexec, ?_, .port s _⟩
    rw [Port.pollEventProcess_eq, Port.pollRequestProcess_eq]
    simp only [leavesProcess_iff]

end Sys2Proof.Machine
end

section
/-! PROOFS. The fetches and posts of both processes (O43, O45, O47). -/

namespace Sys2Proof.Machine

/-! ### Ownership (R160, R163) -/

theorem State.awaits_iff {s : State} {address : Nat} : s.awaits address = true ↔
    (∃ e ∈ s.quota.held, e.origin = .charge address) ∨ ∃ x ∈ s.port.heldAnswers, x.address = address := by
  simp [State.awaits]

/-- The descriptor at the position is the part's exactly where its ownership byte reads 01h and it awaits no answer. -/
theorem State.partOwned_iff {s : State} {bytes : List Byte} : s.partOwned bytes = true ↔
    bytes.head? = some 0x01#8 ∧ ¬ ((∃ e ∈ s.quota.held, e.origin = .charge s.port.requestAddress) ∨
      ∃ x ∈ s.port.heldAnswers, x.address = s.port.requestAddress) := by
  have hbyte : bytes.getD 0 0 = 0x01#8 ↔ bytes.head? = some 0x01#8 := by cases bytes <;> simp
  rw [← State.awaits_iff, ← hbyte]
  simp [State.partOwned]

/-- A descriptor that is not the part's has another ownership byte, or awaits an answer. -/
theorem State.partOwned_false_iff {s : State} {bytes : List Byte} : s.partOwned bytes = false ↔
    bytes.head? ≠ some 0x01#8 ∨ ((∃ e ∈ s.quota.held, e.origin = .charge s.port.requestAddress) ∨
      ∃ x ∈ s.port.heldAnswers, x.address = s.port.requestAddress) := by
  rw [← Bool.not_eq_true, State.partOwned_iff, Classical.not_and_iff_not_or_not, Classical.not_not]

/-- A RUNNING process that has nothing in hand fetches. -/
theorem exec_requestDescriptorFetch {s : State} (hstate : s.port.requestState = .running)
    (hphase : s.port.phase = .idle)
    (bytes : List Byte) : exec (.requestDescriptorFetch bytes) s =
      .next (if s.partOwned bytes = true then s.takeDescriptor bytes else s.hostOwned) := by
  show execRequestDescriptorFetch bytes s = _
  simp only [execRequestDescriptorFetch, hstate, hphase]

/-- Settles O43: the descriptor is the part's, or the marker decides. -/
theorem requestFetchTakesDescriptor : Obligations.RequestFetchTakesDescriptor := by
  intro s bytes hstate hphase address awaits i
  have hexec := exec_requestDescriptorFetch hstate hphase bytes
  refine ⟨fun hpart hfree => ?_, fun hhost => ?_⟩
  · rw [if_pos (State.partOwned_iff.2 ⟨hpart, hfree⟩)] at hexec
    refine ⟨fun r hr => ⟨_, hexec, ?_, .port s _⟩, fun hnone => ⟨_, hexec, ?_, .port s _⟩⟩
    · simp only [State.takeDescriptor, hr, ← hstate]
      rfl
    · simp only [State.takeDescriptor, hnone, ← hstate]
      rfl
  · rw [if_neg (by rw [State.partOwned_false_iff.2 hhost]; nofun)] at hexec
    refine ⟨fun hpoll => ?_, fun hpoll => ?_⟩
    · exact ⟨_, hexec.trans (congrArg Host.Outcome.next (if_pos hpoll)), rfl, .port s _⟩
    · exact ⟨_, hexec.trans (congrArg Host.Outcome.next (if_neg (by rw [hpoll]; nofun))), rfl, .port s _⟩

/-! ### Records and their descriptors (R166, R178) -/

theorem EventRecord.double_iff (e : EventRecord) : e.double = true ↔ e.parts.length = 2 := by
  cases e with
  | busExcessCollision x => cases x <;> simp [EventRecord.double, EventRecord.parts]
  | _ => simp [EventRecord.double, EventRecord.parts]

theorem EventRecord.parts_length (e : EventRecord) : e.parts.length = 1 ∨ e.parts.length = 2 := by
  cases e with
  | busExcessCollision x => cases x <;> exact .inl rfl
  | restoreDone => exact .inr rfl
  | _ => exact .inl rfl

theorem EventRecord.double_iff_restoreDone (e : EventRecord) :
    e.double = true ↔ ∃ slot tag v g p c m x k, e = .restoreDone slot tag v g p c m x k := by
  cases e <;> simp [EventRecord.double]

theorem EventRecord.postable_iff {e : EventRecord} {own next : Byte} :
    e.postable own next = true ↔ own = 0x01#8 ∧ (e.parts.length = 2 → next = 0x01#8) := by
  rw [← EventRecord.double_iff]
  cases h : e.double <;> simp [EventRecord.postable, h]

/-- The writes of a record of one part, and of two. -/
theorem EventRecord.writes_eq (e : EventRecord) (first second : Nat) :
    (∀ values, e.parts = [values] →
      e.writes first second = [⟨first + 1, eventBytes e.kindCode 0 values⟩, ⟨first, [0x00#8]⟩]) ∧
    (∀ one two, e.parts = [one, two] →
      e.writes first second = [⟨second + 1, eventBytes e.kindCode 2 two⟩, ⟨second, [0x00#8]⟩,
        ⟨first + 1, eventBytes e.kindCode 1 one⟩, ⟨first, [0x00#8]⟩]) := by
  refine ⟨fun values h => ?_, fun one two h => ?_⟩ <;> simp only [EventRecord.writes, h] <;> rfl

theorem exec_eventDescriptorFetch {s : State} {e : EventRecord} {rest : List EventRecord}
    (hstate : s.port.eventState = .running) (hposting : s.port.posting = none) (hevents : s.port.events = e :: rest)
    (own next : Byte) : exec (.eventDescriptorFetch own next) s =
      .next (if e.postable own next = true then s.beginPost e else s.eventHostOwned) := by
  show execEventDescriptorFetch own next s = _
  simp only [execEventDescriptorFetch, hstate, hposting, hevents]

/-- Settles O45: the fetch of a descriptor of the event ring, and the end of a post. -/
theorem eventRecordsArePosted : Obligations.EventRecordsArePosted := by
  refine ⟨fun s own next e rest hstate hposting hevents => ?_, fun s w e rest hposting hevents => ?_, fun e => ?_⟩
  · intro ring at_ second part
    have hexec := exec_eventDescriptorFetch hstate hposting hevents own next
    refine ⟨fun hpart => ?_, fun hpart hpoll => ?_, fun hpart hpoll => ?_⟩
    · rw [if_pos (EventRecord.postable_iff.2 hpart)] at hexec
      obtain ⟨hone, htwo⟩ := e.writes_eq (s.port.eventAddress ring.position) (s.port.eventAddress ring.following)
      refine ⟨_, _, hexec, ?_, hone, htwo, .port s _⟩
      simp only [State.beginPost, ← hstate]
      rfl
    · rw [if_neg fun h => hpart (EventRecord.postable_iff.1 h)] at hexec
      exact ⟨_, hexec.trans (congrArg Host.Outcome.next (if_pos hpoll)), rfl, .port s _⟩
    · rw [if_neg fun h => hpart (EventRecord.postable_iff.1 h)] at hexec
      exact ⟨_, hexec.trans (congrArg Host.Outcome.next (if_neg (by rw [hpoll]; nofun))), rfl, .port s _⟩
  · have hexec : exec .eventPostDone s = .next (s.posted e rest w) := by
      show execEventPostDone s = _
      simp only [execEventPostDone, hposting, hevents]
    refine ⟨_, hexec, ?_, .port s _⟩
    simp only [State.posted, e.double_iff]
    rfl
  · refine ⟨e.parts_length, e.double_iff.symm.trans e.double_iff_restoreDone, fun values _ n => ?_⟩
    simp [eventBytes, length_padTo]

/-! ### Auto-poll (R163, R166) -/

theorem ProcessMarks.pollDue_of {m : ProcessMarks} (hset : m.waitInterval ≠ 0)
    (hpassed : m.waitInterval ≤ m.waitTicks) :
    m.pollDue = true := by
  simp [ProcessMarks.pollDue, Nat.pos_of_ne_zero hset, hpassed]

/-- A flag that still stands is set again with no effect (R168, log 18). -/
theorem Port.setFlag_of_set {p : Port} {f : Flag} (h : p.flagSet f = true) :
    (p.setFlag f).flags = p.flags ∧ (p.setFlag f).messages = p.messages := by
  refine ⟨?_, by simp [Port.setFlag, h]⟩
  refine BitVec.eq_of_getLsbD_eq fun i hi => ?_
  have hset : p.flags.getLsbD f.index = true := h
  by_cases hf : i = f.index
  · subst hf
    simp [Port.setFlag, hset]
  · simp [Port.setFlag, Ne.symm hf]

theorem State.pollEvent_eq {s : State} {e : EventRecord} {rest : List EventRecord} (h : s.port.events = e :: rest)
    (own next : Byte) : s.pollEvent own next =
      if e.postable own next = true then s.beginPost e
      else State.setFlag { s with port := { s.port with event := { s.port.event with waitTicks := 0 } } }
        .eventStalled := by
  unfold State.pollEvent
  split
  · rename_i hnil
    rw [h] at hnil
    cases hnil
  · rename_i hcons
    rw [h] at hcons
    cases hcons
    rfl

/-- Settles O47: an auto-poll of either ring, at a descriptor that is the part's and at any other. -/
theorem autoPollFetchesAgain : Obligations.AutoPollFetchesAgain := by
  refine ⟨fun s bytes hstate hset hpassed => ?_, fun s own next e rest hstate hevents hset hpassed => ?_⟩
  · intro address awaits
    have hexec : exec (.autoPoll (.request bytes)) s = .next (s.pollRequest bytes) :=
      congrArg Host.Outcome.next (if_pos ⟨hstate, ProcessMarks.pollDue_of hset hpassed⟩)
    refine ⟨fun hpart hfree => ?_, fun hhost => ?_⟩
    · rw [State.pollRequest, if_pos (State.partOwned_iff.2 ⟨hpart, hfree⟩)] at hexec
      exact ⟨_, hexec, rfl, .port s _⟩
    · rw [State.pollRequest, if_neg (by rw [State.partOwned_false_iff.2 hhost]; nofun)] at hexec
      exact ⟨_, hexec, rfl, hstate, fun hflag => Port.setFlag_of_set hflag, .port s _⟩
  · intro ring at_ second part
    have hexec : exec (.autoPoll (.event own next)) s = .next (s.pollEvent own next) :=
      congrArg Host.Outcome.next (if_pos ⟨hstate, ProcessMarks.pollDue_of hset hpassed⟩)
    rw [State.pollEvent_eq hevents] at hexec
    refine ⟨fun hpart => ?_, fun hpart => ?_⟩
    · rw [if_neg fun h => hpart (EventRecord.postable_iff.1 h)] at hexec
      exact ⟨_, hexec, rfl, .port s _⟩
    · rw [if_pos (EventRecord.postable_iff.2 hpart)] at hexec
      obtain ⟨hone, htwo⟩ := e.writes_eq (s.port.eventAddress ring.position) (s.port.eventAddress ring.following)
      exact ⟨_, _, hexec, rfl, hone, htwo, .port s _⟩

end Sys2Proof.Machine
end

section
/-! PROOFS. The hold line, the tick and the reload (O6, O7, O8). -/

namespace Sys2Proof.Machine

/-! ### The hold line (R147, R148) -/

theorem State.settlePrecedence_frame (s : State) : Unchanged [.arbiter] s s.settlePrecedence := by
  rw [State.settlePrecedence_eq_setPrecedence]
  intro b hb
  cases b with
  | arbiter => simp at hb
  | _ => rfl

/-- Without tokens for a chunk the duplication side is not ready, and the count goes to 0 (R120, R149). -/
theorem State.settlePrecedence_of_no_tokens {s : State} (h : s.dup.tokens < s.config.chunk) :
    s.settlePrecedence.arbiter.precedence = 0 := by
  have hready : s.duplicationReady = false := by
    rw [← Bool.not_eq_true, s.duplicationReady_iff]
    exact fun hr => absurd hr.1 (Nat.not_le.2 h)
  rw [State.settlePrecedence_eq_setPrecedence, if_pos (.inl hready)]
  rfl

/-- The part with the line up and no tokens (R147 step 1). -/
def State.emptied (s : State) : State :=
  { s with pins := { s.pins with offhold := true }, dup := { s.dup with tokens := 0 } }

theorem State.emptied_frame (s : State) : Unchanged [.pins, .dup] s s.emptied := by
  intro b hb
  cases b with
  | pins | dup => simp at hb
  | _ => rfl

/-- A rise that comes into force. -/
theorem exec_offholdRise_inForce {s : State} (hlow : s.pins.offhold = false) (hhonoured : s.config.holdHonoured = true)
    (hloaded : s.peers.station ≠ .configuring) :
    exec .offholdRise s = .next (s.emptied.shiftNights .sending .paused .hold).settlePrecedence := by
  have hforce : s.emptied.holdInForce = true := by
    show (s.config.holdHonoured && true && decide (s.peers.station ≠ .configuring)) = true
    rw [hhonoured, decide_eq_true hloaded]
    rfl
  exact congrArg Host.Outcome.next ((if_neg (by rw [hlow]; nofun)).trans (if_pos hforce))

/-- A rise that the configuration does not honour, or that meets the part CONFIGURING. -/
theorem exec_offholdRise_idle {s : State} (hlow : s.pins.offhold = false)
    (h : s.config.holdHonoured = false ∨ s.peers.station = .configuring) :
    exec .offholdRise s = .next { s with pins := { s.pins with offhold := true } } := by
  have hforce : State.holdInForce { s with pins := { s.pins with offhold := true } } = false := by
    show (s.config.holdHonoured && true && decide (s.peers.station ≠ .configuring)) = false
    obtain h | h := h <;> simp [h]
  exact congrArg Host.Outcome.next ((if_neg (by rw [hlow]; nofun)).trans (if_neg (by rw [hforce]; nofun)))

/-- The state after the rise: every block, in the order of R147. -/
theorem State.risen_spec (s : State) : ∃ t, t = (s.emptied.shiftNights .sending .paused .hold).settlePrecedence ∧
    t.pins = s.emptied.pins ∧ t.dup = s.emptied.dup ∧ (∀ v < 16, t.volume v = (s.volume v).shifted .sending .paused) ∧
    t.port = s.port.raises (s.shiftRecords .sending .paused .hold) ∧
    t.arbiter = { s.arbiter with precedence := t.arbiter.precedence } ∧
    (0 < s.config.chunk → t.arbiter.precedence = 0) ∧
    Unchanged [.pins, .dup, .volumes, .port, .arbiter] s t := by
  obtain ⟨hvolume, hport, hframe⟩ := s.emptied.shiftNights_eq .sending .paused .hold
  generalize s.emptied.shiftNights .sending .paused .hold = u at *
  have hsettled := u.settlePrecedence_frame
  have hpins : u.settlePrecedence.pins = u.pins := hsettled .pins (by simp)
  have hdup : u.settlePrecedence.dup = u.dup := hsettled .dup (by simp)
  have hvolumes : u.settlePrecedence.volumes = u.volumes := hsettled .volumes (by simp)
  have hrecords : u.settlePrecedence.port = u.port := hsettled .port (by simp)
  have hupins : u.pins = s.emptied.pins := hframe .pins (by simp)
  have hudup : u.dup = s.emptied.dup := hframe .dup (by simp)
  have huloader : u.loader = s.loader := hframe .loader (by simp)
  have huarbiter : u.arbiter = s.arbiter := hframe .arbiter (by simp)
  refine ⟨u.settlePrecedence, rfl, hpins.trans hupins, hdup.trans hudup,
    fun v hv => (State.volume_congr hvolumes v).trans (hvolume v hv), hrecords.trans hport, ?_, fun hchunk => ?_,
    (s.emptied_frame.trans (hframe.trans hsettled)).mono (by simp)⟩
  · rw [← huarbiter]
    exact congrArg State.arbiter u.settlePrecedence_spec.1
  · refine State.settlePrecedence_of_no_tokens ?_
    rw [hudup, State.config, huloader]
    exact hchunk

/-- Settles O6: the rise in force, the rise that is not, and the fall. -/
theorem offholdRiseAndFall : Obligations.OffholdRiseAndFall := by
  refine ⟨fun s hlow => ?_, fun s => ⟨_, rfl, rfl, .pins s _⟩⟩
  by_cases h : s.config.holdHonoured = false ∨ s.peers.station = .configuring
  · refine ⟨_, exec_offholdRise_idle hlow h, rfl, fun hhonoured hloaded => ?_, fun _ => .pins s _⟩
    obtain h | h := h
    · exact absurd (h.symm.trans hhonoured) nofun
    · exact absurd h hloaded
  · obtain ⟨hhonoured, hloaded⟩ := not_or.1 h
    obtain ⟨t, ht, hpins, hdup, hvolume, hport, harbiter, hcount, hframe⟩ := s.risen_spec
    refine ⟨t, ht ▸ exec_offholdRise_inForce hlow (by simpa using hhonoured) hloaded, ?_, fun _ _ => ?_,
      fun h' => absurd h' h⟩
    · rw [hpins]
      rfl
    · exact ⟨hdup, hvolume, hport, harbiter, hcount, hframe⟩

/-! ### The tick (R152) -/

theorem Clock.tick_eq (c : Clock) :
    (c.millis < 999 → c.tick = { c with millis := c.millis + 1 }) ∧
    (c.millis = 999 → c.seconds < 59 →
      c.tick = { c with millis := 0, seconds := c.seconds + 1, reloadsDue := c.reloadsDue + 1 }) ∧
    (c.millis = 999 → c.seconds = 59 → c.tick = { c with
      millis := 0, seconds := 0, minute := min max32 (c.minute + 1), reloadsDue := c.reloadsDue + 1 }) := by
  unfold Clock.tick
  refine ⟨fun h => if_pos h, fun h h' => ?_, fun h h' => ?_⟩
  · rw [if_neg (by omega), if_pos h']
  · rw [if_neg (by omega), if_neg (by omega)]
    rfl

theorem Notice.ticked_eq (n : Notice) (running : Bool) (rate : Nat) : n.ticked running rate =
    { n with sweepCredit := n.sweepCredit + (if running = true then rate else 0) } := by
  unfold Notice.ticked
  split <;> rfl

theorem Bus.ticked_holdoff (b : Bus) : b.ticked.tx =
    { b.tx with holdoffTicks := b.tx.holdoffTicks + (if b.tx.state = .holdoff then 1 else 0) } := by
  unfold Bus.ticked
  dsimp only
  split <;> rfl

theorem Port.ticked_eq (p : Port) : p.ticked = { p with
    request := { p.request with
      waitTicks := p.request.waitTicks + (if p.requestState = .suspended then 1 else 0) }
    event := { p.event with
      waitTicks := p.event.waitTicks + (if p.eventState = .stalled then 1 else 0) } } := by
  unfold Port.ticked
  split <;> split <;> rfl

theorem Peer.ticked_eq (p : Peer) : p.ticked =
    if p.state = .absent then p else { p with age := p.age.map fun a => min max32 (a + 1) } := by
  obtain ⟨state⟩ := p
  cases state <;> rfl

/-- A record ages once the load has ended, while its station is not ABSENT (R63). -/
theorem State.peer_ticked (s : State) (k : Nat) (hk : k < 16) : s.ticked.peer k =
    if s.peers.station = .configuring ∨ (s.peer k).state = .absent then s.peer k
    else { s.peer k with age := (s.peer k).age.map fun a => min max32 (a + 1) } := by
  have hpeer : s.ticked.peer k = if s.peers.station = .configuring then s.peer k else (s.peer k).ticked := by
    simp only [State.peer, Peers.peer, hk, dif_pos, State.ticked, Peers.ticked]
    split
    · rfl
    · exact Vector.getElem_map _ _
  rw [hpeer]
  by_cases hc : s.peers.station = .configuring
  · rw [if_pos hc, if_pos (.inl hc)]
  · rw [if_neg hc, Peer.ticked_eq]
    simp only [hc, false_or]

/-- Settles O7: the tick block by block. -/
theorem tickCountsInEveryBlock : Obligations.TickCountsInEveryBlock := by
  intro s
  obtain ⟨hmillis, hseconds, hminutes⟩ := s.clock.tick_eq
  refine ⟨s.ticked, rfl, hmillis, hseconds, hminutes, rfl, s.notice.ticked_eq _ _, s.bus.ticked_holdoff, rfl,
    s.peer_ticked, ?_,
    rfl, ?_, rfl, rfl, rfl, rfl, rfl, s.port.ticked_eq, fun b hb => ?_⟩
  · show (if s.peers.station = .learning then _ else _) = _
    split <;> rfl
  · show (if s.peers.station.running = true then _ else _) = _
    split <;> rfl
  · cases b with
    | clock | quota | notice | bus | peers | arbiter | port => simp at hb
    | _ => rfl

/-! ### The reload (R143 to R146, R148) -/

/-- A volume's night is in a state exactly where the volumes in that state are listed. -/
theorem State.nightsIn_sending_eq_nil (s : State) :
    s.nightsIn .sending = [] ↔ s.volumes.toList.any (·.nightSending) = false := by
  rw [State.nightsIn, List.filterMap_eq_nil_iff, List.any_eq_false]
  constructor
  · intro h x hx
    obtain ⟨v, hv, rfl⟩ := Vector.mem_iff_getElem.1 (Vector.mem_toList_iff.1 hx)
    have hnone := h v (List.mem_range.2 hv)
    simp only [State.volume, hv, dif_pos] at hnone
    unfold Volume.nightSending
    cases hn : s.volumes[v].night with
    | none => nofun
    | some n =>
      rw [hn] at hnone
      simpa using hnone
  · intro h v hv
    have hv := List.mem_range.1 hv
    have hnone := h s.volumes[v] (Vector.mem_toList_iff.2 (Vector.getElem_mem hv))
    simp only [State.volume, hv, dif_pos]
    unfold Volume.nightSending at hnone
    cases hn : s.volumes[v].night with
    | none => rfl
    | some n =>
      rw [hn] at hnone
      simpa using hnone

/-- The rate of R144, and that it stays within the link capacity. -/
theorem State.computedRate_eq (s : State) : s.computedRate =
    (if s.holdInForce = true then 0
    else if s.nightsIn .sending = [] then 0
    else max (if s.weightSum = 0 then 0 else s.config.linkCapacity * s.selfWeight / s.weightSum)
      (min s.config.minimumRate s.config.linkCapacity)) := by
  unfold State.computedRate
  split
  · rfl
  · have hnone := s.nightsIn_sending_eq_nil
    cases hany : s.volumes.toList.any (·.nightSending)
    · exact (if_pos (hnone.2 hany)).symm
    · refine Eq.symm (if_neg fun h => ?_)
      exact absurd (hany.symm.trans (hnone.1 h)) nofun

theorem State.computedRate_le (s : State) : s.computedRate ≤ s.config.linkCapacity := by
  have hshare : s.config.linkCapacity * s.selfWeight / s.weightSum ≤ s.config.linkCapacity := by
    refine Nat.div_le_of_le_mul ?_
    rw [Nat.mul_comm]
    exact Nat.mul_le_mul_right _ (Nat.le_add_right _ _)
  rw [s.computedRate_eq]
  split
  · exact Nat.zero_le _
  · split
    · exact Nat.zero_le _
    · refine Nat.max_le.2 ⟨?_, Nat.min_le_right _ _⟩
      split
      · exact Nat.zero_le _
      · exact hshare

/-- A reload with the line in force takes no night; with the line down it turns the PAUSED ones (R145). -/
theorem State.reloaded_spec (s : State) : ∃ u : State,
    (s.holdInForce = true → u = s) ∧ (s.holdInForce = false → u = s.shiftNights .paused .sending .release) ∧
    s.reloaded = { u with
      clock := { u.clock with reloadsDue := u.clock.reloadsDue - 1 }
      dup := {
        tokens := if s.holdInForce = true then 0
          else min (s.dup.tokens + u.computedRate) (u.computedRate + s.config.chunk)
        rate := u.computedRate, lastW := u.weightSum, lastSelf := u.selfWeight } } ∧
    u.clock = s.clock ∧ u.holdInForce = s.holdInForce ∧ u.config = s.config ∧ u.arbiter = s.arbiter ∧
    Unchanged [.volumes, .port] s u := by
  cases hhold : s.holdInForce with
  | true => exact ⟨s, fun _ => rfl, nofun, by simp [State.reloaded, hhold], rfl, hhold, rfl, rfl, .refl _ s⟩
  | false =>
    obtain ⟨_, _, hframe⟩ := s.shiftNights_eq .paused .sending .release
    have hclock : (s.shiftNights .paused .sending .release).clock = s.clock := hframe .clock (by simp)
    have hdup : (s.shiftNights .paused .sending .release).dup = s.dup := hframe .dup (by simp)
    have hloader : (s.shiftNights .paused .sending .release).loader = s.loader := hframe .loader (by simp)
    have hpins : (s.shiftNights .paused .sending .release).pins = s.pins := hframe .pins (by simp)
    have hpeers : (s.shiftNights .paused .sending .release).peers = s.peers := hframe .peers (by simp)
    have hsame : (s.shiftNights .paused .sending .release).holdInForce = false := by
      rw [← hhold]
      simp only [State.holdInForce, State.config, hloader, hpins, hpeers]
    refine ⟨_, nofun, fun _ => rfl, ?_, hclock, hsame, congrArg Loader.config hloader, hframe .arbiter (by simp),
      hframe⟩
    simp only [State.reloaded, hhold, Bool.false_eq_true, if_false, hsame, hdup, State.config, hloader]

theorem Unchanged.reload (u : State) (c : Clock) (d : Duplication) (a : Arbiter) :
    Unchanged [.clock, .dup, .arbiter] u { u with clock := c, dup := d, arbiter := a } := by
  intro b hb
  cases b with
  | clock | dup | arbiter => simp at hb
  | _ => rfl

/-- Settles O8: the nights released, the rate of the state after that, and the tokens by it. -/
theorem reloadComputesRateAndTokens : Obligations.ReloadComputesRateAndTokens := by
  intro s hdue
  have hexec : exec .reload s = .next s.reloaded.settlePrecedence := congrArg Host.Outcome.next (if_neg hdue)
  obtain ⟨u, hforce, hreleased, heq, hclock, hhold, hconfig, harbiter, hframe⟩ := s.reloaded_spec
  rw [heq] at hexec
  obtain ⟨hsettled, hcount⟩ := State.settlePrecedence_spec { u with
      clock := { u.clock with reloadsDue := u.clock.reloadsDue - 1 }
      dup := {
        tokens := if s.holdInForce = true then 0
          else min (s.dup.tokens + u.computedRate) (u.computedRate + s.config.chunk)
        rate := u.computedRate, lastW := u.weightSum, lastSelf := u.selfWeight } }
  rw [hsettled] at hexec
  refine ⟨_, hexec, ?_, fun h => ?_, fun h => ?_, rfl, rfl, ?_, ?_, rfl, ?_, ?_, ?_⟩
  · rw [← hclock]
  · rw [hforce h]
    exact ⟨rfl, rfl⟩
  · obtain ⟨hvolume, hport, _⟩ := s.shiftNights_eq .paused .sending .release
    rw [← hreleased h] at hvolume hport
    exact ⟨hvolume, hport⟩
  · rw [← hhold, ← hconfig]
    exact u.computedRate_eq
  · rw [← hconfig]
    exact u.computedRate_le
  · rw [← harbiter]
  · rw [← harbiter]
    exact hcount
  · exact (hframe.trans (Unchanged.reload u _ _ _)).mono (by simp)

end Sys2Proof.Machine
end

section
/-! PROOFS. The hold timeout, the eviction sweep and the permit timeout (O11, O15, O16). -/

namespace Sys2Proof.Machine

/-! ### The hold timeout (R34, R42) -/

theorem exec_holdTimeout {s : State} {place : Nat} {e : HeldEntry} (he : s.quota.held[place]? = some e) :
    exec (.holdTimeout place) s =
      .next (if s.frozen e = false ∧ s.config.holdTimeout ≤ e.age then s.expireHeld place e else s) := by
  show execHoldTimeout place s = _
  simp only [execHoldTimeout, he]

/-- A departure changes the jobs and the port alone (R30, R118). -/
theorem State.departure_frame (s : State) : Unchanged [.jobs, .port] s s.departure := by
  intro b hb
  cases b with
  | jobs | port => simp at hb
  | _ => rfl

theorem Unchanged.quota_port_jobs {s : State} (q : Quota) (p : Port) (l : Vector (Option Job) 8) :
    Unchanged [.quota, .port, .jobs] s { s with quota := q, port := p, jobs := l } := by
  intro b hb
  cases b with
  | quota | port | jobs => simp at hb
  | _ => rfl

/-- Settles O11: the entry stays, or it leaves by its kind. -/
theorem holdTimeoutExpiresEntry : Obligations.HoldTimeoutExpiresEntry := by
  intro s place e he
  have hexec := exec_holdTimeout he
  refine ⟨fun hstays => ?_, fun hfrozen hage => ?_⟩
  · rw [hexec, if_neg]
    rintro ⟨hfrozen, hage⟩
    obtain h | h := hstays
    · exact absurd (hfrozen.symm.trans h) nofun
    · exact absurd hage (Nat.not_le.2 h)
  · rw [if_pos ⟨hfrozen, hage⟩] at hexec
    refine ⟨fun address horigin => ?_, fun slot j horigin hj => ?_⟩
    · refine ⟨_, hexec, ?_⟩
      simp only [State.expireHeld, horigin]
      exact ⟨rfl, rfl, fun k _ => State.job_departure s k, .quota_port_jobs _ _ _⟩
    · refine ⟨_, hexec, ?_⟩
      have hleft : State.job { s with quota := { s.quota with held := s.quota.held.eraseIdx place } } slot = some j :=
        hj
      simp only [State.expireHeld, horigin, hleft]
      refine ⟨rfl, rfl, fun k _ => ?_, .quota_port_jobs _ _ _⟩
      refine (State.job_departure _ k).trans ?_
      by_cases hk : k = slot
      · subst hk
        rw [State.job_setJob_same _ _ (s.job_lt hj), hj]
        simp
      · rw [State.job_setJob_ne _ _ hk]
        show (s.job k).map _ = _
        simp only [hk, if_false]

/-! ### The eviction sweep (R75, R79) -/

/-- The slot under the pointer, if its principal has an entry from the evicted station. -/
def State.sweepHit (s : State) (e : Eviction) : Option Principal :=
  (s.quota.atSlot e.pointer).filter fun p => s.quota.contributes p.id e.station

theorem State.sweepSlot_eq (s : State) (e : Eviction) : s.sweepSlot e =
    ({ e with removed := e.removed + (if (s.sweepHit e).isSome then 1 else 0) },
      match s.sweepHit e with
      | some p => s.contribute p.id e.station 0 .evict
      | none => s) := by
  unfold State.sweepSlot State.sweepHit
  cases h : s.quota.atSlot e.pointer with
  | none => rfl
  | some p => by_cases hc : s.quota.contributes p.id e.station = true <;> simp [Option.filter, hc]

/-- A peer's change recomputes the common format with the new record (R65). -/
theorem State.changePeer_eq (s : State) (k : Nat) (new : Peer) : s.changePeer k new =
    { s with
      peers := { s.peers.setPeer k new with format := (s.setPeer k new).commonFormat }
      port := s.port.raise (.peerState k (s.peer k).state new.state) } := by
  have hformat : ((s.setPeer k new).raise (.peerState k (s.peer k).state new.state)).commonFormat =
      (s.setPeer k new).commonFormat := State.commonFormat_congr rfl fun _ _ => ⟨rfl, .rfl⟩
  unfold State.changePeer State.recomputeFormat
  rw [hformat]
  rfl

/-- The end of a sweep: the record becomes ABSENT and empty, and the eviction is over (R79). -/
theorem State.endEviction_spec (s : State) (e : Eviction) :
    (s.endEviction e).peers =
      { s.peers.setPeer e.station {} with format := (s.endEviction e).commonFormat, eviction := none } ∧
    (s.endEviction e).port = s.port.raises
      [.peerState e.station (s.peer e.station).state .absent, .evictDone e.station e.removed] ∧
    Unchanged [.peers, .port] s (s.endEviction e) := by
  have heq : s.endEviction e = { s with
      peers := { s.peers.setPeer e.station {} with format := (s.setPeer e.station {}).commonFormat, eviction := none }
      port := s.port.raises
        [.peerState e.station (s.peer e.station).state .absent, .evictDone e.station e.removed] } := by
    unfold State.endEviction
    rw [State.changePeer_eq]
    rfl
  have hformat : (s.endEviction e).commonFormat = (s.setPeer e.station {}).commonFormat := by
    rw [heq]
    exact State.commonFormat_congr rfl fun _ _ => ⟨rfl, .rfl⟩
  rw [hformat, heq]
  refine ⟨rfl, rfl, fun b hb => ?_⟩
  cases b with
  | peers | port => simp at hb
  | _ => rfl

theorem Unchanged.peers (s : State) (p : Peers) : Unchanged [.peers] s { s with peers := p } := by
  intro b hb
  cases b with
  | peers => simp at hb
  | _ => rfl

/-- The state after the contribution update of a sweep step, and the peer table that it leaves as it was (R75). -/
theorem State.sweepSlot_peers (s : State) (e : Eviction) : (s.sweepSlot e).2.peers = s.peers := by
  rw [s.sweepSlot_eq]
  dsimp only
  split
  · rename_i p _
    exact s.contribute_frame p.id e.station 0 .evict .peers (by simp)
  · rfl

/-- Settles O15: a step below the last slot, and the step that ends the sweep. -/
theorem evictionSweepStepAndEnd : Obligations.EvictionSweepStepAndEnd := by
  intro s e heviction howed hit u removed
  have hexec : exec .evictionSweepStep s = .next (
      if 65535 ≤ e.pointer then (s.sweepSlot e).2.endEviction (s.sweepSlot e).1
      else { (s.sweepSlot e).2 with peers := { (s.sweepSlot e).2.peers with
        eviction := some { (s.sweepSlot e).1 with pointer := e.pointer + 1, owed := e.owed - 1 } } }) := by
    show execEvictionSweepStep s = _
    simp only [execEvictionSweepStep, heviction, if_neg howed]
  have hpeers := s.sweepSlot_peers e
  have heq : s.sweepSlot e = ({ e with removed := removed }, u) := s.sweepSlot_eq e
  rw [heq] at hexec hpeers
  refine ⟨fun hbelow => ?_, fun hlast => ?_⟩
  · rw [if_neg (Nat.not_le.2 hbelow)] at hexec
    refine ⟨_, hexec, ?_, .peers u _⟩
    rw [← hpeers]
  · rw [if_pos (Nat.le_of_eq hlast.symm)] at hexec
    obtain ⟨hended, hport, hframe⟩ := u.endEviction_spec { e with removed := removed }
    refine ⟨_, hexec, ?_, ?_, hframe⟩
    · rw [← hpeers]
      exact hended
    · rw [show s.peer e.station = u.peer e.station from congrArg (Peers.peer · e.station) hpeers.symm]
      exact hport

/-! ### A permit that has left the table (R125 to R127, R117, R139) -/

/-- A job that ends out of a slot written before ends out of the slot. -/
theorem JobEnds.of_setJob {s t : State} {slot : Nat} {j : Job} {o : Option Job}
    (h : JobEnds (s.setJob slot o) t slot j) :
    JobEnds s t slot j := by
  obtain ⟨hfree, hothers, hvolume, hvolumes, hquota, harbiter, hport, hframe⟩ := h
  refine ⟨hfree, fun k hk => (hothers k hk).trans (State.job_setJob_ne s o hk), hvolume, hvolumes, hquota, harbiter,
    hport,
    fun b hb => ?_⟩
  have hb' := hframe b hb
  cases b with
  | jobs => simp at hb
  | _ => exact hb'

/-- A night that ends out of a record written before ends out of the record. -/
theorem NightEnds.of_setVolume {s t : State} {v : Nat} {m n : Night} (hv : v < 16)
    (h : NightEnds (s.setVolume v { s.volume v with night := some m }) t v n) : NightEnds s t v n := by
  obtain ⟨hvolume, hothers, hport, hframe⟩ := h
  rw [State.volume_setVolume_same s _ hv] at hvolume
  refine ⟨hvolume, fun w hw => (hothers w hw).trans (State.volume_setVolume_ne s _ hw), hport, fun b hb => ?_⟩
  have hb' := hframe b hb
  cases b with
  | volumes => simp at hb
  | _ => exact hb'

/-- What is left of a job when one of its permits is gone, and its end with the last (R117). -/
theorem State.jobPermitGone_spec {s : State} {slot : Nat} {j : Job} (hj : s.job slot = some j) (f : Job → Job)
    (hstate : (f j).state = j.state) :
    (¬ (j.state.closing = true ∧ j.permits ≤ 1) →
      s.jobPermitGone slot f = s.setJob slot (some { f j with permits := j.permits - 1 })) ∧
    (j.state.closing = true → j.permits ≤ 1 →
      JobEnds s (s.jobPermitGone slot f) slot { f j with permits := j.permits - 1 }) := by
  have hset := State.job_setJob_same s (some { f j with permits := j.permits - 1 }) (s.job_lt hj)
  rw [State.jobPermitGone_eq s f hj]
  refine ⟨fun hopen => State.endJobIfDone_open _ hset ?_, fun hclosing hlast => ?_⟩
  · rintro ⟨hclosing, hnone⟩
    rw [show JobState.closing _ = _ from congrArg _ hstate] at hclosing
    exact hopen ⟨hclosing, Nat.sub_eq_zero_iff_le.1 hnone⟩
  · exact (State.endJobIfDone_done _ hset ((congrArg JobState.closing hstate).trans hclosing)
      (Nat.sub_eq_zero_iff_le.2 hlast)).of_setJob

/-- What is left of a night when one of its permits is gone, and its end with the last (R139). -/
theorem State.nightPermitGone_spec {s : State} {v : Nat} {n : Night} (hn : (s.volume v).night = some n) (moved : Nat) :
    let m := { n with remaining := n.remaining - moved, permits := n.permits - 1 }
    (¬ (n.state.closing = true ∧ n.permits ≤ 1) →
      s.nightPermitGone v moved = s.setVolume v { s.volume v with night := some m }) ∧
    (n.state.closing = true → n.permits ≤ 1 → NightEnds s (s.nightPermitGone v moved) v m) := by
  intro m
  have hv := s.night_lt hn
  have hset : ((s.setVolume v { s.volume v with night := some m }).volume v).night = some m := by
    rw [State.volume_setVolume_same s _ hv]
  rw [State.nightPermitGone_eq s moved hn]
  refine ⟨fun hopen => State.endNightIfDone_open _ hset ?_, fun hclosing hlast => ?_⟩
  · rintro ⟨hclosing, hnone⟩
    exact hopen ⟨hclosing, Nat.sub_eq_zero_iff_le.1 hnone⟩
  · exact (State.endNightIfDone_done _ hset hclosing (Nat.sub_eq_zero_iff_le.2 hlast)).of_setVolume hv

/-! ### The permit timeout (R127, R128) -/

theorem exec_permitTimeout {s : State} {id : Nat} {p : Permit}
    (hp : (s.arbiter.permits.find? fun q => q.id == id) = some p) (hage : s.config.permitTimeout * 1000 ≤ p.age) :
    exec (.permitTimeout id) s = .next (s.expirePermit p) := by
  show execPermitTimeout id s = _
  simp only [execPermitTimeout, hp, if_pos hage]

/-- A permit expires out of the table and into the list, with its record; then its owner is told. -/
theorem State.expirePermit_eq (s : State) (p : Permit) : s.expirePermit p =
    match p.owner with
    | .job slot _ => State.jobPermitGone { s with
        arbiter := s.arbiter.reclaimed p
        port := s.port.raises [.permitExpired p.id p.chunk (s.subject p.owner)] } slot
        fun j => { j with expired := j.expired + 1 }
    | .night v _ => State.nightPermitGone { s with
        arbiter := s.arbiter.reclaimed p
        port := s.port.raises [.permitExpired p.id p.chunk (s.subject p.owner)] } v 0 := by
  unfold State.expirePermit Arbiter.reclaimed
  cases p.owner <;> rfl

/-- Settles O16: the permit of a job and of a night, each left open or closed with its last permit. -/
theorem permitTimeoutReclaims : Obligations.PermitTimeoutReclaims := by
  intro s id p hp hage listed left
  have hid : p.id = id := by simpa using List.find?_some hp
  have hexec := exec_permitTimeout hp hage
  rw [s.expirePermit_eq] at hexec
  refine ⟨?_, ?_⟩
  · intro slot principal j howner hj told k
    have hreclaimed : s.arbiter.reclaimed p = left (.job slot principal) := by
      simp only [Arbiter.reclaimed, Arbiter.listExpired, Arbiter.withoutPermit, PermitOwner.expired, howner, hid,
        left, listed]
    have htold : s.port.raises [.permitExpired p.id p.chunk (s.subject p.owner)] = told := by
      simp only [howner, State.subject, hj, hid, told]
    simp only [howner] at hexec htold
    rw [hreclaimed, htold] at hexec
    obtain ⟨hopen, hends⟩ := State.jobPermitGone_spec
      (s := { s with arbiter := left (.job slot principal), port := told }) hj
      (fun j => { j with expired := j.expired + 1 }) rfl
    refine ⟨fun h => ?_, fun hclosing hlast => ⟨_, hexec, hends hclosing hlast⟩⟩
    rw [hopen h] at hexec
    refine ⟨_, hexec, rfl, rfl, State.job_setJob_same _ _ (s.job_lt hj), fun i hi => State.job_setJob_ne _ _ hi,
      fun b hb => ?_⟩
    cases b with
    | arbiter | port | jobs => simp at hb
    | _ => rfl
  · intro v generation n howner hn told m
    have hreclaimed : s.arbiter.reclaimed p = left (.night v generation) := by
      simp only [Arbiter.reclaimed, Arbiter.listExpired, Arbiter.withoutPermit, PermitOwner.expired, howner, hid,
        left, listed]
    have htold : s.port.raises [.permitExpired p.id p.chunk (s.subject p.owner)] = told := by
      simp only [howner, State.subject, hid, told]
    simp only [howner] at hexec htold
    rw [hreclaimed, htold] at hexec
    obtain ⟨hopen, hends⟩ := State.nightPermitGone_spec
      (s := { s with arbiter := left (.night v generation), port := told }) hn 0
    refine ⟨fun h => ?_, fun hclosing hlast => ⟨_, hexec, hends hclosing hlast⟩⟩
    rw [hopen h] at hexec
    refine ⟨_, hexec, rfl, rfl, State.volume_setVolume_same _ _ (s.night_lt hn),
      fun w hw => State.volume_setVolume_ne _ _ hw, fun b hb => ?_⟩
    cases b with
    | arbiter | port | volumes => simp at hb
    | _ => rfl

end Sys2Proof.Machine
end

section
/-! PROOFS. The end of a jam, the take of a frame, the reception of a burst and the end of the configuration load (O4,
O18, O21, O22). -/

namespace Sys2Proof.Machine

/-! ### A frame that comes back (R89, R90) -/

/-- What a return does to the notice unit depends on the held list and the process that freezes it. -/
theorem State.returnedNotice_congr {s t : State} (hquota : t.quota = s.quota) (hnotice : t.notice = s.notice)
    (hstate : t.port.requestState = s.port.requestState) (f : FrameRecord) :
    t.returnedNotice f = s.returnedNotice f := by
  have hheld (id : Nat) : t.heldUnfrozen id = s.heldUnfrozen id := by
    unfold State.heldUnfrozen State.frozen
    rw [hquota, hstate]
  simp only [State.returnedNotice, hheld, hnotice]

/-- A USAGE frame that the transmitter gives up is returned; nothing else is (R50, R52). -/
theorem State.giveUp_usage {s : State} {sender : Nat} {format : UsageFormat} {entries : List UsageEntry}
    {r : FrameRecord} (hr : s.notice.frame = some r) :
    s.giveUp (some (.usage sender format entries)) = { s with notice := s.returnedNotice r } := State.returnFrame_eq hr

theorem Unchanged.bus_port_notice (s : State) (b : Bus) (p : Port) (n : Notice) :
    Unchanged [.bus, .port, .notice] s { s with bus := b, port := p, notice := n } := by
  intro c hc
  cases c with
  | bus | port | notice => simp at hc
  | _ => rfl

theorem Unchanged.bus_port (s : State) (b : Bus) (p : Port) :
    Unchanged [.bus, .port] s { s with bus := b, port := p } := by
  intro c hc
  cases c with
  | bus | port => simp at hc
  | _ => rfl

theorem exec_jamEnd {s : State} {f : Frame} (hstate : s.bus.tx.state = .jamming) (hframe : s.bus.tx.frame = some f) :
    exec .jamEnd s = .next (if s.bus.tx.attempt < 16 then s.backOff else s.abandonFrame f) := by
  show execJamEnd s = _
  simp only [execJamEnd, hstate, hframe]

/-- Settles O18: below attempt 16 a draw, and at 16 the abandonment of either kind of frame. -/
theorem jamEndBacksOffOrAbandons : Obligations.JamEndBacksOffOrAbandons := by
  intro s f hstate hframe
  have hexec := exec_jamEnd hstate hframe
  refine ⟨fun hbelow => ?_, fun hlast => ?_⟩
  · rw [if_pos hbelow] at hexec
    exact ⟨_, s.bus.generator.count s.bus.tx.attempt, hexec, Nat.mod_lt _ (Nat.two_pow_pos _), rfl, .bus s _⟩
  · rw [if_neg (Nat.not_lt.2 hlast)] at hexec
    refine ⟨fun sender extended minute claim hf => ?_, fun sender format entries r hf hr => ?_⟩
    · subst hf
      exact ⟨_, hexec, rfl, rfl, .bus_port s _ _⟩
    · subst hf
      have hback : State.returnedNotice (State.raise
          (s.setTx { s.bus.tx with state := .holdoff, frame := none, holdoffTicks := 0 })
          (.busExcessCollision (some (format, entries.length)))) r = s.returnedNotice r :=
        by exact State.returnedNotice_congr (by rfl) (by rfl) (Port.raises_requestState s.port [_]) r
      have habandoned : s.abandonFrame (.usage sender format entries) = { s with
          bus := { s.bus with tx := { s.bus.tx with state := .holdoff, frame := none, holdoffTicks := 0 } }
          port := s.port.raises [.busExcessCollision (some (format, entries.length))]
          notice := s.returnedNotice r } := by
        rw [← hback]
        exact State.giveUp_usage hr
      rw [habandoned] at hexec
      exact ⟨_, hexec, rfl, rfl, rfl, .bus_port_notice s _ _ _⟩

/-! ### The take of a frame (R45, R68, R86) -/

theorem Notice.queue_urgent (n : Notice) :
    n.queue.map (·.2) = (n.urgent.map fun _ => true) ++ n.normal.map fun _ => false := by
  simp [Notice.queue, Function.comp_def]

theorem exec_transmitterTakeFrame {s : State} (hstate : s.bus.tx.state = .idle) : exec .transmitterTakeFrame s =
    .next (if s.peers.presenceDue then
        State.deferring { s with peers := { s.peers with presenceDue := false } }
          { s.bus.tx with frame := some s.builtPresence, attempt := 1 }
      else if s.notice.offers then
        State.deferring { s with notice := s.builtNotice }
          { s.bus.tx with frame := some (s.builtRecord.frame s.straps.station), attempt := 1 }
      else s) := by
  show execTransmitterTakeFrame s = _
  simp only [execTransmitterTakeFrame, hstate]

/-- Settles O21: a due PRESENCE, a USAGE frame of the queue's head, or nothing. -/
theorem transmitterTakesFrame : Obligations.TransmitterTakesFrame := by
  intro s hstate taken
  have hexec := exec_transmitterTakeFrame hstate
  refine ⟨fun hdue => ?_, fun hdue hnone hsome => ?_, fun hdue hu hn => ?_⟩
  · rw [if_pos hdue] at hexec
    refine ⟨_, hexec, rfl, rfl, fun b hb => ?_⟩
    cases b with
    | bus | peers => simp at hb
    | _ => rfl
  · have hoffers : s.notice.offers = true := by
      simp only [Notice.offers, hnone, Option.isNone_none, Bool.true_and, Bool.not_eq_true', Bool.and_eq_false_iff,
        List.isEmpty_eq_false_iff]
      exact Classical.or_iff_not_imp_left.2 fun hu hn => hsome (by simpa [hn] using hu)
    rw [if_neg (by rw [hdue]; nofun), if_pos hoffers] at hexec
    refine ⟨_, s.builtRecord, hexec, rfl, ?_, fun x hx => ?_, ?_, rfl, s.builtNotice_queue.trans ?_, ⟨_, rfl⟩, ⟨_, rfl⟩,
      rfl, rfl, rfl, fun b hb => ?_⟩
    · rw [s.builtRecord_principals]
      cases s.peers.format <;> rfl
    · obtain ⟨q, _, rfl⟩ := List.mem_map.1 hx
      rfl
    · rw [← Notice.queue_urgent, ← List.map_take]
      simp only [State.builtRecord, List.map_map, Function.comp_def]
      cases s.peers.format <;> rfl
    · cases s.peers.format <;> rfl
    · cases b with
      | bus | notice => simp at hb
      | _ => rfl
  · have hoffers : s.notice.offers = false := by simp [Notice.offers, hu, hn]
    rw [if_neg (by rw [hdue]; nofun), if_neg (by rw [hoffers]; nofun)] at hexec
    exact hexec

/-! ### The entry into LEARNING (R70, R71, R72) -/

/-- The records of an entry into LEARNING, with a learning time of 0 that of JOINED too (log 24). -/
def State.learnRecords (s : State) : List EventRecord :=
  .stationState s.peers.station .learning ::
    if s.config.learningTime = 0 then [.stationState .learning .joined] else []

/-- The station state that an entry into LEARNING leads to at once (log 24). -/
def learnedStation (c : Config) : StationState := if c.learningTime = 0 then .joined else .learning

theorem State.learn_eq (s : State) : s.learn = { s with
    peers := { s.peers with
      station := learnedStation s.config, learningCount := 0
      silenceAge := if s.config.learningTime = 0 then 0 else s.peers.silenceAge }
    port := s.port.raises s.learnRecords } := by
  unfold State.learn State.learnRecords learnedStation
  by_cases h : s.config.learningTime = 0
  · simp only [h, if_true]
    rfl
  · simp only [h, if_false]
    rfl

/-- The records of the end of the load (R174). -/
def State.loadRecords (s : State) (l : Loader) : List EventRecord :=
  [.configLoaded l.source l.reason l.clamped s.straps.station, .stationState .configuring .learning] ++
    if l.config.learningTime = 0 then [.stationState .learning .joined] else []

/-- The end of the load in its blocks, the common format computed with the new configuration. -/
theorem State.endLoad_spec {s : State} (hc : s.peers.station = .configuring) (l : Loader) : s.endLoad l =
    { s with
      loader := l
      peers := { s.peers with
        station := learnedStation l.config, format := State.commonFormat { s with loader := l }
        learningCount := 0, silenceAge := 0, presenceCount := 0, presenceDue := true }
      notice := { s.notice with refreshPointer := 0, sweepCredit := 0 }
      bus := s.bus.switchedOn
      port := (s.port.raises (s.loadRecords l)).recordedStarts } := by
  have hformat : (State.raise { s with loader := l }
      (.configLoaded l.source l.reason l.clamped s.straps.station)).learn.commonFormat =
        State.commonFormat { s with loader := l } := by
    rw [State.learn_eq]
    exact State.commonFormat_congr rfl fun _ _ => ⟨rfl, .rfl⟩
  have hrecords : State.learnRecords (State.raise { s with loader := l }
      (.configLoaded l.source l.reason l.clamped s.straps.station)) =
        .stationState .configuring .learning ::
          if l.config.learningTime = 0 then [.stationState .learning .joined] else [] := by
    rw [← hc]
    rfl
  unfold State.endLoad State.recomputeFormat
  dsimp only
  rw [hformat, State.learn_eq, hrecords]
  rfl

/-- The recorded starts after records have been raised: the processes stand as they did (R162, R174). -/
theorem Port.recordedStarts_raises (p : Port) (records : List EventRecord) : (p.raises records).recordedStarts =
    { p.raises records with
      requestState := if p.requestState = .stopped ∧ p.request.startRecorded = true ∧ p.requestRing.size ≠ 0
        then .running else p.requestState
      eventState := if p.eventState = .stopped ∧ p.event.startRecorded = true ∧ p.eventRing.size ≠ 0
        then .running else p.eventState
      request := { p.request with startRecorded := false }
      event := { p.event with startRecorded := false } } := by
  simp only [Port.recordedStarts, Port.raises_requestState, Port.raises_eventState, Port.raises_request,
    Port.raises_event, Port.raises_requestRing, Port.raises_eventRing]

/-- Settles O4: the record, the entry into LEARNING with what it starts, and the recorded starts. -/
theorem configurationLoadEnds : Obligations.ConfigurationLoadEnds := by
  intro s i l hc hi
  have hexec : exec i s = .next (s.endLoad l) := by
    obtain ⟨read, rfl, rfl⟩ | ⟨rfl, rfl⟩ := hi
    · exact congrArg Host.Outcome.next (if_pos hc)
    · exact congrArg Host.Outcome.next (if_pos hc)
  have hformat : (s.endLoad l).commonFormat = State.commonFormat { s with loader := l } := by
    rw [State.endLoad_spec hc]
    exact State.commonFormat_congr rfl fun _ _ => ⟨rfl, .rfl⟩
  refine ⟨_, hexec, ?_⟩
  rw [hformat, State.endLoad_spec hc]
  refine ⟨rfl, rfl, rfl, rfl, s.port.recordedStarts_raises (s.loadRecords l), fun b hb => ?_⟩
  cases b with
  | loader | peers | notice | bus | port => simp at hb
  | _ => rfl

end Sys2Proof.Machine
end

section
/-! PROOFS. The reception of a burst (O22). -/

namespace Sys2Proof.Machine

theorem exec_burstReceived {s : State} (hdriving : s.bus.tx.state.driving = false)
    (hburst : s.bus.line.busy = true ∨ s.bus.line.echo = true) (bytes : List Byte) :
    exec (.burstReceived bytes) s = .next (s.burstEnded bytes) := by
  have hline : (s.bus.line.busy || s.bus.line.echo) = true := by simpa using hburst
  exact congrArg Host.Outcome.next ((if_neg (by rw [hdriving]; nofun)).trans (if_pos hline))

/-! ### Where the end of a burst leaves nothing but the quiet line (R53, R54) -/

theorem State.burstEnded_discarded {s : State} {bytes : List Byte}
    (h : s.bus.line.echo = true ∨ s.bus.line.ignored = true ∨ s.bus.listening = false ∨ parseFrame bytes = none) :
    s.burstEnded bytes = s.lineQuiet := by
  unfold State.burstEnded
  dsimp only
  split
  · rfl
  · rename_i hline
    obtain h | h | h | h := h
    · exact absurd (by simp [h]) hline
    · exact absurd (by simp [h]) hline
    · exact absurd (by simp [h]) hline
    · rw [h]

theorem State.burstEnded_valid {s : State} {bytes : List Byte} {f : Frame} (hecho : s.bus.line.echo = false)
    (hignored : s.bus.line.ignored = false) (hlistening : s.bus.listening = true) (hf : parseFrame bytes = some f) :
    s.burstEnded bytes = s.lineQuiet.receive f := by
  unfold State.burstEnded
  dsimp only
  rw [if_neg (by rw [hecho, hignored, hlistening]; nofun), hf]

/-! ### A clash (R57, R73, R52) -/

/-- A frame given up changes the notice unit alone. -/
theorem State.giveUp_eq (s : State) (o : Option Frame) : s.giveUp o = { s with notice := (s.giveUp o).notice } := by
  unfold State.giveUp
  split
  · exact s.returnFrame_frame
  · rfl
  · rfl

/-- Without a USAGE frame, or without a frame record, nothing comes back. -/
theorem State.giveUp_none {s : State} {o : Option Frame}
    (h : s.notice.frame = none ∨ ¬ ∃ a b c, o = some (.usage a b c)) : s.giveUp o = s := by
  unfold State.giveUp
  split
  · rename_i a b c
    obtain h | h := h
    · simp [State.returnFrame, h]
    · exact absurd ⟨a, b, c, rfl⟩ h
  · rfl
  · rfl

/-- The station in CLASH, its transmitter SILENCED, before a frame is withdrawn. -/
def State.silenced (s : State) : State :=
  { s with
    peers := { s.peers with station := .clash, presenceDue := false }
    port := s.port.raises [.stationState s.peers.station .clash]
    bus := { s.bus with tx := { s.bus.tx with
      state := .silenced, frame := none, gapRunning := false, backoffSlots := 0, holdoffTicks := 0 } } }

theorem State.enterClash_eq (s : State) : s.enterClash = s.silenced.giveUp s.bus.tx.frame := rfl

theorem State.silenced_returnedNotice (s : State) (r : FrameRecord) :
    s.silenced.returnedNotice r = s.returnedNotice r :=
  State.returnedNotice_congr (by rfl) (by rfl) (Port.raises_requestState s.port [_]) r

theorem Unchanged.clash (s : State) (p : Peers) (o : Port) (b : Bus) (n : Notice) :
    Unchanged [.peers, .port, .bus, .notice] s { s with peers := p, port := o, bus := b, notice := n } := by
  intro c hc
  cases c with
  | peers | port | bus | notice => simp at hc
  | _ => rfl

/-! ### An arrival (R60, R72) -/

/-- The peer table after an arrival from a station: the age of a LIVE or LAPSED one is 0 (R60). -/
def Peers.heard (t : Peers) (k : Nat) : Peers :=
  match (t.peer k).state with
  | .live | .lapsed => t.setPeer k { t.peer k with age := some 0 }
  | .absent | .evicting => t

theorem Peers.heard_fields (t : Peers) (k : Nat) : t.heard k = { t with table := (t.heard k).table } := by
  unfold Peers.heard
  cases (t.peer k).state <;> rfl

/-- An arrival notes the age and the silence, and ends ISOLATED. -/
theorem State.noteArrival_eq (s : State) (k : Nat) : s.noteArrival k = { s with
    peers := { s.peers with
      table := (s.peers.heard k).table
      silenceAge := 0
      station := if s.peers.station = .isolated then learnedStation s.config else s.peers.station
      learningCount := if s.peers.station = .isolated then 0 else s.peers.learningCount }
    port := if s.peers.station = .isolated then
        s.port.raises (.stationState .isolated .learning ::
          if s.config.learningTime = 0 then [.stationState .learning .joined] else [])
      else s.port } := by
  have heard : State.noteArrival s k = if s.peers.station = .isolated then
      State.learn { s with peers := { s.peers with table := (s.peers.heard k).table, silenceAge := 0 } }
      else { s with peers := { s.peers with table := (s.peers.heard k).table, silenceAge := 0 } } := by
    unfold State.noteArrival Peers.heard State.peer
    dsimp only
    cases (s.peers.peer k).state <;> rfl
  rw [heard]
  split
  · rename_i hisolated
    rw [State.learn_eq, State.learnRecords]
    dsimp only
    rw [hisolated, ite_self]
  · rfl

/-- Settles O22: the line's rise, the burst in one command, and each way a burst can end. -/
theorem burstIsCheckedAndQueued : Obligations.BurstIsCheckedAndQueued := by
  refine ⟨fun s hbusy hdriving => ?_, fun s h => ?_, fun s bytes h => congrArg Host.Outcome.next (if_pos h),
    fun s bytes hdriving hbusy hecho => ?_, ?_⟩
  · have hexec : exec .lineBecomesBusy s = .next s.lineBusy :=
      congrArg Host.Outcome.next (if_neg (by rw [hbusy, hdriving]; nofun))
    exact ⟨_, hexec, rfl, .bus s _⟩
  · exact congrArg Host.Outcome.next (if_pos (by simpa using h))
  · have hexec : exec .lineBecomesBusy s = .next s.lineBusy :=
      congrArg Host.Outcome.next (if_neg (by rw [hbusy, hdriving]; nofun))
    refine ⟨_, _, hexec, exec_burstReceived (s := s.lineBusy) hdriving (.inl rfl) bytes, ?_⟩
    exact congrArg Host.Outcome.next
      ((if_neg (by rw [hdriving]; nofun)).trans (if_neg (by rw [hbusy, hecho]; nofun)))
  · intro s bytes hdriving hburst quiet
    have hexec := exec_burstReceived hdriving hburst bytes
    refine ⟨fun h => ?_, fun f hecho hignored hlistening hf => ?_⟩
    · rw [State.burstEnded_discarded h] at hexec
      exact ⟨_, hexec, rfl, .bus s _⟩
    · rw [State.burstEnded_valid hecho hignored hlistening hf] at hexec
      refine ⟨fun hown hstill => ?_, fun hown hrunning => ?_, fun hother hfull => ?_, fun hother hroom => ?_⟩
      · have hreceive : s.lineQuiet.receive f = s.lineQuiet := by
          unfold State.receive
          exact (if_pos hown).trans (if_neg (by rw [show s.lineQuiet.peers = s.peers from rfl, hstill]; nofun))
        rw [hreceive] at hexec
        exact ⟨_, hexec, rfl, .bus s _⟩
      · have hreceive : s.lineQuiet.receive f = s.lineQuiet.silenced.giveUp s.bus.tx.frame :=
          (if_pos hown).trans (if_pos hrunning)
        rw [hreceive, State.giveUp_eq] at hexec
        refine ⟨_, hexec, rfl, rfl, rfl, fun r hr husage => ?_, fun hnone => ?_, .clash s _ _ _ _⟩
        · obtain ⟨a, b, c, husage⟩ := husage
          rw [husage]
          have hback := State.giveUp_usage (s := s.lineQuiet.silenced) (sender := a) (format := b) (entries := c) hr
          exact (congrArg State.notice hback).trans (s.lineQuiet.silenced_returnedNotice r)
        · have hsame := State.giveUp_none (s := s.lineQuiet.silenced) hnone
          exact (congrArg State.notice hsame).trans rfl
      · have hreceive : s.lineQuiet.receive f = s.lineQuiet :=
          (if_neg hother).trans (if_neg (Nat.not_lt.2 hfull))
        rw [hreceive] at hexec
        exact ⟨_, hexec, rfl, .bus s _⟩
      · have hreceive : s.lineQuiet.receive f = State.noteArrival { s.lineQuiet with
            bus := { s.lineQuiet.bus with fifo := s.lineQuiet.bus.fifo ++ [{ frame := f }] } } f.sender :=
          (if_neg hother).trans (if_pos hroom)
        rw [hreceive, State.noteArrival_eq] at hexec
        refine ⟨_, hexec, rfl, rfl, rfl, fun b hb => ?_⟩
        cases b with
        | bus | peers | port => simp at hb
        | _ => rfl

end Sys2Proof.Machine
end

section
/-! PROOFS. Operations that re-derive one principal and may wake its jobs: a contribution update, PRINCIPAL LIMITS and
CREDIT (O24, O31, O33); the outcomes of a CHARGE (O28); PEER EVICT (O35). -/

namespace Sys2Proof.Machine

/-! ### A principal re-derived, and its jobs woken (R8, R10, R11) -/

/-- A block that is the same after all can be taken off the list of those that may change. -/
theorem Unchanged.of_same {b : Block} {l : List Block} {s t : State} (h : Unchanged (b :: l) s t) (hb : b.same s t) :
    Unchanged l s t := by
  intro c hc
  by_cases hcb : c = b
  · exact hcb ▸ hb
  · exact h c (by simp [hcb, hc])

/-- A wake-up under a condition changes the jobs of the principal and raises their records, or nothing at all. -/
theorem State.wakeIf_spec {u : State} {id : Nat} {q : Principal} (hq : u.principal id = some q) (c : Prop)
    [Decidable c] :
    let t := if c then u.wake id else u
    (c ∧ 0 < q.restoreJobs → ∀ k < 8, t.job k = (u.job k).map fun j => j.wokenFor id) ∧
    (¬ (c ∧ 0 < q.restoreJobs) → t.jobs = u.jobs) ∧
    t.port = u.port.raises (if c ∧ 0 < q.restoreJobs then u.wakeRecords id else []) ∧
    Unchanged [.jobs, .port] u t := by
  by_cases hwakes : c ∧ 0 < q.restoreJobs
  · obtain ⟨hjobs, hport, hframe⟩ := State.wake_eq u hq hwakes.2
    simp only [if_pos hwakes, if_pos hwakes.1]
    exact ⟨fun _ => hjobs, fun h => absurd hwakes h, hport, hframe⟩
  · have hidle : (if c then u.wake id else u) = u := by
      split
      · exact State.wake_idle u hq (Nat.eq_zero_of_not_pos fun h => hwakes ⟨‹c›, h⟩)
      · rfl
    rw [hidle, if_neg hwakes]
    exact ⟨fun h => absurd h hwakes, fun _ => rfl, rfl, .refl _ u⟩

/-- What an operation on one principal leaves when it re-derives the record, sets the notice queue and, under a
condition, wakes the principal's jobs. -/
structure Rederived (s t : State) (id : Nat) (p q : Principal) (g : Grace) (cause : QuotaCause) (wakes : Prop)
    [Decidable wakes] : Prop where
  record : t.principal id = some q
  others : ∀ j, j ≠ id → t.principal j = s.principal j
  contributions : t.quota.contributions = s.quota.contributions
  held : t.quota.held = s.quota.held
  deadlines : t.deadlines = graceDeadlines id g q.grace s.deadlines
  woken : wakes → ∀ k < 8, t.job k = (s.job k).map fun j => j.wokenFor id
  asleep : ¬ wakes → t.jobs = s.jobs
  port : t.port = s.port.raises (quotaRecords p q cause ++ if wakes then s.wakeRecords id else [])
  frame : Unchanged [.notice, .quota, .deadlines, .jobs, .port] s t

theorem Rederived.job {s t : State} {id : Nat} {p q : Principal} {g : Grace} {cause : QuotaCause} {wakes : Prop}
    [Decidable wakes] (h : Rederived s t id p q g cause wakes) (k : Nat) (hk : k < 8) :
    t.job k = if wakes then (s.job k).map fun j => j.wokenFor id else s.job k := by
  split
  · exact h.woken ‹_› k hk
  · exact State.job_congr (h.asleep ‹_›) k

theorem State.rederived {s : State} {id : Nat} {p : Principal} (hp : s.principal id = some p) (cause : QuotaCause)
    (op : Principal → Principal) (hid : (op p).id = id) (hjobs : (op p).restoreJobs = p.restoreJobs) (n : Notice)
    (c : Prop) [Decidable c] :
    let u : State := { s.rederive id cause op with notice := n }
    let t := if c then u.wake id else u
    t.notice = n ∧ Rederived s t id p { op p with grace := (op p).graceAfter s.clock.minute } (op p).grace cause
      (c ∧ 0 < p.restoreJobs) := by
  intro u t
  have hu : u = { s with
      notice := n
      quota := s.quota.update id fun _ => { op p with grace := (op p).graceAfter s.clock.minute }
      deadlines := graceDeadlines id (op p).grace ((op p).graceAfter s.clock.minute) s.deadlines
      port := s.port.raises
        (quotaRecords p { op p with grace := (op p).graceAfter s.clock.minute } cause) } := by
    simp only [u, State.rederive_eq s cause op hp]
  have hq : u.principal id = some { op p with grace := (op p).graceAfter s.clock.minute } :=
    State.principal_rederive_same s cause op hp hid
  have hjob (k : Nat) : u.job k = s.job k := by rw [hu]; rfl
  have hrecords : u.wakeRecords id = s.wakeRecords id := by simp only [State.wakeRecords, hjob]
  obtain ⟨hwoken, hasleep, hport, hframe⟩ := State.wakeIf_spec hq c
  simp only [hjobs, hrecords] at hwoken hasleep hport
  have hquota : t.quota = u.quota := hframe .quota (by simp)
  have hprincipal (j : Nat) : t.principal j = u.principal j := congrArg (Quota.find · j) hquota
  refine ⟨hframe .notice (by simp), (hprincipal id).trans hq,
    fun j hj => (hprincipal j).trans (State.principal_rederive_ne s cause op hp hid hj), ?_, ?_, ?_,
    fun h k hk => by rw [hwoken h k hk, hjob], fun h => (hasleep h).trans (by rw [hu]), ?_, ?_⟩
  · rw [hquota, hu]; rfl
  · rw [hquota, hu]; rfl
  · rw [show t.deadlines = u.deadlines from hframe .deadlines (by simp), hu]
  · rw [Port.raises_append, hport, hu]
  · have hus : Unchanged [.notice, .quota, .deadlines, .port] s u := by
      rw [hu]
      intro b hb
      cases b with
      | notice | quota | deadlines | port => simp at hb
      | _ => rfl
    exact (hus.trans hframe).mono (by simp)

/-- A reply whose execution raised records is answered into the descriptor that was fetched. -/
theorem Reply.answered_of_raises {s : State} {a : Nat} {q : Request} (h : s.serves a q) {r : Reply}
    {l : List EventRecord}
    (hport : r.state.port = s.port.raises l) :
    r.answered = { r.state with port := { s.port.raises l with phase := .returning a ⟨r.code, false, r.values⟩ } } := by
  have hphase : r.state.port.phase = .executing a q := by rw [hport, Port.raises_phase]; exact h.2
  rw [Reply.answered_eq hphase, hport]

/-- What an operation on one principal leaves, with its answer in hand. -/
theorem Rederived.answer {s u t : State} {id : Nat} {p q : Principal} {g : Grace} {cause : QuotaCause} {wakes : Prop}
    [Decidable wakes] (h : Rederived s u id p q g cause wakes) {phase : RequestPhase}
    (ht : t = { u with port := { s.port.raises (quotaRecords p q cause ++ if wakes then s.wakeRecords id else []) with
      phase := phase } }) :
    t.principal id = some q ∧ (∀ j, j ≠ id → t.principal j = s.principal j) ∧
      t.quota.contributions = s.quota.contributions ∧ t.quota.held = s.quota.held ∧
      t.deadlines = graceDeadlines id g q.grace s.deadlines ∧
      (∀ k < 8, t.job k = if wakes then (s.job k).map fun j => j.wokenFor id else s.job k) ∧
      Unchanged [.notice, .quota, .deadlines, .jobs, .port] s t := by
  subst ht
  exact ⟨h.record, h.others, h.contributions, h.held, h.deadlines, h.job, (h.frame.setPort _).mono (by simp)⟩

/-! ### PRINCIPAL LIMITS and CREDIT (R15, R19, R20) -/

theorem State.setLimits_eq {s : State} {id hard : Nat} (hid : 1 ≤ id ∧ id ≤ max32) (hhard : 1 ≤ hard ∧ hard ≤ max32)
    {p : Principal} (hp : s.principal id = some p) (soft period : Nat) :
    s.setLimits id soft hard period =
      ⟨(s.rederive id .limits fun p => { p with soft := min soft hard, hard := hard, period := period }).wake id,
        limitsCode soft hard, []⟩ := by
  simp [State.setLimits, validId_iff.2 hid, validHard_iff.2 hhard, hp]

/-- Settles O31: the checks in their order, then the re-derivation with its wake-up. -/
theorem principalLimitsReplacesTheLimits : Obligations.PrincipalLimitsReplacesTheLimits := by
  intro s a id soft hard period hs i
  have hexec := State.serveInserting_takes hs fun s => s.setLimits id soft hard period
  have hrefuses {code : ResultCode} (hr : s.setLimits id soft hard period = s.refuse code) : Refuses i s a code := by
    have hsame : (s.refuse code).answered.deadlines = s.deadlines := by rw [State.refuse_answered hs]
    exact refuses_of_reply hs (hexec.trans (by rw [hr, State.insertionTest_of_eq hsame])) rfl
  refine ⟨fun hbad => hrefuses ?_, fun h1 h2 h3 h4 => ⟨fun hnone => hrefuses ?_, ?_⟩⟩
  · have hrange : validId id = false ∨ validHard hard = false := by
      rw [validId_eq_false_iff, validHard_eq_false_iff]; omega
    obtain h | h := hrange <;> simp [State.setLimits, h]
  · simp [State.setLimits, validId_iff.2 ⟨h1, h2⟩, validHard_iff.2 ⟨h3, h4⟩, hnone]
  · intro p hp p' q
    have hid := State.principal_id hp
    obtain ⟨hnotice, h⟩ := State.rederived hp .limits
      (fun p => { p with soft := min soft hard, hard := hard, period := period }) hid rfl s.notice True
    have hu : { s.rederive id .limits fun p => { p with soft := min soft hard, hard := hard, period := period } with
        notice := s.notice } = s.rederive id .limits fun p =>
          { p with soft := min soft hard, hard := hard, period := period } := by
      rw [State.rederive_eq s _ _ hp]
    simp only [if_true, true_and, hu] at hnotice h
    have hexec' := hexec
    simp only [State.setLimits_eq ⟨h1, h2⟩ ⟨h3, h4⟩ hp soft period] at hexec'
    have hanswered := Reply.answered_of_raises hs (r := ⟨(s.rederive id .limits fun p =>
      { p with soft := min soft hard, hard := hard, period := period }).wake id, limitsCode soft hard, []⟩) h.port
    obtain ⟨hrecord, hothers, hcontributions, hheld, hdeadlines, hjob, hframe⟩ := h.answer hanswered
    refine ⟨_, hexec', hrecord, hothers, hcontributions, hheld, hdeadlines, hjob, ?_, hframe.of_same ?_⟩
    · unfold Answers
      rw [hanswered]
      rfl
    · rw [hanswered]
      exact hnotice

theorem State.credit_eq_rederived {s : State} {id : Nat} {p : Principal} (hp : s.principal id = some p) {n : Nat}
    (hn : 1 ≤ n) (cause : QuotaCause) :
    let p' := { p with lc := p.lc - n }
    let q := { p' with grace := p'.graceAfter s.clock.minute }
    let u : State := { s.rederive id cause fun p => { p with lc := p.lc - n } with
      notice := if p.quotaState ≠ q.quotaState ∨ s.config.reportStep ≤ absDiff q.lc q.la
        then s.notice.queueNormal id else s.notice }
    s.credit id n cause = if 0 < p.lc then u.wake id else u := by
  intro p' q u
  have hfell : (q.lc < p.lc) = (0 < p.lc) := by
    show (p.lc - n < p.lc) = _
    rw [eq_iff_iff]; omega
  have hnotice : (s.rederive id cause fun p => { p with lc := p.lc - n }).notice = s.notice :=
    s.rederive_frame id cause _ .notice (by simp)
  have hqueued : (if p.quotaState ≠ q.quotaState ∨ s.config.reportStep ≤ absDiff q.lc q.la then
      (s.rederive id cause fun p => { p with lc := p.lc - n }).queueNormal id
      else s.rederive id cause fun p => { p with lc := p.lc - n }) = u := by
    simp only [u]
    split
    · simp only [State.queueNormal, hnotice]
    · rw [← hnotice]
  rw [State.credit_eq s n cause hp]
  simp only [hqueued, hfell, q, p'] at *

/-- Settles O33: the checks in their order, then the credit operation. -/
theorem creditReturnsLocalUsage : Obligations.CreditReturnsLocalUsage := by
  intro s a id n hs i
  have hexec := State.serve_takes hs (·.creditRequest id n)
  refine ⟨fun hbad => refuses_of_reply hs hexec ?_, fun h1 h2 h3 h4 => ⟨fun hnone => refuses_of_reply hs hexec ?_, ?_⟩⟩
  · have hrange : validId id = false ∨ n = 0 ∨ max32 < n := by rw [validId_eq_false_iff]; omega
    obtain h | h | h := hrange <;> simp [State.creditRequest, h]
  · simp [State.creditRequest, validId_iff.2 ⟨h1, h2⟩, Nat.ne_of_gt h3, Nat.not_lt.2 h4, hnone]
  · intro p hp p' q wakes
    have hid := State.principal_id hp
    obtain ⟨hnotice, h⟩ := State.rederived hp .credit (fun p => { p with lc := p.lc - n }) hid rfl
      (if p.quotaState ≠ q.quotaState ∨ s.config.reportStep ≤ absDiff q.lc q.la then s.notice.queueNormal id
        else s.notice)
      (0 < p.lc)
    have hcredit := State.credit_eq_rederived hp h3 .credit
    rw [← hcredit] at hnotice h
    have heq : s.creditRequest id n = ⟨s.credit id n .credit, if p.lc < n then .clamped else .done, []⟩ := by
      simp [State.creditRequest, validId_iff.2 ⟨h1, h2⟩, Nat.ne_of_gt h3, Nat.not_lt.2 h4, hp]
    rw [heq] at hexec
    have hanswered := Reply.answered_of_raises hs
      (r := ⟨s.credit id n .credit, if p.lc < n then .clamped else .done, []⟩) h.port
    obtain ⟨hrecord, hothers, hcontributions, hheld, hdeadlines, hjob, hframe⟩ := h.answer hanswered
    refine ⟨_, hexec, hrecord, hothers, hcontributions, hheld, hdeadlines, ?_, hjob, ?_, hframe.mono (by simp)⟩
    · rw [hanswered]
      exact hnotice
    · unfold Answers
      rw [hanswered]

/-! ### A contribution update (R5, R92) -/

theorem State.contribute_eq {s : State} {id station : Nat} (value : Nat) (cause : QuotaCause) {p : Principal}
    (hp : s.principal id = some p) (hstation : station ≠ s.straps.station) :
    let mapped : State := { s with quota := { s.quota with
      contributions := setContribution id station value s.quota.contributions } }
    let remote := p.remote - s.quota.contribution id station + value
    let u : State := { mapped.rederive id cause fun p => { p with remote := remote } with notice := s.notice }
    s.contribute id station value cause = if p.lc + remote < p.campus then u.wake id else u := by
  intro mapped remote u
  have hu : u = mapped.rederive id cause fun p => { p with remote := remote } := by
    have hnotice : (mapped.rederive id cause fun p => { p with remote := remote }).notice = s.notice :=
      mapped.rederive_frame id cause _ .notice (by simp)
    simp only [u, ← hnotice]
  rw [hu]
  simp only [State.contribute, hp, if_neg hstation, mapped, remote]

/-- A delivered entry's update with what it leaves of the delivery. -/
theorem exec_usageEntryUpdate {s : State} {x : ReceivedFrame} {later : List ReceivedFrame} {e : UsageEntry}
    {rest : List UsageEntry} (hfifo : s.bus.fifo = x :: later) (hdelivery : s.bus.delivery = some (e :: rest)) :
    exec .usageEntryUpdate s = .next (
      if (s.peer x.frame.sender).state = .evicting then s.endDelivery
      else State.insertionTest
        (if rest.isEmpty then (s.contribute e.principal x.frame.sender e.value .peer).endDelivery
        else { s.contribute e.principal x.frame.sender e.value .peer with
          bus := { (s.contribute e.principal x.frame.sender e.value .peer).bus with delivery := some rest } }) s) := by
  show execUsageEntryUpdate s = _
  simp only [execUsageEntryUpdate, hfifo, hdelivery]

/-- Settles O24: the step of a delivery, then the contribution update by its two cases. -/
theorem usageEntryIsOneContributionUpdate : Obligations.UsageEntryIsOneContributionUpdate := by
  refine ⟨fun s x later e rest hfifo hdelivery => ?_, fun s id station value cause => ⟨fun hskip => ?_, ?_⟩⟩
  · have hexec := exec_usageEntryUpdate hfifo hdelivery
    refine ⟨fun hevicting => ?_, fun hother => ?_⟩
    · rw [if_pos hevicting] at hexec
      exact ⟨_, hexec, by simp only [State.endDelivery, hfifo, List.drop_succ_cons, List.drop_zero], .bus s _⟩
    · rw [if_neg hother] at hexec
      have hbus : (s.contribute e.principal x.frame.sender e.value .peer).bus = s.bus :=
        s.contribute_frame _ _ _ _ .bus (by simp)
      refine ⟨_, hexec, ?_, ?_⟩
      · cases rest with
        | nil => simp [State.endDelivery, hbus, hfifo]
        | cons y rest => simp [hbus]
      · cases rest with
        | nil => exact .bus _ _
        | cons y rest => exact .bus _ _
  · unfold State.contribute
    obtain hnone | hown := hskip
    · simp only [hnone]
    · split
      · rfl
      · rw [if_pos hown]
  · intro p hp hstation t p' q
    have hid := State.principal_id hp
    have ht : t = _ := State.contribute_eq value cause hp hstation
    obtain ⟨_, h⟩ := State.rederived (s := { s with quota := { s.quota with
      contributions := setContribution id station value s.quota.contributions } }) hp cause
      (fun p => { p with remote := p'.remote }) hid rfl s.notice (p.lc + p'.remote < p.campus)
    rw [← ht] at h
    have hmap (j k : Nat) : t.quota.contribution j k = ({ s.quota with
        contributions := setContribution id station value s.quota.contributions } : Quota).contribution j k := by
      simp only [Quota.contribution, h.contributions]
    have hframe : Unchanged [.quota, .deadlines, .jobs, .port] s t :=
      (s.contribute_frame id station value cause).mono (by simp)
    refine ⟨fun j k => (hmap j k).trans (contribution_setContribution ..), ?_, h.record, h.others, h.held, h.deadlines,
      fun hkept => ?_, fun hfell hwaiting => ?_, hframe⟩
    · refine Eq.trans ?_ (contributes_setContribution s.quota id station value)
      simp only [Quota.contributes, h.contributions]
    · have hasleep : ¬ (p.lc + p'.remote < p.campus ∧ 0 < p.restoreJobs) := by
        rintro ⟨hlt, hpos⟩
        obtain hle | hzero := hkept
        · exact absurd hlt (Nat.not_lt.2 hle)
        · omega
      refine ⟨h.asleep hasleep, ?_⟩
      rw [h.port, if_neg hasleep, List.append_nil]
    · have hwakes : p.lc + p'.remote < p.campus ∧ 0 < p.restoreJobs := ⟨hfell, hwaiting⟩
      refine ⟨h.woken hwakes, ?_⟩
      rw [h.port, if_pos hwakes]
      rfl

end Sys2Proof.Machine
end

section
/-! PROOFS. The outcomes of a CHARGE (O28), and PEER EVICT (O35). -/

namespace Sys2Proof.Machine

/-! ### CHARGE (R21 to R30, R164) -/

section Charge

variable {s : State} {a id n : Nat}

theorem exec_charge (hs : s.serves a (.charge id n)) : exec (.charge id n) s = .next (s.executeCharge a id n) := by
  obtain ⟨hstate, hphase⟩ := hs
  have htakes : s.takes (.charge id n) = true := by simp [State.takes, hphase, hstate]
  show execCharge id n s = _
  simp only [execCharge, hphase, htakes, if_true]

/-- A charge in range does what its evaluation says. -/
theorem State.executeCharge_eq (hid : 1 ≤ id ∧ id ≤ max32) (hn : 1 ≤ n ∧ n ≤ 1048575) :
    s.executeCharge a id n =
      match s.evaluate id n with
      | .unknown => (s.refuse .unknownPrincipal).answered
      | .overQuota => (s.refuse .overQuota).answered
      | .shareLimit => (s.refuse .shareLimit).answered
      | .granted => ((s.grant id n .charge).respond ((s.grant id n .charge).grantCode id) []).insertionTest s
      | .held => s.holdCharge a id n := by
  have hrange : (!validId id || n = 0 || 1048575 < n) = false := by
    simp [validId_iff.2 hid, Nat.ne_of_gt hn.1, Nat.not_lt.2 hn.2]
  unfold State.executeCharge
  rw [hrange]
  rfl

theorem charge_refuses (hs : s.serves a (.charge id n)) {code : ResultCode}
    (h : s.executeCharge a id n = (s.refuse code).answered) : Refuses (.charge id n) s a code :=
  refuses_of_reply hs ((exec_charge hs).trans (congrArg Host.Outcome.next h)) rfl

/-- A grant leaves the request process where it was. -/
theorem State.grant_phase (s : State) (id n : Nat) (cause : QuotaCause) :
    (s.grant id n cause).port.phase = s.port.phase := by
  cases hp : s.principal id with
  | none => rw [State.grant_none s n cause hp]
  | some p => rw [State.grant_eq_rederive s n cause hp, State.rederive_eq s cause _ hp, Port.raises_phase]

end Charge

/-- Settles O28: the range, then each verdict, and the second execution of a blocked CHARGE. -/
theorem chargeIsAnsweredHeldOrBlocks : Obligations.ChargeIsAnsweredHeldOrBlocks := by
  refine ⟨fun s a id n hs => ⟨fun hbad => charge_refuses hs ?_, fun h1 h2 h3 h4 => ?_⟩,
    fun s a id n hblocked hdeparted hphase => ?_⟩
  · have hrange : validId id = false ∨ n = 0 ∨ 1048575 < n := by rw [validId_eq_false_iff]; omega
    obtain h | h | h := hrange <;> simp [State.executeCharge, h]
  · have heq := State.executeCharge_eq (s := s) (a := a) ⟨h1, h2⟩ ⟨h3, h4⟩
    refine ⟨fun hv => charge_refuses hs (by rw [heq, hv]), fun hv => charge_refuses hs (by rw [heq, hv]),
      fun hv => charge_refuses hs (by rw [heq, hv]), fun hv => ?_, fun hv hroom => ?_, fun hv hfull => ?_⟩
    · have hphase : (s.grant id n .charge).port.phase = .executing a (.charge id n) :=
        (State.grant_phase s id n .charge).trans hs.2
      have hresponds : (s.grant id n .charge).respond ((s.grant id n .charge).grantCode id) [] =
          { s.grant id n .charge with port := { (s.grant id n .charge).port with
            phase := .returning a ⟨(s.grant id n .charge).grantCode id, false, []⟩ } } := by
        simp only [State.respond, hphase]
      refine ⟨_, (exec_charge hs).trans (by rw [heq, hv]), ?_⟩
      rw [hresponds]
      exact ⟨rfl, .port _ _⟩
    · refine ⟨_, (exec_charge hs).trans (by rw [heq, hv]), ?_⟩
      rw [State.holdCharge, if_pos hroom]
      refine ⟨rfl, rfl, rfl, fun b hb => ?_⟩
      cases b with
      | quota | notice | port => simp at hb
      | _ => rfl
    · refine ⟨_, (exec_charge hs).trans (by rw [heq, hv]), ?_⟩
      rw [State.holdCharge, if_neg (Nat.not_lt.2 hfull)]
      exact ⟨rfl, .port s _⟩
  · refine ⟨s.unblocked.executeCharge a id n, ?_, exec_charge (s := s.unblocked) ⟨rfl, hphase⟩⟩
    show execBlockedChargeReexecution s = _
    simp only [execBlockedChargeReexecution, hblocked, hdeparted, hphase]

/-! ### PEER EVICT (R76, R77) -/

/-- The state in which the eviction of a peer has begun (R77). -/
def State.evictionStarted (s : State) (k : Nat) : State :=
  { s with
    peers := { s.peers.setPeer k { s.peer k with state := .evicting } with
      format := (s.setPeer k { s.peer k with state := .evicting }).commonFormat
      eviction := some { station := k } }
    port := s.port.raise (.peerState k (s.peer k).state .evicting) }

theorem State.evictPeer_starts {s : State} {k : Nat} (hk : k ≤ 15) (hown : k ≠ s.straps.station)
    (hlapsed : (s.peer k).state = .lapsed) (hnone : s.peers.eviction = none) :
    s.evictPeer k = ⟨(s.evictionStarted k).stopDelivery k, .done, []⟩ := by
  simp only [State.evictPeer, if_neg (Nat.not_lt.2 hk), if_neg hown, hlapsed, hnone, Option.isSome_none,
    Bool.false_eq_true, if_false, State.changePeer_eq, State.evictionStarted]

/-- A delivery ends where the frame under delivery came from the station, and nothing else changes (R56). -/
theorem State.stopDelivery_eq (s : State) (k : Nat) :
    s.stopDelivery k =
      if s.bus.delivery ≠ none ∧ ∃ x ∈ s.bus.fifo.head?, x.frame.sender = k then s.endDelivery else s := by
  unfold State.stopDelivery
  cases hfifo : s.bus.fifo with
  | nil => simp
  | cons x later => cases hdelivery : s.bus.delivery <;> simp

theorem State.stopDelivery_frame (s : State) (k : Nat) : Unchanged [.bus] s (s.stopDelivery k) := by
  rw [State.stopDelivery_eq]
  split
  · exact .bus s _
  · exact .refl _ s

/-- Settles O35: the checks in their order, then the start of the sweep. -/
theorem peerEvictStartsTheSweep : Obligations.PeerEvictStartsTheSweep := by
  intro s a k hs i
  have hexec := State.serve_takes hs (·.evictPeer k)
  refine ⟨fun hbad => refuses_of_reply hs hexec (if_pos hbad), fun hk hmissing => refuses_of_reply hs hexec ?_,
    fun hk hown => ⟨fun hlive => refuses_of_reply hs hexec ?_, fun hgone hbusy => refuses_of_reply hs hexec ?_,
      fun hlapsed hnone => ?_⟩⟩
  · by_cases hown : k = s.straps.station
    · simp only [State.evictPeer, if_neg (Nat.not_lt.2 hk), if_pos hown]
    · simp only [State.evictPeer, if_neg (Nat.not_lt.2 hk), if_neg hown, hmissing.resolve_left hown]
  · simp only [State.evictPeer, if_neg (Nat.not_lt.2 hk), if_neg hown, hlive]
  · obtain h | h := hgone <;>
      simp only [State.evictPeer, if_neg (Nat.not_lt.2 hk), if_neg hown, h, hbusy, if_true]
  · rw [State.evictPeer_starts hk hown hlapsed hnone] at hexec
    have hframe := (s.evictionStarted k).stopDelivery_frame k
    have hpeers := hframe .peers (by simp)
    have hport := hframe .port (by simp)
    have hbus := congrArg State.bus ((s.evictionStarted k).stopDelivery_eq k)
    have hconfig : ((s.evictionStarted k).stopDelivery k).loader = s.loader := hframe .loader (by simp)
    generalize (s.evictionStarted k).stopDelivery k = u at hexec hframe hpeers hport hbus hconfig
    have hanswered := Reply.answered_of_raises hs (r := ⟨u, .done, []⟩) (l := [.peerState k .lapsed .evicting]) (by
      show u.port = _
      rw [show u.port = (s.evictionStarted k).port from hport, State.evictionStarted, hlapsed]; rfl)
    have hformat : (⟨u, .done, []⟩ : Reply).answered.commonFormat =
        (s.setPeer k { s.peer k with state := .evicting }).commonFormat := by
      rw [hanswered]
      have hpeer (j : Nat) : u.peer j = (s.setPeer k { s.peer k with state := .evicting }).peer j :=
        (congrArg (Peers.peer · j) (show u.peers = (s.evictionStarted k).peers from hpeers) :)
      refine State.commonFormat_congr ?_ fun j _ => ?_
      · exact congrArg (·.config.extendedFormat) hconfig
      · show (u.peer j).state = _ ∧ ((u.peer j).capability = _ ↔ _)
        rw [hpeer]
        exact ⟨rfl, .rfl⟩
    refine ⟨_, hexec, ?_, ?_, ?_, ?_, ?_⟩
    · rw [hformat, hanswered]
      exact hpeers
    · intro hother
      rw [hanswered]
      refine hbus.trans ((congrArg State.bus (if_neg ?_)).trans rfl)
      rintro ⟨hsome, x, hx, hsender⟩
      obtain h | h := hother
      · exact hsome h
      · exact h x hx hsender
    · intro hsome hsender
      rw [hanswered]
      exact hbus.trans (congrArg State.bus (if_pos ⟨hsome, hsender⟩))
    · unfold Answers
      rw [hanswered]
    · rw [hanswered]
      have hstarted : Unchanged [.peers, .port] s (s.evictionStarted k) := by
        intro b hb
        cases b with
        | peers | port => simp at hb
        | _ => rfl
      exact ((hstarted.trans hframe).setPort _).mono (by simp)

end Sys2Proof.Machine
end

section
/-! PROOFS. The end of a restore job by its requests (O38), and the return of a permit (O39). -/

namespace Sys2Proof.Machine

/-! ### Answers with the precedence count settled (R120, R163) -/

/-- What a request that settled the precedence count and answered leaves of the state that it settled. -/
def Settled (s u t : State) (address : Nat) (code : ResultCode) : Prop :=
  t.arbiter = { u.arbiter with precedence := t.arbiter.precedence } ∧
  (t.arbiter.precedence = s.arbiter.precedence ∨ t.arbiter.precedence = 0) ∧
  Answers u t address code [] [] ∧ Unchanged [.arbiter, .port] u t

theorem settled_of_answered {s u : State} {a : Nat} {q : Request} (code : ResultCode)
    (hphase : u.port.phase = .executing a q) (hprecedence : u.arbiter.precedence = s.arbiter.precedence) :
    Settled s u (⟨u.settlePrecedence, code, []⟩ : Reply).answered a code := by
  rw [Reply.answered_settled hphase]
  refine ⟨rfl, hprecedence ▸ (State.settlePrecedence_spec u).2, rfl, fun b hb => ?_⟩
  cases b with
  | arbiter | port => simp at hb
  | _ => rfl

/-- The end of a job leaves the request process where it was. -/
theorem JobEnds.phase {s t : State} {slot : Nat} {j : Job} (h : JobEnds s t slot j) : t.port.phase = s.port.phase := by
  obtain ⟨_, _, _, _, _, _, hport, _⟩ := h
  rw [hport, Port.raises_phase]

theorem JobEnds.precedence {s t : State} {slot : Nat} {j : Job} (h : JobEnds s t slot j) :
    t.arbiter.precedence = s.arbiter.precedence := by
  obtain ⟨_, _, _, _, _, harbiter, _, _⟩ := h
  rw [harbiter]

theorem NightEnds.phase {s t : State} {v : Nat} {n : Night} (h : NightEnds s t v n) : t.port.phase = s.port.phase := by
  obtain ⟨_, _, hport, _⟩ := h
  rw [hport, Port.raises_phase]

theorem NightEnds.precedence {s t : State} {v : Nat} {n : Night} (h : NightEnds s t v n) :
    t.arbiter.precedence = s.arbiter.precedence :=
  congrArg Arbiter.precedence (h.2.2.2 .arbiter (by simp))

/-! ### RESTORE END and RESTORE CANCEL (R115 to R117) -/

/-- The part after a job in SYNC-WAIT or QUOTA-WAIT has stopped waiting (R115, R116). -/
def State.stopWaiting (s : State) (slot : Nat) (j : Job) (last : JobState) : State :=
  if j.state = .syncWait then s.dropHeldChunk slot
  else if j.state = .quotaWait then
    s.raise (.restoreState slot j.tag j.principal .quotaWait last j.charged j.moved)
  else s

theorem State.closeJob_eq (s : State) (slot : Nat) (j : Job) (last : JobState) :
    s.closeJob slot j last =
      ((s.stopWaiting slot j last).setJob slot (some { j with state := last, deferred := false })).endJobIfDone
        slot := by
  unfold State.closeJob State.stopWaiting
  cases j.state <;> rfl

theorem State.stopWaiting_phase (s : State) (slot : Nat) (j : Job) (last : JobState) :
    (s.stopWaiting slot j last).port.phase = s.port.phase := by
  unfold State.stopWaiting
  split
  · rfl
  · split
    · exact Port.raise_phase _ _
    · rfl

theorem State.stopWaiting_arbiter (s : State) (slot : Nat) (j : Job) (last : JobState) :
    (s.stopWaiting slot j last).arbiter = s.arbiter := by
  unfold State.stopWaiting
  split
  · rfl
  · split <;> rfl

/-- The reply to a request that closes a job, RESTORE CANCEL or RESTORE END. -/
def State.closeRestore (s : State) (cancel : Bool) (slot tag : Nat) : Reply :=
  if cancel = true then s.cancelRestore slot tag else s.finishRestore slot tag

section CloseRestore

variable {s : State} {cancel : Bool} {slot tag : Nat} {j : Job}

theorem State.closeRestore_badRequest (h : 7 < slot) : s.closeRestore cancel slot tag = s.refuse .badRequest := by
  cases cancel <;> exact if_pos h

theorem State.closeRestore_free (hslot : slot ≤ 7) (h : s.job slot = none) :
    s.closeRestore cancel slot tag = s.refuse .notFound := by
  cases cancel <;> simp [State.closeRestore, State.cancelRestore, State.finishRestore, Nat.not_lt.2 hslot, h]

theorem State.closeRestore_otherTag (hslot : slot ≤ 7) (h : s.job slot = some j) (htag : j.tag ≠ tag) :
    s.closeRestore cancel slot tag = s.refuse .notFound := by
  cases cancel <;> simp [State.closeRestore, State.cancelRestore, State.finishRestore, Nat.not_lt.2 hslot, h, htag]

theorem State.closeRestore_busy (hslot : slot ≤ 7) (h : s.job slot = some j) (htag : j.tag = tag)
    (hclosing : j.state = .cancelling ∨ (j.state = .finishing ∧ cancel = false)) :
    s.closeRestore cancel slot tag = s.refuse .busy := by
  obtain hstate | ⟨hstate, rfl⟩ := hclosing
  · cases cancel <;>
      simp [State.closeRestore, State.cancelRestore, State.finishRestore, Nat.not_lt.2 hslot, h, htag, hstate]
  · simp [State.closeRestore, State.finishRestore, Nat.not_lt.2 hslot, h, htag, hstate]

theorem State.closeRestore_closes (hslot : slot ≤ 7) (h : s.job slot = some j) (htag : j.tag = tag)
    (hopen : ¬ (j.state = .cancelling ∨ (j.state = .finishing ∧ cancel = false))) :
    s.closeRestore cancel slot tag =
      ⟨(s.closeJob slot j (if cancel = true then .cancelling else .finishing)).settlePrecedence, .done, []⟩ := by
  cases cancel with
  | true =>
    simp only [State.closeRestore, State.cancelRestore, Nat.not_lt.2 hslot, h, htag, if_true, if_false, ne_eq,
      not_true_eq_false]
    cases hstate : j.state <;> simp_all
  | false =>
    simp only [State.closeRestore, State.finishRestore, Nat.not_lt.2 hslot, h, htag, if_false, ne_eq,
      not_true_eq_false, Bool.false_eq_true]
    cases hstate : j.state <;> simp_all

end CloseRestore

theorem exec_closeRestore {s : State} {a slot tag : Nat} {cancel : Bool}
    (hs : s.serves a (if cancel = true then .restoreCancel slot tag else .restoreEnd slot tag)) :
    exec (if cancel = true then .restoreCancel slot tag else .restoreEnd slot tag) s =
      .next (s.closeRestore cancel slot tag).answered := by
  cases cancel with
  | true => exact State.serve_takes hs (·.cancelRestore slot tag)
  | false => exact State.serve_takes hs (·.finishRestore slot tag)

/-- Settles O38: the checks in their order, then the job left open with a permit out or ended without. -/
theorem restoreEndAndCancelCloseTheJob : Obligations.RestoreEndAndCancelCloseTheJob := by
  intro s a slot tag cancel i r last hs
  have hexec := exec_closeRestore hs
  refine ⟨fun hbad => refuses_of_reply hs hexec (State.closeRestore_badRequest hbad),
    fun hslot hfree => refuses_of_reply hs hexec (State.closeRestore_free hslot hfree), fun j hslot hj =>
    ⟨fun htag => refuses_of_reply hs hexec (State.closeRestore_otherTag hslot hj htag), fun htag =>
    ⟨fun hclosing => refuses_of_reply hs hexec (State.closeRestore_busy hslot hj htag hclosing), fun hopen => ?_⟩⟩⟩
  intro left k closed
  have hleft : left = s.stopWaiting slot j last := rfl
  rw [State.closeRestore_closes hslot hj htag hopen, State.closeJob_eq] at hexec
  change exec i s = .next (⟨(closed.endJobIfDone slot).settlePrecedence, .done, []⟩ : Reply).answered at hexec
  have hset : closed.job slot = some k := State.job_setJob_same left _ (Nat.lt_succ_of_le hslot)
  have hphase : closed.port.phase = .executing a r :=
    (congrArg (·.port.phase) hleft).trans ((s.stopWaiting_phase slot j last).trans hs.2)
  have hprecedence : closed.arbiter.precedence = s.arbiter.precedence :=
    congrArg Arbiter.precedence ((congrArg State.arbiter hleft).trans (s.stopWaiting_arbiter slot j last))
  by_cases hnone : j.permits = 0
  · have hends := closed.endJobIfDone_done hset (by show last.closing = true; cases cancel <;> rfl) hnone
    obtain ⟨harbiter, hcount, hanswers, hframe⟩ := settled_of_answered (s := s) .done (hends.phase.trans hphase)
      (hends.precedence.trans hprecedence)
    exact ⟨_, hexec, hcount, fun h => absurd hnone h, fun _ => ⟨_, hends, harbiter, hanswers, hframe⟩⟩
  · rw [closed.endJobIfDone_open hset fun h => hnone h.2] at hexec
    obtain ⟨harbiter, hcount, hanswers, hframe⟩ := settled_of_answered (s := s) .done hphase hprecedence
    refine ⟨_, hexec, hcount, fun _ => ⟨harbiter.trans ?_, hanswers, hframe⟩, fun h => absurd h hnone⟩
    rw [show closed.arbiter = s.arbiter from
      (congrArg State.arbiter hleft).trans (s.stopWaiting_arbiter slot j last)]

/-! ### PERMIT DONE (R124 to R126, R128) -/

/-- A credit leaves the request process where it was. -/
theorem State.creditBack_phase (s : State) (id chunk moved : Nat) :
    (s.creditBack id chunk moved).port.phase = s.port.phase := by
  unfold State.creditBack
  split
  · rename_i hlt
    cases hp : s.principal id with
    | none => rw [State.credit_none s _ _ hp]
    | some p =>
      rw [State.credit_eq_rederived hp (Nat.sub_pos_of_lt hlt)]
      have hid := State.principal_id hp
      rw [(State.rederived hp .restore (fun p => { p with lc := p.lc - (chunk - moved) }) hid rfl _ (0 < p.lc)).2.port,
        Port.raises_phase]
  · rfl

theorem State.creditBack_none {s : State} {id : Nat} (h : s.principal id = none) (chunk moved : Nat) :
    s.creditBack id chunk moved = s := by
  unfold State.creditBack
  split
  · exact s.credit_none _ _ h
  · rfl

theorem State.settleChunk_eq {s : State} {slot principal chunk moved : Nat} {j : Job}
    (h : (s.creditBack principal chunk moved).job slot = some j) :
    s.settleChunk slot principal chunk moved =
      (s.creditBack principal chunk moved).setJob slot (some (j.returned chunk moved)) := by
  simp only [State.settleChunk, h]

section PermitDone

variable {s : State} {id m : Nat}

theorem State.permitDone_outstanding {p : Permit} (h : (s.arbiter.permits.find? fun q => q.id == id) = some p) :
    s.permitDone id m =
      ⟨(s.returnPermit p (min m p.chunk)).settlePrecedence, if p.chunk < m then .clamped else .done, []⟩ := by
  simp only [State.permitDone, h]

theorem State.permitDone_late {e : ExpiredPermit} (hnone : ∀ p ∈ s.arbiter.permits, p.id ≠ id)
    (h : (s.arbiter.expired.find? fun q => q.id == id) = some e) :
    s.permitDone id m = ⟨(s.lateAnswer e (min m e.chunk)).settlePrecedence, .late, []⟩ := by
  have hfind : (s.arbiter.permits.find? fun p => p.id == id) = none := by simpa using hnone
  simp only [State.permitDone, hfind, h]

theorem State.permitDone_none (hnone : ∀ p ∈ s.arbiter.permits, p.id ≠ id)
    (hexpired : ∀ e ∈ s.arbiter.expired, e.id ≠ id) : s.permitDone id m = s.refuse .noPermit := by
  have hfind : (s.arbiter.permits.find? fun p => p.id == id) = none := by simpa using hnone
  have hfind' : (s.arbiter.expired.find? fun e => e.id == id) = none := by simpa using hexpired
  simp only [State.permitDone, hfind, hfind']

end PermitDone

/-- The permit of a job has been returned: the chunk is settled, and a closing job ends with its last permit (R125). -/
theorem State.returnPermit_job {s u : State} {p : Permit} {slot principal moved : Nat} {j : Job}
    (howner : p.owner = .job slot principal)
    (hu : u = State.creditBack { s with arbiter := s.arbiter.withoutPermit p.id } principal p.chunk moved)
    (hj : u.job slot = some j) :
    s.returnPermit p moved =
      (u.setJob slot (some { j with
        charged := j.charged - (p.chunk - moved)
        moved := j.moved + moved
        permits := j.permits - 1 })).endJobIfDone slot := by
  have hset := State.job_setJob_same u (some (j.returned p.chunk moved)) (State.job_lt _ hj)
  have hsettled : State.settleChunk { s with arbiter := s.arbiter.withoutPermit p.id } slot principal p.chunk moved =
      u.setJob slot (some (j.returned p.chunk moved)) := by
    rw [State.settleChunk_eq (hu ▸ hj), hu]
  simp only [Arbiter.withoutPermit] at hsettled
  simp only [State.returnPermit, howner, hsettled]
  rw [State.jobPermitGone_eq _ id hset, State.setJob_setJob]
  rfl

/-- Settles O39: an outstanding permit of a job and of a night, an expired one by its owner, and no permit. -/
theorem permitDoneReturnsThePermit : Obligations.PermitDoneReturnsThePermit := by
  intro s a id m hs i settled credited
  have hexec := State.serve_takes hs (·.permitDone id m)
  have hsettled {u : State} (code : ResultCode) (hphase : u.port.phase = s.port.phase)
      (hprecedence : u.arbiter.precedence = s.arbiter.precedence) :
      settled u (⟨u.settlePrecedence, code, []⟩ : Reply).answered code :=
    settled_of_answered code (hphase.trans hs.2) hprecedence
  have hcredit (left : State) (principal c m : Nat) : credited left principal c m = left.creditBack principal c m := rfl
  refine ⟨fun p hp => ?outstanding, fun hnone => ⟨fun e he => ?late,
    fun hexpired => refuses_of_reply hs hexec (State.permitDone_none hnone hexpired)⟩⟩
  case outstanding =>
    intro code m' left
    have hid : p.id = id := by simpa using List.find?_some hp
    have hleft : { s with arbiter := s.arbiter.withoutPermit p.id } = left := by
      simp only [Arbiter.withoutPermit, hid, left]
    simp only [State.permitDone_outstanding hp] at hexec
    refine ⟨fun slot principal j howner hj => ?_, fun v g n howner hn => ?_⟩
    · intro u k
      have hreturn : s.returnPermit p m' = (u.setJob slot (some k)).endJobIfDone slot :=
        State.returnPermit_job howner (hleft ▸ rfl) hj
      rw [hreturn] at hexec
      have hset : (u.setJob slot (some k)).job slot = some k := State.job_setJob_same u _ (State.job_lt _ hj)
      have hphase : u.port.phase = s.port.phase := left.creditBack_phase principal p.chunk m'
      have harbiter : u.arbiter = left.arbiter := left.creditBack_arbiter principal p.chunk m'
      have hprecedence : u.arbiter.precedence = s.arbiter.precedence := (congrArg Arbiter.precedence harbiter :)
      refine ⟨_, hexec, fun hopen => ?_, fun hclosing hlast => ?_⟩
      · rw [State.endJobIfDone_open _ hset fun h => hopen ⟨h.1, Nat.sub_eq_zero_iff_le.1 h.2⟩]
        exact hsettled code hphase hprecedence
      · have hends := State.endJobIfDone_done _ hset hclosing (Nat.sub_eq_zero_iff_le.2 hlast)
        exact ⟨_, hends, hsettled code (hends.phase.trans hphase) (hends.precedence.trans hprecedence)⟩
    · intro k u
      have hreturn : s.returnPermit p m' = u.endNightIfDone v := by
        have hgone : s.returnPermit p m' =
            State.nightPermitGone { s with arbiter := s.arbiter.withoutPermit p.id } v m' := by
          simp only [State.returnPermit, howner]
          rfl
        rw [hgone, hleft, State.nightPermitGone_eq left m' hn]
        rfl
      rw [hreturn] at hexec
      have hset : (u.volume v).night = some k := congrArg Volume.night
        (State.volume_setVolume_same left _ (s.night_lt hn))
      refine ⟨_, hexec, fun hopen => ?_, fun hclosing hlast => ?_⟩
      · rw [State.endNightIfDone_open _ hset fun h => hopen ⟨h.1, Nat.sub_eq_zero_iff_le.1 h.2⟩]
        exact hsettled code rfl rfl
      · have hends := State.endNightIfDone_done _ hset hclosing (Nat.sub_eq_zero_iff_le.2 hlast)
        exact ⟨_, hends, hsettled code hends.phase hends.precedence⟩
  case late =>
    intro m' left
    have hid : e.id = id := by simpa using List.find?_some he
    have hleft : { s with arbiter := s.arbiter.withoutExpired e.id } = left := by
      simp only [Arbiter.withoutExpired, hid, left]
    have hlate : s.lateAnswer e m' =
        match e.owner with
        | .job slot principal => left.settleChunk slot principal e.chunk m'
        | .formerJob principal => left.creditBack principal e.chunk m'
        | .night volume generation =>
          match (left.volume volume).night with
          | none => left
          | some n =>
            if n.generation = generation then
              left.setVolume volume { left.volume volume with night := some { n with remaining := n.remaining - m' } }
            else left := by
      rw [← hleft]
      rfl
    simp only [State.permitDone_late hnone he] at hexec
    rw [hlate] at hexec
    have hprecedence (principal : Nat) :
        (left.creditBack principal e.chunk m').arbiter.precedence = s.arbiter.precedence :=
      (congrArg Arbiter.precedence (left.creditBack_arbiter principal e.chunk m') :)
    refine ⟨fun slot principal j howner hj => ?_, fun principal howner => ?_, fun v g howner => ?_⟩
    · simp only [howner] at hexec
      rw [State.settleChunk_eq hj] at hexec
      exact ⟨_, hexec, hsettled .late (left.creditBack_phase principal e.chunk m') (hprecedence principal)⟩
    · simp only [howner] at hexec
      have hanswer := hsettled .late (left.creditBack_phase principal e.chunk m') (hprecedence principal)
      refine ⟨_, hexec, fun hunknown => ?_, hanswer⟩
      have hsame : left.creditBack principal e.chunk m' = left :=
        State.creditBack_none (s := left) hunknown _ _
      rw [hsame]
      exact hsettled .late rfl rfl
    · simp only [howner] at hexec
      refine ⟨_, hexec, fun hother => ?_, fun n hn hg => ?_⟩
      · cases hn : (s.volume v).night with
        | none =>
          have hn' : (left.volume v).night = none := hn
          simp only [hn']
          exact hsettled .late rfl rfl
        | some n =>
          have hn' : (left.volume v).night = some n := hn
          simp only [hn', if_neg (hother n hn)]
          exact hsettled .late rfl rfl
      · have hn' : (left.volume v).night = some n := hn
        simp only [hn', if_pos hg]
        exact hsettled .late rfl rfl

end Sys2Proof.Machine
end

section
/-! PROOFS. Bytes in both orders, the packing of descriptors and the round trip of a request (O53), and the round trip
of a frame (O52). -/

namespace Sys2Proof.Machine

/-! ### Bytes (R176) -/

@[simp] theorem length_littleEndian (width v : Nat) : (littleEndian width v).length = width := by
  induction width generalizing v with
  | zero => rfl
  | succ width ih => simp [littleEndian, ih]

@[simp] theorem length_bigEndian (width v : Nat) : (bigEndian width v).length = width := by simp [bigEndian]

theorem fromLittleEndian_littleEndian {width v : Nat} (h : v < 256 ^ width) :
    fromLittleEndian (littleEndian width v) = v := by
  induction width generalizing v with
  | zero => simp only [Nat.pow_zero, Nat.lt_one_iff] at h; simp [littleEndian, fromLittleEndian, h]
  | succ width ih =>
    have hdiv : v / 256 < 256 ^ width := by rw [Nat.pow_succ] at h; exact Nat.div_lt_of_lt_mul (by omega)
    simp only [littleEndian, fromLittleEndian, ih hdiv, BitVec.toNat_ofNat]
    omega

theorem littleEndian_fromLittleEndian (l : List Byte) : littleEndian l.length (fromLittleEndian l) = l := by
  induction l with
  | nil => rfl
  | cons b l ih =>
    have hb := b.isLt
    have hdiv : (b.toNat + 256 * fromLittleEndian l) / 256 = fromLittleEndian l := by omega
    have hlow : BitVec.ofNat 8 (b.toNat + 256 * fromLittleEndian l) = b := by
      apply BitVec.eq_of_toNat_eq
      rw [BitVec.toNat_ofNat]
      omega
    simp only [List.length_cons, littleEndian, fromLittleEndian, hdiv, hlow, ih]

theorem fromBigEndian_bigEndian {width v : Nat} (h : v < 256 ^ width) : fromBigEndian (bigEndian width v) = v := by
  rw [fromBigEndian, bigEndian, List.reverse_reverse, fromLittleEndian_littleEndian h]

theorem bigEndian_fromBigEndian (l : List Byte) : bigEndian l.length (fromBigEndian l) = l := by
  rw [fromBigEndian, bigEndian, ← List.length_reverse, littleEndian_fromLittleEndian, List.reverse_reverse]

theorem bytesAt_eq_take_drop {l : List Byte} {offset width : Nat} (h : offset + width ≤ l.length) :
    bytesAt l offset width = (l.drop offset).take width := by
  refine List.ext_getElem (by simp [bytesAt]; omega) fun k hk _ => ?_
  have hk' : offset + k < l.length := by simp [bytesAt] at hk; omega
  simp [bytesAt, List.getD_eq_getElem?_getD, List.getElem?_eq_getElem hk']

/-- A part of a list reads back at the offset where it stands. -/
theorem bytesAt_append (l m r : List Byte) : bytesAt (l ++ m ++ r) l.length m.length = m := by
  rw [bytesAt_eq_take_drop (by simp), List.append_assoc, List.drop_left, List.take_left]

theorem padTo_eq_append {n : Nat} {l : List Byte} (h : l.length ≤ n) :
    padTo n l = l ++ List.replicate (n - l.length) 0 := by
  rw [padTo, List.take_append, List.take_of_length_le h, List.take_replicate, Nat.min_eq_left (Nat.sub_le _ _)]

/-! ### Packing (R177) -/

theorem le_alignedOffset (offset width : Nat) : offset ≤ alignedOffset offset width := Nat.le_add_right _ _

theorem alignedOffset_le (offset width : Nat) : alignedOffset offset width ≤ offset + 4 := by
  have hstep : min width 4 ≤ 4 := Nat.min_le_right _ _
  have hmod : (min width 4 - offset % min width 4) % min width 4 ≤ min width 4 :=
    Nat.le_trans (Nat.mod_le _ _) (Nat.sub_le _ _)
  show offset + _ ≤ _
  omega

/-- The bytes before a field, from an offset to the field's own. -/
theorem length_packFields_cons (offset : Nat) (f : Field) (rest : List Field) :
    (packFields offset (f :: rest)).length =
      alignedOffset offset f.width - offset + f.width +
        (packFields (alignedOffset offset f.width + f.width) rest).length := by
  simp [packFields, Nat.add_assoc]

theorem length_packFields_le {fields : List Field} (h : ∀ f ∈ fields, f.width ≤ 4) (offset : Nat) :
    (packFields offset fields).length ≤ 8 * fields.length := by
  induction fields generalizing offset with
  | nil => exact Nat.le_refl 0
  | cons f rest ih =>
    have hf := h f (by simp)
    have hrest := ih (fun g hg => h g (by simp [hg])) (alignedOffset offset f.width + f.width)
    have haligned := alignedOffset_le offset f.width
    rw [length_packFields_cons, List.length_cons]
    omega

/-- Packed values read back at their offsets (R177). -/
theorem unpackFields_packFields {fields : List Field} (h : ∀ f ∈ fields, f.value < 256 ^ f.width)
    (before after : List Byte) :
    unpackFields (before ++ packFields before.length fields ++ after) before.length (fields.map (·.width)) =
      fields.map (·.value) := by
  induction fields generalizing before with
  | nil => rfl
  | cons f rest ih =>
    have hf := h f (by simp)
    have haligned := le_alignedOffset before.length f.width
    generalize hat : alignedOffset before.length f.width = place at haligned
    have hgap : (before ++ List.replicate (place - before.length) 0).length = place := by simp; omega
    have hread : (before ++ List.replicate (place - before.length) 0 ++ littleEndian f.width f.value).length =
        place + f.width := by rw [List.length_append, hgap, length_littleEndian]
    have hbytes : before ++ packFields before.length (f :: rest) ++ after =
        before ++ List.replicate (place - before.length) 0 ++ littleEndian f.width f.value ++
          packFields (place + f.width) rest ++ after := by
      simp [packFields, hat, List.append_assoc]
    have hvalue : fromLittleEndian (bytesAt (before ++ List.replicate (place - before.length) 0 ++
        littleEndian f.width f.value ++ packFields (place + f.width) rest ++ after) place f.width) = f.value := by
      have hpart := bytesAt_append (before ++ List.replicate (place - before.length) 0) (littleEndian f.width f.value)
        (packFields (place + f.width) rest ++ after)
      rw [hgap, length_littleEndian] at hpart
      rw [List.append_assoc, hpart, fromLittleEndian_littleEndian hf]
    have hrest := ih (fun g hg => h g (by simp [hg]))
      (before ++ List.replicate (place - before.length) 0 ++ littleEndian f.width f.value)
    rw [hread] at hrest
    simp only [List.map_cons, unpackFields, hat]
    rw [hbytes, hvalue, hrest]

/-! ### The round trip of a request (R177, R179) -/

/-- A request that fits its fields has at most six operands, each of at most four bytes and in its field's range. -/
theorem requestParts_fit {r : Request} (h : r.wellFormed = true) :
    (requestParts r).2.length ≤ 6 ∧ ∀ f ∈ (requestParts r).2, f.width ≤ 4 ∧ f.value < 256 ^ f.width := by
  cases r <;>
    simp_all [requestParts, Request.wellFormed, u8, u16, u32, fits8, fits16, fits32, and_assoc]

theorem requestParts_kind (r : Request) : (requestParts r).1 < 256 := by cases r <;> simp [requestParts]

/-- A descriptor that holds a request's kind and its operands decodes to the request. -/
theorem decodeRequest_of_parts {bytes : List Byte} {r : Request} (hkind : (bytes.getD 1 0).toNat = (requestParts r).1)
    (hoperands : unpackFields bytes 4 ((requestParts r).2.map (·.width)) = (requestParts r).2.map (·.value)) :
    decodeRequest bytes = some r := by
  cases r <;> simp only [requestParts, u8, u16, u32, List.map_cons, List.map_nil] at hkind hoperands <;>
    simp only [decodeRequest, hkind, hoperands]

/-- Settles O53: the descriptor is its header, the packed operands and 00h bytes, and each operand reads back. -/
theorem requestsDecodeBack : Obligations.RequestsDecodeBack := by
  intro r hr
  obtain ⟨hcount, hfits⟩ := requestParts_fit hr
  have hlength :
      ([0x01#8, BitVec.ofNat 8 (requestParts r).1, 0#8, 0#8] ++ packFields 4 (requestParts r).2).length ≤ 64 := by
    have := length_packFields_le (fun f hf => (hfits f hf).1) 4
    simp only [List.length_append, List.length_cons, List.length_nil]
    omega
  have hbytes := padTo_eq_append hlength
  refine ⟨length_padTo 64 _, ?_, decodeRequest_of_parts ?_ ?_⟩
  · rw [requestDescriptor, hbytes]
    rfl
  · rw [requestDescriptor, hbytes]
    exact Nat.mod_eq_of_lt (requestParts_kind r)
  · rw [requestDescriptor, hbytes]
    exact unpackFields_packFields (fun f hf => (hfits f hf).2) [0x01#8, BitVec.ofNat 8 (requestParts r).1, 0#8, 0#8] _

end Sys2Proof.Machine
end

section
/-! PROOFS. The round trip of a frame (O52). -/

namespace Sys2Proof.Machine

/-! ### Values in order, most significant byte first (R180) -/

/-- Values one after another, each most significant byte first. -/
def bigEndians (l : List Field) : List Byte := l.flatMap fun f => bigEndian f.width f.value

/-- The bytes that values take. -/
def widths (l : List Field) : Nat := (l.map (·.width)).sum

theorem length_bigEndians (l : List Field) : (bigEndians l).length = widths l := by
  simp [bigEndians, widths, List.length_flatMap]

/-- A value reads back at the offset where it stands. -/
theorem valueAt_append {width v : Nat} (hv : v < 256 ^ width) (before after : List Byte) :
    valueAt (before ++ bigEndian width v ++ after) before.length width = v := by
  have hbytes := bytesAt_append before (bigEndian width v) after
  rw [length_bigEndian] at hbytes
  rw [valueAt, hbytes, fromBigEndian_bigEndian hv]

/-- Every value of a sequence reads back after those before it. -/
theorem valueAt_bigEndians {before : List Field} {f : Field} (hf : f.value < 256 ^ f.width) (after : List Field)
    (rest : List Byte) :
    valueAt (bigEndians (before ++ f :: after) ++ rest) (widths before) f.width = f.value := by
  have h := valueAt_append hf (bigEndians before) (bigEndians after ++ rest)
  rw [length_bigEndians] at h
  simpa [bigEndians, List.append_assoc] using h

/-- The value of a number in a sequence reads back at the sum of the widths before it. -/
theorem valueAt_bigEndians_getElem {l : List Field} (k : Nat) (hk : k < l.length) (hf : l[k].value < 256 ^ l[k].width)
    (rest : List Byte) : valueAt (bigEndians l ++ rest) (widths (l.take k)) l[k].width = l[k].value := by
  have h := valueAt_bigEndians (before := l.take k) hf (l.drop (k + 1)) rest
  rwa [List.getElem_cons_drop, List.take_append_drop] at h

/-! ### Frames as their fields (R180) -/

/-- The fields of a USAGE frame's entry. -/
def UsageEntry.fields (e : UsageEntry) : List Field := [u32 e.principal, u32 e.value]

/-- The fields of a frame before its check, in the order in which they go onto the line. -/
def Frame.fields : Frame → List Field
  | .usage sender format entries =>
    [u8 2, u8 sender, u8 format.code, u8 entries.length, u16 (8 * entries.length)] ++ entries.flatMap UsageEntry.fields
  | .presence sender extended minute none =>
    [u8 1, u8 sender, u8 (if extended then 3 else 1), u8 0, u16 8, u32 minute, u32 0]
  | .presence sender extended minute (some c) =>
    [u8 1, u8 sender, u8 (if extended then 3 else 1), u8 1, u16 12, u32 minute, u32 c.backlog, u16 c.seconds,
      u8 (if c.paused then 1 else 0), u8 0]

theorem bigEndians_usageEntries (entries : List UsageEntry) :
    bigEndians (entries.flatMap UsageEntry.fields) = usageBody entries := by
  simp [bigEndians, usageBody, List.flatMap_assoc, UsageEntry.fields, u32]

theorem Frame.bytes_eq (f : Frame) : f.bytes = withCheck (bigEndians f.fields) := by
  cases f with
  | usage sender format entries =>
    have h := bigEndians_usageEntries entries
    simp only [bigEndians] at h
    simp only [Frame.bytes, Frame.fields, bigEndians, List.flatMap_append, h]
    rfl
  | presence sender extended minute claim =>
    cases claim with
    | none => cases extended <;> rfl
    | some c => cases extended <;> simp only [Frame.bytes, Frame.fields, presenceBody] <;> cases c.paused <;> rfl

/-! ### The check and the header (R54) -/

theorem length_withCheck (bytes : List Byte) : (withCheck bytes).length = bytes.length + 2 := by simp [withCheck]

/-- Bytes with their check, of an allowed number and from a station, parse as their kind says (R54). -/
theorem parseFrame_withCheck {bytes : List Byte} (hlow : 6 ≤ bytes.length) (hhigh : bytes.length ≤ 246) {sender : Nat}
    (hread : valueAt (withCheck bytes) 1 1 = sender) (hsender : sender ≤ 15) :
    (valueAt (withCheck bytes) 0 1 = 1 → parseFrame (withCheck bytes) = parsePresence (withCheck bytes) sender) ∧
    (valueAt (withCheck bytes) 0 1 = 2 → parseFrame (withCheck bytes) = parseUsage (withCheck bytes) sender) := by
  have hlength := length_withCheck bytes
  have hrange : ¬ ((withCheck bytes).length < 8 ∨ 248 < (withCheck bytes).length) := by omega
  have htake : (withCheck bytes).take ((withCheck bytes).length - 2) = bytes := by
    rw [hlength, Nat.add_sub_cancel, withCheck, List.take_left]
  have hcheck : valueAt (withCheck bytes) ((withCheck bytes).length - 2) 2 = (crc16 bytes).toNat := by
    have h := valueAt_append (width := 2) (crc16 bytes).isLt bytes []
    rw [List.append_nil] at h
    rw [hlength, Nat.add_sub_cancel]
    exact h
  constructor <;> intro hkind <;> unfold parseFrame <;> rw [if_neg hrange, htake, hcheck, if_neg (fun h => h rfl)] <;>
    simp only [hread, if_neg (Nat.not_lt.2 hsender), hkind]

/-- The values of a legal frame fit their fields (R180). -/
theorem Frame.fields_fit {f : Frame} (h : f.legal) : ∀ x ∈ f.fields, x.value < 256 ^ x.width := by
  match f with
  | .usage sender format entries =>
    obtain ⟨hsender, _, hlimit, hentries⟩ := h
    have hcode : format.code < 256 := by cases format <;> decide
    have hcount : entries.length ≤ 30 := Nat.le_trans hlimit (by cases format <;> decide)
    intro x hx
    obtain hx | hx := List.mem_append.1 hx
    · simp only [List.mem_cons, List.not_mem_nil, or_false] at hx
      obtain rfl | rfl | rfl | rfl | rfl := hx <;> simp only [u8, u16] <;> omega
    · obtain ⟨e, he, hx⟩ := List.mem_flatMap.1 hx
      obtain ⟨hprincipal, hvalue⟩ := hentries e he
      simp only [max32] at hprincipal hvalue
      simp only [UsageEntry.fields, List.mem_cons, List.not_mem_nil, or_false] at hx
      obtain rfl | rfl := hx <;> simp only [u32] <;> omega
  | .presence sender extended minute none =>
    obtain ⟨hsender, hminute, _⟩ := h
    simp only [max32] at hminute
    intro x hx
    simp only [Frame.fields, List.mem_cons, List.not_mem_nil, or_false] at hx
    obtain rfl | rfl | rfl | rfl | rfl | rfl | rfl := hx <;> simp only [u8, u16, u32] <;> grind
  | .presence sender extended minute (some c) =>
    obtain ⟨hsender, hminute, hbacklog, hseconds⟩ := h
    simp only [max32] at hminute hbacklog
    intro x hx
    simp only [Frame.fields, List.mem_cons, List.not_mem_nil, or_false] at hx
    obtain rfl | rfl | rfl | rfl | rfl | rfl | rfl | rfl | rfl | rfl := hx <;> simp only [u8, u16, u32] <;> grind

/-- A value of a legal frame reads back at its offset. -/
theorem Frame.valueAt_field {f : Frame} (h : f.legal) (k : Nat) (hk : k < f.fields.length) :
    valueAt (withCheck (bigEndians f.fields)) (widths (f.fields.take k)) f.fields[k].width = f.fields[k].value :=
  valueAt_bigEndians_getElem k hk (Frame.fields_fit h _ (List.getElem_mem hk)) _

/-! ### PRESENCE (R180) -/

theorem length_presence_none (sender minute : Nat) (extended : Bool) :
    (bigEndians (Frame.presence sender extended minute none).fields).length = 14 := by
  rw [length_bigEndians]
  rfl

theorem parseFrame_presence_none {sender minute : Nat} {extended : Bool}
    (h : (Frame.presence sender extended minute none).legal) :
    parseFrame (Frame.presence sender extended minute none).bytes = some (.presence sender extended minute none) := by
  rw [Frame.bytes_eq]
  have hread := Frame.valueAt_field h
  have hlength := length_presence_none sender minute extended
  have hkind : valueAt _ 0 1 = 1 := hread 0 (by decide : 0 < 7)
  have hsender : valueAt _ 1 1 = sender := hread 1 (by decide : 1 < 7)
  have hcapability : valueAt _ 2 1 = (if extended then 3 else 1) := hread 2 (by decide : 2 < 7)
  have hclaim : valueAt _ 3 1 = 0 := hread 3 (by decide : 3 < 7)
  have hbody : valueAt _ 4 2 = 8 := hread 4 (by decide : 4 < 7)
  have hminute : valueAt _ 6 4 = minute := hread 5 (by decide : 5 < 7)
  have hzero : valueAt _ 10 4 = 0 := hread 6 (by decide : 6 < 7)
  rw [(parseFrame_withCheck (by omega) (by omega) hsender h.1).1 hkind]
  unfold parsePresence
  simp only [hcapability, hclaim, hbody, hminute, hzero, length_withCheck, hlength]
  cases extended <;> rfl

theorem length_presence_some (sender minute : Nat) (extended : Bool) (c : Claim) :
    (bigEndians (Frame.presence sender extended minute (some c)).fields).length = 18 := by
  rw [length_bigEndians]
  rfl

theorem parseFrame_presence_some {sender minute : Nat} {extended : Bool} {c : Claim}
    (h : (Frame.presence sender extended minute (some c)).legal) :
    parseFrame (Frame.presence sender extended minute (some c)).bytes =
      some (.presence sender extended minute (some c)) := by
  rw [Frame.bytes_eq]
  have hread := Frame.valueAt_field h
  have hlength := length_presence_some sender minute extended c
  have hkind : valueAt _ 0 1 = 1 := hread 0 (by decide : 0 < 10)
  have hsender : valueAt _ 1 1 = sender := hread 1 (by decide : 1 < 10)
  have hcapability : valueAt _ 2 1 = (if extended then 3 else 1) := hread 2 (by decide : 2 < 10)
  have hclaim : valueAt _ 3 1 = 1 := hread 3 (by decide : 3 < 10)
  have hbody : valueAt _ 4 2 = 12 := hread 4 (by decide : 4 < 10)
  have hminute : valueAt _ 6 4 = minute := hread 5 (by decide : 5 < 10)
  have hbacklog : valueAt _ 10 4 = c.backlog := hread 6 (by decide : 6 < 10)
  have hseconds : valueAt _ 14 2 = c.seconds := hread 7 (by decide : 7 < 10)
  have hpaused : valueAt _ 16 1 = (if c.paused then 1 else 0) := hread 8 (by decide : 8 < 10)
  have hzero : valueAt _ 17 1 = 0 := hread 9 (by decide : 9 < 10)
  rw [(parseFrame_withCheck (by omega) (by omega) hsender h.1).1 hkind]
  unfold parsePresence
  simp only [hcapability, hclaim, hbody, hminute, hbacklog, hseconds, hpaused, hzero, length_withCheck, hlength]
  obtain ⟨backlog, seconds, paused⟩ := c
  cases extended <;> cases paused <;> rfl

/-! ### USAGE (R180) -/

theorem widths_append (l m : List Field) : widths (l ++ m) = widths l + widths m := by simp [widths]

theorem widths_usageEntries (entries : List UsageEntry) :
    widths (entries.flatMap UsageEntry.fields) = 8 * entries.length := by
  induction entries with
  | nil => rfl
  | cons e rest ih =>
    rw [List.flatMap_cons, widths_append, ih, List.length_cons]
    show 8 + _ = _
    omega

theorem length_usage (sender : Nat) (format : UsageFormat) (entries : List UsageEntry) :
    (bigEndians (Frame.usage sender format entries).fields).length = 6 + 8 * entries.length := by
  rw [length_bigEndians, Frame.fields, widths_append, widths_usageEntries]
  rfl

/-- An entry of a USAGE frame reads back at its place. -/
theorem valueAt_usageEntry {sender : Nat} {format : UsageFormat} {entries : List UsageEntry} {k : Nat}
    (h : (Frame.usage sender format entries).legal) (hk : k < entries.length) :
    let b := withCheck (bigEndians (Frame.usage sender format entries).fields)
    valueAt b (6 + 8 * k) 4 = entries[k].principal ∧ valueAt b (6 + 8 * k + 4) 4 = entries[k].value := by
  intro b
  let header := [u8 2, u8 sender, u8 format.code, u8 entries.length, u16 (8 * entries.length)]
  have hfields : (Frame.usage sender format entries).fields =
      header ++ (entries.take k).flatMap UsageEntry.fields ++
        (u32 entries[k].principal :: u32 entries[k].value :: (entries.drop (k + 1)).flatMap UsageEntry.fields) := by
    have hsplit : entries.flatMap UsageEntry.fields =
        (entries.take k ++ entries[k] :: entries.drop (k + 1)).flatMap UsageEntry.fields := by
      rw [List.getElem_cons_drop, List.take_append_drop]
    rw [Frame.fields, hsplit, List.flatMap_append, List.append_assoc]
    rfl
  have hbefore : widths (header ++ (entries.take k).flatMap UsageEntry.fields) = 6 + 8 * k := by
    rw [widths_append, widths_usageEntries, List.length_take_of_le (Nat.le_of_lt hk)]
    rfl
  obtain ⟨_, _, _, hentries⟩ := h
  obtain ⟨hprincipal, hvalue⟩ := hentries _ (List.getElem_mem hk)
  simp only [max32] at hprincipal hvalue
  constructor
  · have hread := valueAt_bigEndians (before := header ++ (entries.take k).flatMap UsageEntry.fields)
      (f := u32 entries[k].principal) (by simp only [u32]; omega)
      (u32 entries[k].value :: (entries.drop (k + 1)).flatMap UsageEntry.fields)
      (bigEndian 2 (crc16 (bigEndians (Frame.usage sender format entries).fields)).toNat)
    rw [hbefore, ← hfields] at hread
    exact hread
  · have hread := valueAt_bigEndians
      (before := header ++ (entries.take k).flatMap UsageEntry.fields ++ [u32 entries[k].principal])
      (f := u32 entries[k].value) (by simp only [u32]; omega) ((entries.drop (k + 1)).flatMap UsageEntry.fields)
      (bigEndian 2 (crc16 (bigEndians (Frame.usage sender format entries).fields)).toNat)
    rw [widths_append, hbefore, List.append_assoc _ [_] _, List.singleton_append, ← hfields] at hread
    exact hread

theorem parseFrame_usage {sender : Nat} {format : UsageFormat} {entries : List UsageEntry}
    (h : (Frame.usage sender format entries).legal) :
    parseFrame (Frame.usage sender format entries).bytes = some (.usage sender format entries) := by
  rw [Frame.bytes_eq]
  have hread := Frame.valueAt_field h
  have hentry (k : Nat) (hk : k < entries.length) := valueAt_usageEntry h hk
  obtain ⟨hstation, hsome, hlimit, _⟩ := h
  have hlength := length_usage sender format entries
  have hmost : entries.length ≤ 30 := Nat.le_trans hlimit (by cases format <;> decide)
  have hfields : 5 ≤ (Frame.usage sender format entries).fields.length := by simp [Frame.fields]
  have hkind : valueAt _ 0 1 = 2 := hread 0 (by omega)
  have hsender : valueAt _ 1 1 = sender := hread 1 (by omega)
  have hformat : valueAt _ 2 1 = format.code := hread 2 (by omega)
  have hcount : valueAt _ 3 1 = entries.length := hread 3 (by omega)
  have hbody : valueAt _ 4 2 = 8 * entries.length := hread 4 (by omega)
  rw [(parseFrame_withCheck (by omega) (by omega) hsender hstation).2 hkind]
  have hentries : ((List.range entries.length).map fun k =>
      (⟨valueAt (withCheck (bigEndians (Frame.usage sender format entries).fields)) (6 + 8 * k) 4,
        valueAt (withCheck (bigEndians (Frame.usage sender format entries).fields)) (6 + 8 * k + 4) 4⟩ : UsageEntry)) =
      entries := by
    refine List.ext_getElem (by simp) fun k hk hk' => ?_
    obtain ⟨hprincipal, hvalue⟩ := hentry k hk'
    simp only [List.getElem_map, List.getElem_range, hprincipal, hvalue]
  have htotal : (withCheck (bigEndians (Frame.usage sender format entries).fields)).length =
      6 + 8 * entries.length + 2 := by rw [length_withCheck, hlength]
  unfold parseUsage
  simp only [hformat, hcount, hbody, hentries, htotal]
  cases format with
  | base => exact if_pos ⟨hsome, hlimit, trivial, trivial⟩
  | extended => exact if_pos ⟨hsome, hlimit, trivial, trivial⟩

/-- Settles O52: each kind of frame reads back by its fields. -/
theorem framesParseBack : Obligations.FramesParseBack := by
  intro f h
  match f with
  | .usage sender format entries =>
    have hlength := length_usage sender format entries
    refine ⟨parseFrame_usage h, ?_⟩
    obtain ⟨_, hsome, hlimit, _⟩ := h
    have hmost : entries.length ≤ 30 := Nat.le_trans hlimit (by cases format <;> decide)
    rw [Frame.bytes_eq, length_withCheck]
    omega
  | .presence sender extended minute none =>
    have hlength := length_presence_none sender minute extended
    refine ⟨parseFrame_presence_none h, ?_⟩
    rw [Frame.bytes_eq, length_withCheck]
    omega
  | .presence sender extended minute (some c) =>
    have hlength := length_presence_some sender minute extended c
    refine ⟨parseFrame_presence_some h, ?_⟩
    rw [Frame.bytes_eq, length_withCheck]
    omega

end Sys2Proof.Machine
end

section
/-! PROOFS. The configuration load: the loader's transfer, the image's header and check tests, and its fields, each
clamped (O5). -/

namespace Sys2Proof.Machine

/-! ### The transfer (R172) -/

theorem throughAddress_loadTransfer (wide : Bool) :
    let last := if wide = true then 3 else 2
    (∀ place < last, throughAddress place (loadTransfer wide) = (loadTransfer wide).take (place + 2)) ∧
    throughAddress last (loadTransfer wide) = (loadTransfer wide).take (last + 3) := by
  cases wide <;> decide

/-! ### The header and check tests (R172, R181) -/

/-- A part of a list is the bytes of a value exactly when the value read there is that one. -/
theorem take_drop_eq_bigEndian_iff {l : List Byte} {offset width v : Nat} (h : offset + width ≤ l.length)
    (hv : v < 256 ^ width) : (l.drop offset).take width = bigEndian width v ↔ valueAt l offset width = v := by
  have hlength : ((l.drop offset).take width).length = width := by simp; omega
  rw [valueAt, bytesAt_eq_take_drop h]
  constructor
  · intro heq
    rw [heq, fromBigEndian_bigEndian hv]
  · intro heq
    rw [← heq]
    conv => lhs; rw [← bigEndian_fromBigEndian ((l.drop offset).take width), hlength]

theorem header_iff {bytes : List Byte} (h : bytes.length = 39) :
    bytes.take 4 = [0x5A#8, 0x16#8, 0x00#8, 0x27#8] ↔ valueAt bytes 0 2 = 0x5A16 ∧ valueAt bytes 2 2 = 0x0027 := by
  have hfirst := take_drop_eq_bigEndian_iff (l := bytes) (offset := 0) (width := 2) (v := 0x5A16) (by omega) (by decide)
  have hsecond := take_drop_eq_bigEndian_iff (l := bytes) (offset := 2) (width := 2) (v := 0x0027) (by omega)
    (by decide)
  have hsplit : bytes.take 4 = (bytes.drop 0).take 2 ++ (bytes.drop 2).take 2 := List.take_add (i := 2) (j := 2)
  rw [← hfirst, ← hsecond, hsplit]
  constructor
  · intro heq
    exact List.append_inj (s₂ := [0x5A#8, 0x16#8]) heq (by simp; omega)
  · rintro ⟨hfirst, hsecond⟩
    rw [hfirst, hsecond]
    rfl

theorem check_iff {bytes : List Byte} (h : bytes.length = 39) :
    bytes.drop 37 = bigEndian 2 (crc16 (bytes.take 37)).toNat ↔
      valueAt bytes 37 2 = (crc16 (bytes.take 37)).toNat := by
  have hlast : (bytes.drop 37).take 2 = bytes.drop 37 := List.take_of_length_le (by simp; omega)
  rw [← take_drop_eq_bigEndian_iff (by omega) (crc16 (bytes.take 37)).isLt, hlast]

section Outcome

variable {bytes : List Byte} (h : bytes.length = 39)
include h

theorem loadOutcome_badHeader (hheader : bytes.take 4 ≠ [0x5A#8, 0x16#8, 0x00#8, 0x27#8]) :
    loadOutcome (.image bytes) = { reason := .badHeader } := by
  rw [ne_eq, header_iff h] at hheader
  exact if_pos (.inr (by omega))

theorem loadOutcome_goodHeader (hheader : bytes.take 4 = [0x5A#8, 0x16#8, 0x00#8, 0x27#8]) :
    loadOutcome (.image bytes) =
      if bytes.drop 37 = bigEndian 2 (crc16 (bytes.take 37)).toNat then
        { config := (clampImage bytes).1, source := .image, reason := .none, clamped := (clampImage bytes).2 }
      else { reason := .badCheck } := by
  rw [header_iff h] at hheader
  have hpass : ¬ (bytes.length ≠ 39 ∨ valueAt bytes 0 2 ≠ 0x5A16 ∨ valueAt bytes 2 2 ≠ 0x0027) := by omega
  simp only [loadOutcome, if_neg hpass, check_iff h, ite_not]

end Outcome

/-! ### The fields, clamped (R173, R181) -/

theorem fromLittleEndian_eq_foldr (l : List Byte) : fromLittleEndian l = l.foldr (fun b n => 256 * n + b.toNat) 0 := by
  induction l with
  | nil => rfl
  | cons b l ih => rw [fromLittleEndian, List.foldr_cons, ← ih, Nat.add_comm]

theorem fromBigEndian_eq_foldl (l : List Byte) : fromBigEndian l = l.foldl (fun n b => 256 * n + b.toNat) 0 := by
  rw [fromBigEndian, fromLittleEndian_eq_foldr, List.foldr_reverse]

theorem valueAt_eq_foldl {l : List Byte} {offset width : Nat} (h : offset + width ≤ l.length) :
    valueAt l offset width = ((l.drop offset).take width).foldl (fun n b => 256 * n + b.toNat) 0 := by
  rw [valueAt, bytesAt_eq_take_drop h, fromBigEndian_eq_foldl]

theorem valueAt_lt (l : List Byte) (offset width : Nat) : valueAt l offset width < 256 ^ width := by
  have h := fromLittleEndian_lt (bytesAt l offset width).reverse
  simpa [valueAt, fromBigEndian, bytesAt] using h

section Clamps

variable {low high v : Nat}

theorem clampField_low (h : v < low) : clampField low high v = (low, 1) := if_pos h

theorem clampField_high (hle : low ≤ high) (h : high < v) : clampField low high v = (high, 1) := by
  rw [clampField, if_neg (by omega), if_pos h]

theorem clampField_within (h1 : low ≤ v) (h2 : v ≤ high) : clampField low high v = (v, 0) := by
  rw [clampField, if_neg (by omega), if_neg (by omega)]

/-- A field is brought into its range, and counted when that changed it (R173). -/
theorem clampField_eq (hle : low ≤ high) (v : Nat) :
    (clampField low high v).1 = max low (min high v) ∧
    (clampField low high v).2 = if (clampField low high v).1 ≠ v then 1 else 0 := by
  by_cases h1 : v < low
  · rw [clampField_low h1]
    exact ⟨by dsimp only; omega, (if_pos (by dsimp only; omega)).symm⟩
  · by_cases h2 : high < v
    · rw [clampField_high hle h2]
      exact ⟨by dsimp only; omega, (if_pos (by dsimp only; omega)).symm⟩
    · rw [clampField_within (by omega) (by omega)]
      exact ⟨by dsimp only; omega, (if_neg (by simp)).symm⟩

theorem clampFlag_eq (v : Nat) :
    (clampFlag true v).1 = decide (v ≠ 0) ∧ (clampFlag true v).2 = if 1 < v then 1 else 0 := by
  match v with
  | 0 => exact ⟨rfl, rfl⟩
  | 1 => exact ⟨rfl, rfl⟩
  | n + 2 => exact ⟨by simp [clampFlag], by simp [clampFlag]⟩

theorem clampIsolation_eq (lapse v : Nat) :
    (clampIsolation lapse v).1 = max lapse (max 1000 (min 60000 v)) ∧
    (clampIsolation lapse v).2 = if v < 1000 ∨ 60000 < v ∨ v < lapse then 1 else 0 := by
  obtain ⟨hvalue, hcount⟩ := clampField_eq (show 1000 ≤ 60000 by decide) v
  unfold clampIsolation
  dsimp only
  by_cases hraise : (clampField 1000 60000 v).1 < lapse
  · rw [if_pos hraise]
    exact ⟨by dsimp only; omega, (if_pos (by omega)).symm⟩
  · rw [if_neg hraise]
    refine ⟨by omega, hcount.trans ?_⟩
    congr 1
    rw [eq_iff_iff]
    omega

end Clamps

/-- The number of fields that were changed, as a count (R173). -/
theorem count_cons_decide (c : Prop) [Decidable c] (l : List Bool) :
    (decide c :: l).count true = (if c then 1 else 0) + l.count true := by
  by_cases h : c <;> simp [h, Nat.add_comm]

/-- Settles O5: the transfer by its steps, the two tests, and every field by its offset and range. -/
theorem imageIsTestedAndClamped : Obligations.ImageIsTestedAndClamped := by
  refine ⟨rfl, rfl, fun wide => ?transfer, fun _ => rfl, fun bytes h => ?tests,
    fun image => ⟨legalConfig_clampImage image, clampImage_count image⟩,
    fun low high v hle => ⟨clampField_low, clampField_high hle, clampField_within⟩, fun image h => ?fields⟩
  case transfer =>
    intro last
    obtain ⟨hbefore, hlast⟩ := throughAddress_loadTransfer wide
    refine ⟨fun place hplace => ?_, ?_, fun bytes => ?_, fun point => rfl⟩
    · rw [← hbefore place hplace, loadDriven, Nat.min_eq_left (Nat.le_of_lt hplace)]
    · rw [← hlast, loadDriven, Nat.min_self]
    · simp only [loadDriven]
      cases (loadOutcome (.image bytes)).source with
      | image => exact (List.append_nil _).symm
      | defaults => rfl
  case tests =>
    refine ⟨loadOutcome_badHeader h, fun hheader hcheck => ?_, fun hheader hcheck => ?_⟩
    · rw [loadOutcome_goodHeader h hheader, if_neg hcheck]
    · rw [loadOutcome_goodHeader h hheader, if_pos hcheck]
  case fields =>
    intro read within c
    have hread {offset width : Nat} (hin : offset + width ≤ 39) : valueAt image offset width = read offset width :=
      valueAt_eq_foldl (h ▸ hin)
    have hfield (low high offset width : Nat) (hle : low ≤ high) (hin : offset + width ≤ 39) :
        (clampField low high (valueAt image offset width)).1 = within low high (read offset width) ∧
        (clampField low high (valueAt image offset width)).2 =
          if (clampField low high (valueAt image offset width)).1 ≠ read offset width then 1 else 0 := by
      rw [hread hin]
      exact clampField_eq hle _
    have hlearning : clampField 0 65535 (valueAt image 10 2) = (read 10 2, 0) := by
      have hlt := valueAt_lt image 10 2
      rw [clampField_within (Nat.zero_le _) (by omega), hread (by decide)]
    have hisolation : (clampIsolation (c.lapseCount * c.presenceInterval) (valueAt image 8 2)).1 =
          max (c.lapseCount * c.presenceInterval) (within 1000 60000 (read 8 2)) ∧
        (clampIsolation (c.lapseCount * c.presenceInterval) (valueAt image 8 2)).2 =
          if read 8 2 < 1000 ∨ 60000 < read 8 2 ∨ read 8 2 < c.lapseCount * c.presenceInterval then 1 else 0 := by
      rw [hread (by decide)]
      exact clampIsolation_eq _ _
    have hflag (offset : Nat) (hin : offset + 1 ≤ 39) :
        (clampFlag true (valueAt image offset 1)).1 = decide (read offset 1 ≠ 0) ∧
        (clampFlag true (valueAt image offset 1)).2 = if 1 < read offset 1 then 1 else 0 := by
      rw [hread hin]
      exact clampFlag_eq _
    have hrate := hfield 0 c.linkCapacity 28 2 (Nat.zero_le _) (by decide)
    refine ⟨(hfield 1 16 4 1 (by decide) (by decide)).1, (hfield 100 10000 5 2 (by decide) (by decide)).1,
      (hfield 2 8 7 1 (by decide) (by decide)).1, hisolation.1, congrArg Prod.fst hlearning,
      (hfield 1 4096 12 2 (by decide) (by decide)).1, (hfield 1 1048575 14 4 (by decide) (by decide)).1,
      (hfield 1 65535 18 2 (by decide) (by decide)).1, (hfield 1 32 20 1 (by decide) (by decide)).1,
      (hfield 16 4096 21 2 (by decide) (by decide)).1, (hfield 1 8 23 1 (by decide) (by decide)).1,
      (hfield 0 500 24 2 (by decide) (by decide)).1, (hfield 1 65535 26 2 (by decide) (by decide)).1,
      hrate.1.trans (Nat.zero_max _), (hfield 1 3600 30 2 (by decide) (by decide)).1, (hflag 32 (by decide)).1,
      (hflag 33 (by decide)).1, (hfield 0 60 34 1 (by decide) (by decide)).1,
      (hfield 2 1000 35 2 (by decide) (by decide)).1, ?count⟩
    have hlapse : c.lapseCount * c.presenceInterval =
        (clampField 2 8 (valueAt image 7 1)).1 * (clampField 100 10000 (valueAt image 5 2)).1 := rfl
    have hcapacity : c.linkCapacity = (clampField 1 65535 (valueAt image 26 2)).1 := rfl
    rw [hlapse] at hisolation
    rw [hcapacity] at hrate
    simp only [count_cons_decide, List.count_nil]
    unfold clampImage
    dsimp only
    rw [hlearning, (hfield 1 16 4 1 (by decide) (by decide)).2, (hfield 100 10000 5 2 (by decide) (by decide)).2,
      (hfield 2 8 7 1 (by decide) (by decide)).2, hisolation.2, (hfield 1 4096 12 2 (by decide) (by decide)).2,
      (hfield 1 1048575 14 4 (by decide) (by decide)).2, (hfield 1 65535 18 2 (by decide) (by decide)).2,
      (hfield 1 32 20 1 (by decide) (by decide)).2, (hfield 16 4096 21 2 (by decide) (by decide)).2,
      (hfield 1 8 23 1 (by decide) (by decide)).2, (hfield 0 500 24 2 (by decide) (by decide)).2,
      (hfield 1 65535 26 2 (by decide) (by decide)).2, hrate.2, (hfield 1 3600 30 2 (by decide) (by decide)).2,
      (hflag 32 (by decide)).2, (hflag 33 (by decide)).2, (hfield 0 60 34 1 (by decide) (by decide)).2,
      (hfield 2 1000 35 2 (by decide) (by decide)).2]
    simp only [Nat.add_assoc, Nat.add_zero]
    rfl

end Sys2Proof.Machine
end

section
/-! PROOFS. Transmit completion and the sync: what a completed frame announces, and what becomes of the held entries
of the principals that it carried (O19, O20). -/

namespace Sys2Proof.Machine

/-! ### What a frame announces (R31 step 1) -/

/-- La after a frame that carried these entries. -/
def carriedLa (l : List NoticeEntry) (id la : Nat) : Nat :=
  l.foldl (fun la e => if e.principal = id then e.value else la) la

/-- The part with the announced values in place. -/
def State.announced (s : State) (l : List NoticeEntry) : State :=
  { s with quota := { s.quota with principals := s.quota.principals.map fun p =>
    { p with la := carriedLa l p.id p.la } } }

theorem State.announce_all_eq (l : List NoticeEntry) (s : State) : l.foldl State.announce s = s.announced l := by
  induction l generalizing s with
  | nil => simp [State.announced, carriedLa]
  | cons e l ih =>
    rw [List.foldl_cons, ih]
    simp only [State.announced, State.announce, Quota.update, List.map_map]
    congr 2
    refine List.map_congr_left fun p _ => ?_
    by_cases h : p.id = e.principal
    · simp [h, carriedLa]
    · simp [h, carriedLa, Ne.symm h]

theorem State.principal_announced (s : State) (l : List NoticeEntry) (id : Nat) :
    (s.announced l).principal id = (s.principal id).map fun p => { p with la := carriedLa l p.id p.la } :=
  List.find?_map

/-! ### What the resolving of held entries leaves alone -/

/-- The bus and every La stay. -/
def KeepsLa (s t : State) : Prop :=
  t.bus = s.bus ∧ ∀ id, (t.principal id).map (·.la) = (s.principal id).map (·.la)

theorem KeepsLa.trans {s t u : State} (h : KeepsLa s t) (k : KeepsLa t u) : KeepsLa s u :=
  ⟨k.1.trans h.1, fun id => (k.2 id).trans (h.2 id)⟩

theorem KeepsLa.of_quota {s t : State} (hbus : t.bus = s.bus) (hprincipals : t.quota.principals = s.quota.principals) :
    KeepsLa s t := ⟨hbus, fun id => by simp only [State.principal, Quota.find, hprincipals]⟩

theorem OnlyExpired.keepsLa {s t : State} (h : OnlyExpired s t) : KeepsLa s t := by
  obtain ⟨hframe, _, _, hgraceless, _⟩ := h
  refine ⟨hframe .bus (by simp), fun id => ?_⟩
  have hla (o : Option Principal) : o.map (·.la) = (o.map (·.graceless)).map (·.la) := by cases o <;> rfl
  rw [hla, hgraceless id, ← hla]

theorem State.grant_keepsLa (s : State) (id n : Nat) (cause : QuotaCause) : KeepsLa s (s.grant id n cause) := by
  refine ⟨s.grant_frame id n cause .bus (by simp), fun j => ?_⟩
  cases hp : s.principal id with
  | none => rw [State.grant_none s n cause hp]
  | some p =>
    obtain ⟨hsame, hothers, _⟩ := grantRaisesLocalUsageAndQueues s id n cause p hp
    by_cases hj : j = id
    · rw [hj, hsame, hp]; rfl
    · rw [hothers j hj]

theorem State.resolveEntry_keepsLa (s : State) (first : Bool) (e : HeldEntry) :
    KeepsLa s (s.resolveEntry first e).2 := by
  cases horigin : e.origin with
  | charge address =>
    rw [State.resolveEntry_charge s first horigin]
    split
    · exact .of_quota rfl rfl
    · exact (s.grant_keepsLa _ _ _).trans ((KeepsLa.of_quota rfl rfl).trans (State.insertionTest_expired _ s).keepsLa)
    · exact .of_quota rfl rfl
  | restore slot =>
    cases hj : s.job slot with
    | none => rw [State.resolveEntry_stray s first horigin hj]; exact .of_quota rfl rfl
    | some j =>
      rw [State.resolveEntry_restore s first horigin hj]
      split
      · exact .of_quota rfl rfl
      · exact (s.grant_keepsLa _ _ _).trans ((KeepsLa.of_quota rfl rfl).trans (State.insertionTest_expired _ s).keepsLa)
      · exact .of_quota rfl rfl

theorem resolveHeld_keepsLa (id : Nat) (l : List HeldEntry) (first : Bool) (s : State) :
    KeepsLa s (resolveHeld id first l s).2 := by
  induction l generalizing first s with
  | nil => exact .of_quota rfl rfl
  | cons e rest ih =>
    unfold resolveHeld
    dsimp only
    split
    · have hentry := s.resolveEntry_keepsLa first e
      split
      · exact hentry.trans (ih false _)
      · exact hentry.trans ((KeepsLa.of_quota rfl rfl).trans (ih false _))
    · exact ih first s

theorem State.resolvePrincipals_keepsLa (l : List NoticeEntry) (s : State) :
    KeepsLa s (l.foldl (fun s e => s.resolvePrincipal e.principal) s) := by
  induction l generalizing s with
  | nil => exact .of_quota rfl rfl
  | cons e l ih =>
    exact ((resolveHeld_keepsLa e.principal s.quota.held true s).trans (.of_quota rfl rfl)).trans (ih _)

/-! ### No held entry of a carried principal -/

theorem resolveHeld_of_others {id : Nat} {l : List HeldEntry} (h : ∀ e ∈ l, e.principal ≠ id) (first : Bool)
    (s : State) :
    resolveHeld id first l s = (l, s) := by
  induction l with
  | nil => rfl
  | cons e rest ih =>
    have hrest := ih fun x hx => h x (by simp [hx])
    rw [resolveHeld, if_neg (fun hentry => h e (by simp) hentry.1), hrest]

theorem State.resolvePrincipals_of_others {l : List NoticeEntry} {s : State}
    (h : ∀ e ∈ s.quota.held, ∀ x ∈ l, e.principal ≠ x.principal) :
    l.foldl (fun s e => s.resolvePrincipal e.principal) s = s := by
  induction l with
  | nil => rfl
  | cons x l ih =>
    have hfirst : s.resolvePrincipal x.principal = s := by
      unfold State.resolvePrincipal
      rw [resolveHeld_of_others fun e he => h e he x (by simp)]
    rw [List.foldl_cons, hfirst, ih fun e he y hy => h e he y (by simp [hy])]

/-! ### Transmit completion (R31, R45) -/

/-- The part with the completed frame released (R45). -/
def State.frameSent (s : State) : State := s.setTx { s.bus.tx with state := .idle, frame := none }

theorem exec_transmitCompletion_usage {s : State} {sender : Nat} {format : UsageFormat} {entries : List UsageEntry}
    {r : FrameRecord} (hstate : s.bus.tx.state = .sending)
    (hframe : s.bus.tx.frame = some (.usage sender format entries))
    (hr : s.notice.frame = some r) :
    let u := r.entries.foldl (fun s e => s.resolvePrincipal e.principal) (s.frameSent.announced r.entries)
    exec .transmitCompletion s = .next { u with notice := { u.notice with frame := none } } := by
  intro u
  have hsync : s.frameSent.sync = { u with notice := { u.notice with frame := none } } := by
    rw [State.sync_eq (s := s.frameSent) hr, State.carriedResolved, State.announce_all_eq]
  show execTransmitCompletion s = _
  simp only [execTransmitCompletion, hstate, hframe]
  exact congrArg Host.Outcome.next hsync

/-- Settles O19: a completed PRESENCE, and the sync with its announcements. -/
theorem transmitCompletionIsTheSync : Obligations.TransmitCompletionIsTheSync := by
  intro s f hstate hframe
  refine ⟨fun sender extended minute claim hf => ?_, fun sender format entries r hf hr => ?_⟩
  · subst hf
    refine ⟨s.frameSent, ?_, rfl, .bus s _⟩
    show execTransmitCompletion s = _
    simp only [execTransmitCompletion, hstate, hframe, State.frameSent]
  · intro carried
    subst hf
    obtain ⟨hbus, hla⟩ := State.resolvePrincipals_keepsLa r.entries (s.frameSent.announced r.entries)
    refine ⟨_, exec_transmitCompletion_usage hstate hframe hr, hbus, rfl, fun id p hp => ?_, fun hothers => ?_⟩
    · have hannounced := hla id
      rw [State.principal_announced, show s.frameSent.principal id = some p from hp] at hannounced
      obtain ⟨q, hq, hvalue⟩ := Option.map_eq_some_iff.1 hannounced
      refine ⟨q, hq, hvalue.trans ?_⟩
      show carriedLa r.entries p.id p.la = _
      rw [State.principal_id hp]
      rfl
    · rw [State.resolvePrincipals_of_others (s := s.frameSent.announced r.entries) hothers]
      refine ⟨rfl, rfl, fun b hb => ?_⟩
      cases b with
      | bus | quota | notice => simp at hb
      | _ => rfl

/-! ### The held entries at sync, one by one (R33, R42) -/

theorem Verdict.shareFree_ne_held (v : Verdict) : v.shareFree ≠ .held := by cases v <;> nofun

theorem State.departure_departed (s : State) : Departed s s.departure :=
  ⟨fun k _ => s.job_departure k, rfl, s.departure_frame⟩

section EntryResolves

variable {s u : State} {e : HeldEntry} {verdict : Verdict}

theorem entryResolves_charge {address : Nat} (h : e.origin = .charge address) :
    EntryResolves s u e verdict ↔ ChargeResolves s u e address verdict := by simp only [EntryResolves, h]

theorem entryResolves_restore {slot : Nat} {j : Job} (h : e.origin = .restore slot) (hj : s.job slot = some j) :
    EntryResolves s u e verdict ↔ ChunkResolves s u e slot j verdict := by simp only [EntryResolves, h, hj]

theorem entryResolves_stray {slot : Nat} (h : e.origin = .restore slot) (hj : s.job slot = none) :
    EntryResolves s u e verdict ↔ u = s := by simp only [EntryResolves, h, hj]

end EntryResolves

/-- An entry stays exactly when its evaluation holds it, and leaves as its evaluation says. -/
theorem State.resolveEntry_spec (s : State) (first : Bool) (e : HeldEntry) :
    (e.verdict first s = .held ∧ s.resolveEntry first e = s.entryStays e) ∨
    (e.verdict first s ≠ .held ∧ (s.resolveEntry first e).1 = false ∧
      EntryResolves s (s.resolveEntry first e).2 e (e.verdict first s)) := by
  cases horigin : e.origin with
  | charge address =>
    rw [State.resolveEntry_charge s first horigin, entryResolves_charge horigin]
    cases hv : e.verdict first s with
    | held => exact .inl ⟨rfl, rfl⟩
    | granted => exact .inr ⟨nofun, rfl, fun _ => rfl, fun h => absurd rfl h⟩
    | unknown | overQuota | shareLimit => exact .inr ⟨nofun, rfl, nofun, fun _ => rfl⟩
  | restore slot =>
    cases hj : s.job slot with
    | none =>
      rw [State.resolveEntry_stray s first horigin hj, entryResolves_stray horigin hj]
      refine .inr ⟨?_, rfl, rfl⟩
      simp only [HeldEntry.verdict, horigin, hj]
      cases first <;> nofun
    | some j =>
      rw [State.resolveEntry_restore s first horigin hj, entryResolves_restore horigin hj]
      cases hv : e.verdict first s with
      | held => exact .inl ⟨rfl, rfl⟩
      | granted =>
        refine .inr ⟨nofun, rfl, fun _ => ?_, fun h => absurd rfl h⟩
        dsimp only
        rw [State.grantChunk_eq _ slot j _ (s.job_lt hj)]
        rfl
      | unknown | overQuota | shareLimit => exact .inr ⟨nofun, rfl, nofun, fun _ => rfl⟩

theorem resolveHeld_resolves (id : Nat) (l : List HeldEntry) (first : Bool) (s : State) :
    SyncResolves id first l s (resolveHeld id first l s).1 (resolveHeld id first l s).2 := by
  induction l generalizing first s with
  | nil => exact .done first s
  | cons e rest ih =>
    by_cases hentry : e.principal = id ∧ s.frozen e = false
    · obtain ⟨hv, hstays⟩ | ⟨hv, hleaves, hresolves⟩ := s.resolveEntry_spec first e
      · have heq : resolveHeld id first (e :: rest) s =
            (e :: (resolveHeld id false rest (s.queueUrgent e.principal)).1,
              (resolveHeld id false rest (s.queueUrgent e.principal)).2) := by
          rw [resolveHeld, if_pos hentry, hstays]
          rfl
        rw [heq]
        refine .stays hentry.1 hentry.2 hv ?_
        have hrest := ih false (s.queueUrgent e.principal)
        rw [hentry.1] at hrest ⊢
        exact hrest
      · have heq : resolveHeld id first (e :: rest) s =
            resolveHeld id false rest (s.resolveEntry first e).2.departure := by
          rw [resolveHeld, if_pos hentry]
          simp only [hleaves, Bool.false_eq_true, if_false]
        rw [heq]
        exact .leaves hentry.1 hentry.2 hv hresolves (State.departure_departed _) (ih false _)
    · have heq : resolveHeld id first (e :: rest) s =
          (e :: (resolveHeld id first rest s).1, (resolveHeld id first rest s).2) := by
        rw [resolveHeld, if_neg hentry]
      rw [heq]
      refine .passed ?_ (ih first s)
      by_cases hid : e.principal = id
      · exact .inr (by simpa [hid] using hentry)
      · exact .inl hid

theorem State.resolvePrincipals_resolve (l : List NoticeEntry) (s : State) :
    FrameResolves l s (l.foldl (fun s e => s.resolvePrincipal e.principal) s) := by
  induction l generalizing s with
  | nil => exact .done s
  | cons x l ih => exact .next (resolveHeld_resolves x.principal s.quota.held true s) (ih _)

/-! ### One carried principal with one held CHARGE (R33) -/

section SingleCharge

variable {s : State} {e : HeldEntry} {address : Nat}

theorem resolveHeld_single_frozen (id : Nat) (hfrozen : s.frozen e = true) : resolveHeld id true [e] s = ([e], s) := by
  rw [resolveHeld, if_neg (by simp [hfrozen])]
  rfl

theorem resolveHeld_single {id : Nat} (hid : e.principal = id) (hfrozen : s.frozen e = false)
    (hleaves : (s.resolveEntry true e).1 = false) :
    resolveHeld id true [e] s = ([], (s.resolveEntry true e).2.departure) := by
  rw [resolveHeld, if_pos ⟨hid, hfrozen⟩]
  simp only [hleaves, Bool.false_eq_true, if_false]
  rfl

theorem HeldEntry.verdict_first (horigin : e.origin = .charge address) :
    e.verdict true s = (s.evaluate e.principal e.amount).shareFree := by
  simp only [HeldEntry.verdict, horigin, if_true]

/-- The first held CHARGE leaves the list, whatever its evaluation says. -/
theorem State.resolveEntry_first_leaves (horigin : e.origin = .charge address) : (s.resolveEntry true e).1 = false := by
  obtain ⟨hv, _⟩ | ⟨_, hleaves, _⟩ := s.resolveEntry_spec true e
  · rw [HeldEntry.verdict_first horigin] at hv
    exact absurd hv (Verdict.shareFree_ne_held _)
  · exact hleaves

theorem State.resolveEntry_overQuota (horigin : e.origin = .charge address) {p : Principal}
    (hp : s.principal e.principal = some p) (hc : p.cls = .limited)
    (hover : p.quotaState = .hard ∨ p.quotaState = .expired ∨ p.hard < p.campus + e.amount) :
    (s.resolveEntry true e).2 = s.answerHeld address .overQuota := by
  rw [State.resolveEntry_charge s true horigin, HeldEntry.verdict_first horigin, State.evaluate_overQuota hp hc hover]
  rfl

theorem State.resolveEntry_granted (horigin : e.origin = .charge address) {p : Principal}
    (hp : s.principal e.principal = some p) (hc : p.cls = .limited)
    (hq : p.quotaState = .under ∨ p.quotaState = .soft) (hfits : p.campus + e.amount ≤ p.hard) :
    (s.resolveEntry true e).2 = ((s.grant e.principal e.amount .charge).answerHeld address
      ((s.grant e.principal e.amount .charge).grantCode e.principal)).insertionTest s := by
  rw [State.resolveEntry_charge s true horigin, HeldEntry.verdict_first horigin,
    State.evaluate_shareTest hp hc hq hfits, State.shareTest_shareFree]

/-- A granted CHARGE's principal, its grace apart, and its answer, after the expiry test. -/
theorem State.granted_first {p : Principal} (hp : s.principal e.principal = some p) (hc : p.cls = .limited) :
    let p' := { p with lc := p.lc + e.amount }
    let q := { p' with grace := p'.graceAfter s.clock.minute }
    let u := ((s.grant e.principal e.amount .charge).answerHeld address
      ((s.grant e.principal e.amount .charge).grantCode e.principal)).insertionTest s
    (∃ w, u.principal e.principal = some w ∧ { w with grace := q.grace } = q) ∧
    u.port.heldAnswers = s.port.heldAnswers ++
      [⟨address, ⟨if q.quotaState = .soft then .grantedSoft else .granted, true, []⟩⟩] := by
  obtain ⟨slot, id, cls, soft, hard, period, lc, la, remote, grace, jobs⟩ := p
  obtain rfl : cls = .limited := hc
  intro p' q u
  obtain ⟨hsame, _, _, _, _, hport, _, hcode, _⟩ :=
    grantRaisesLocalUsageAndQueues s e.principal e.amount .charge _ hp
  obtain ⟨_, _, _, hgraceless, _, ⟨records, hrecords⟩, _⟩ := State.insertionTest_expired
    ((s.grant e.principal e.amount .charge).answerHeld address
      ((s.grant e.principal e.amount .charge).grantCode e.principal)) s
  constructor
  · have hmapped := (hgraceless e.principal).trans (congrArg (Option.map Principal.graceless) hsame)
    obtain ⟨w, hw, hwq⟩ := Option.map_eq_some_iff.1 hmapped
    exact ⟨w, hw, congrArg (fun p : Principal => { p with grace := q.grace }) hwq⟩
  · rw [show u.port = _ from hrecords, Port.raises_heldAnswers]
    simp only [State.answerHeld, hport, Port.raises_heldAnswers, hcode]
    rfl

end SingleCharge

/-- Settles O20: the single held CHARGE by its evaluation, and in general every entry in order. -/
theorem firstHeldChargeAtSync : Obligations.FirstHeldChargeAtSync := by
  refine ⟨?single, fun s r sender format entries hstate hframe hr => ?general⟩
  case general =>
    exact ⟨_, State.resolvePrincipals_resolve r.entries (s.frameSent.announced r.entries),
      exec_transmitCompletion_usage hstate hframe hr⟩
  case single =>
    intro s r x e address p sender format entries hstate hframe hr hentries hheld hid horigin hp hc
    have hexec := exec_transmitCompletion_usage hstate hframe hr
    rw [hentries] at hexec
    generalize hs : s.frameSent.announced [x] = a at hexec
    have ha : a.quota.held = [e] := by rw [← hs]; exact hheld
    have hport : a.port = s.port := by rw [← hs]; rfl
    have hclock : a.clock = s.clock := by rw [← hs]; rfl
    have hannounced : a.principal x.principal = some { p with la := x.value } := by
      rw [← hs, State.principal_announced, show s.frameSent.principal x.principal = some p from hp]
      simp [carriedLa, State.principal_id hp]
    have hresolve : [x].foldl (fun s e => s.resolvePrincipal e.principal) a =
        { (resolveHeld x.principal true [e] a).2 with quota := { (resolveHeld x.principal true [e] a).2.quota with
          held := (resolveHeld x.principal true [e] a).1 } } := by
      show a.resolvePrincipal x.principal = _
      rw [State.resolvePrincipal, ha]
    rw [hresolve] at hexec
    refine ⟨_, hexec, fun hfault => ?_, fun hup => ?_⟩
    · have hfrozen : a.frozen e = true := by simp [State.frozen, horigin, hport, hfault]
      rw [resolveHeld_single_frozen x.principal hfrozen]
      exact ⟨rfl, hport⟩
    · have hfrozen : a.frozen e = false := by simp [State.frozen, horigin, hport, hup]
      rw [resolveHeld_single hid hfrozen (State.resolveEntry_first_leaves horigin)]
      rw [← hid] at hannounced ⊢
      refine ⟨rfl, fun hover => ?_, fun hq hfits => ?_⟩
      · rw [State.resolveEntry_overQuota horigin hannounced hc hover]
        refine ⟨hannounced, ?_⟩
        rw [← hport]
        rfl
      · rw [State.resolveEntry_granted horigin hannounced hc hq hfits]
        obtain ⟨hrecord, hanswers⟩ := State.granted_first (address := address) hannounced hc
        rw [hclock] at hrecord hanswers
        refine ⟨hrecord, ?_⟩
        rw [← hport]
        exact hanswers

end Sys2Proof.Machine
end
